-- ==== Sys2Proof/Word.lean ====
section
/-! DEFINITION. The words the manual treats as bits, and the fixed tables' indexes (00_scope, Conventions). -/

namespace Sys2Proof

/-- Half of a frame header: a command code or a tag (R177). -/
abbrev Byte := BitVec 8
/-- A word of a port transfer or of work memory (R112, Words at the ports). -/
abbrev Word := BitVec 16
/-- An audio sample, signed 16-bit two's complement. -/
abbrev Sample := BitVec 16
/-- The accumulator of a pass and a result-stack value, signed 48-bit two's complement (R62, R134). -/
abbrev Acc := BitVec 48
/-- A block number, a generation or a sample number: unsigned 32-bit, modulo 2^32. -/
abbrev Block := BitVec 32

/-- P0 to P3. -/
abbrev Port := Fin 4
abbrev Channel := Fin 16
abbrev ProfileId := Fin 32
abbrev SlotId := Fin 16

/-- One frame of a TDM lane: sixteen samples, one per channel or slot. -/
abbrev LaneFrame := Vector Sample 16

end Sys2Proof
end

