-- ==== Sys2Proof/Syntax.lean ====
section
/-! DEFINITION. The commands and events of the part: one constructor per row of spec/opcode_table.json, in its order. -/

namespace Sys2Proof

/-- A command frame as a transaction carried it (R177): the port, the tag of the header, and every word clocked after
the header (length word, payload, padding), none of them checked yet.
The number of words clocked in the transaction is one more than the body's. -/
structure Frame where
  port : Port
  tag  : Byte
  body : List Word
  deriving DecidableEq, Repr

/-- What can come about within a block event besides its own parts (R51, R55): an event of the part other than the lane's, or
the rise of chip-select on a port, with the code of the header and the rest of the frame. -/
inductive Inner where
  | arbiterStart
  | macStepEnd
  | passSuspended
  | stepDrained
  | routePassComplete
  | probePassComplete
  | jobPassEnd
  | commitCopy (profile : ProfileId)
  | profileFreed (profile : ProfileId)
  | moveTurn
  | moveWordCopy
  | contextOpStart (port : Port)
  | contextWordTransfer (port : Port)
  | housekeepingTick
  | keepaliveExpiry (port : Port) (wordsOut : Nat)
  | transactionStart (port : Port)
  | transactionOfNoWholeWord (port : Port)
  | frame (code : Byte) (frame : Frame)
  deriving DecidableEq, Repr

/-- One moment of a block event, in the order the world gives (R4): the engine's next turn (its expiry, then its question for one
profile after another, R64, R65), the controller's turn for a profile, a profile's bank flip, the slot map's turn for a slot, or
something else that falls between (log 7). -/
inductive Moment where
  | engine
  | controller (profile : ProfileId)
  | flip (profile : ProfileId)
  | slot (slot : SlotId)
  | inner (what : Inner)
  deriving DecidableEq, Repr

/-- What FRAME_TAKEN takes: the sixteen samples, and the order in which the parts of the block event that the frame may complete
are taken and what falls between them; what the list leaves out follows it: the engine, the controller, the bank flips, the slots
in number order (a DESIGN CHOICE of the model, log 7). -/
structure TakenFrame where
  samples : LaneFrame
  within  : List Moment
  deriving DecidableEq, Repr

/-- The 80 rows of the table. A client command carries its frame; its command code is the row's own (10.3). -/
inductive Instr where
  /-- POWER_ON_RESET (R17). Operand: bit n set when chip-select of port n is low at the release (R186). -/
  | powerOnReset (chipSelectLow : BitVec 4)
  /-- FRAME_SYNC (R12). -/
  | frameSync
  /-- INTERFACE_START (R10). -/
  | interfaceStart
  /-- CLOCK_RETURN (R9). -/
  | clockReturn
  /-- FRAME_TAKEN (R1). -/
  | frameTaken (frame : TakenFrame)
  /-- HOUSEKEEPING_TICK (R8). -/
  | housekeepingTick
  /-- CLOCK_LOSS (R8). -/
  | clockLoss
  /-- KEEPALIVE_EXPIRY (R183). Operands: the port, and the words already clocked out in the transaction in progress (R176). -/
  | keepaliveExpiry (port : Port) (wordsOut : Nat)
  /-- ARBITER_START (R78). -/
  | arbiterStart
  /-- MAC_STEP_END (R61). -/
  | macStepEnd
  /-- PASS_SUSPENDED (R80). -/
  | passSuspended
  /-- STEP_DRAINED (R60). -/
  | stepDrained
  /-- ROUTE_PASS_COMPLETE (R40). -/
  | routePassComplete
  /-- PROBE_PASS_COMPLETE (R93). -/
  | probePassComplete
  /-- JOB_PASS_END (R139). -/
  | jobPassEnd
  /-- COMMIT_COPY (R33). -/
  | commitCopy (profile : ProfileId)
  /-- PROFILE_FREED (R21). -/
  | profileFreed (profile : ProfileId)
  /-- MOVE_TURN (R122). -/
  | moveTurn
  /-- MOVE_WORD_COPY (R124). -/
  | moveWordCopy
  /-- CONTEXT_OP_START (R153). -/
  | contextOpStart (port : Port)
  /-- CONTEXT_WORD_TRANSFER (R153). -/
  | contextWordTransfer (port : Port)
  /-- TRANSACTION_START (R176). -/
  | transactionStart (port : Port)
  /-- POLL (R177). -/
  | poll (frame : Frame)
  /-- UNKNOWN_COMMAND (R177). Operands: the code of the header, and the rest of the frame. -/
  | unknownCommand (code : Byte) (frame : Frame)
  /-- CREATE (R19). -/
  | create (frame : Frame)
  /-- DELETE (R20). -/
  | delete (frame : Frame)
  /-- LEAD (R23). -/
  | lead (frame : Frame)
  /-- RELEASE (R24). -/
  | release (frame : Frame)
  /-- FOLLOW (R25). -/
  | follow (frame : Frame)
  /-- UNFOLLOW (R25). -/
  | unfollow (frame : Frame)
  /-- READ_PROFILE (R44). -/
  | readProfile (frame : Frame)
  /-- WRITE_CANDIDATE (R30). -/
  | writeCandidate (frame : Frame)
  /-- COMMIT (R33). -/
  | commit (frame : Frame)
  /-- SET_FIELDS (R39). -/
  | setFields (frame : Frame)
  /-- ADAPT (R96). -/
  | adapt (frame : Frame)
  /-- ABORT_ADAPT (R108). -/
  | abortAdapt (frame : Frame)
  /-- FREEZE (R109). -/
  | freeze (frame : Frame)
  /-- CLEAR_FLAGS (R43). -/
  | clearFlags (frame : Frame)
  /-- CLAIM_SLOT (R46). -/
  | claimSlot (frame : Frame)
  /-- FREE_SLOT (R47). -/
  | freeSlot (frame : Frame)
  /-- ROUTE (R48). -/
  | route (frame : Frame)
  /-- MUTE (R49). -/
  | mute (frame : Frame)
  /-- READ_SLOT (R58). -/
  | readSlot (frame : Frame)
  /-- OPEN_WINDOW (R114). -/
  | openWindow (frame : Frame)
  /-- CLOSE_WINDOW (R116). -/
  | closeWindow (frame : Frame)
  /-- WRITE_WORDS (R118). -/
  | writeWords (frame : Frame)
  /-- READ_WORDS (R119). -/
  | readWords (frame : Frame)
  /-- MOVE (R120). -/
  | move (frame : Frame)
  /-- MOVE_STATUS (R126). -/
  | moveStatus (frame : Frame)
  /-- DOT (R140). -/
  | dot (frame : Frame)
  /-- ENERGY (R140). -/
  | energy (frame : Frame)
  /-- PEAK (R141). -/
  | peak (frame : Frame)
  /-- SWEEP (R142). -/
  | sweep (frame : Frame)
  /-- PUSH (R143). -/
  | push (frame : Frame)
  /-- DROP (R143). -/
  | drop (frame : Frame)
  /-- SCALE (R145). -/
  | scale (frame : Frame)
  /-- STORE (R146). -/
  | store (frame : Frame)
  /-- SAVE (R154). -/
  | save (frame : Frame)
  /-- SAVE_NOW (R158). -/
  | saveNow (frame : Frame)
  /-- SAVE_ENV (R155). -/
  | saveEnv (frame : Frame)
  /-- RESTORE (R156). -/
  | restore (frame : Frame)
  /-- RESTORE_ENV (R156). -/
  | restoreEnv (frame : Frame)
  /-- CLEAR_EXCEPTIONS (R159). -/
  | clearExceptions (frame : Frame)
  /-- SET_CONTROL (R160). -/
  | setControl (frame : Frame)
  /-- READ_CONTEXT_STATUS (R161). -/
  | readContextStatus (frame : Frame)
  /-- CLAIM_GENERATOR (R165). -/
  | claimGenerator (frame : Frame)
  /-- SET_GENERATOR (R166). -/
  | setGenerator (frame : Frame)
  /-- RELEASE_GENERATOR (R171). -/
  | releaseGenerator (frame : Frame)
  /-- CLAIM_CHECKER (R172). -/
  | claimChecker (frame : Frame)
  /-- RELEASE_CHECKER (R172). -/
  | releaseChecker (frame : Frame)
  /-- READ_CHECKER (R175). -/
  | readChecker (frame : Frame)
  /-- CHECKER_FREEZE (R175). -/
  | checkerFreeze (frame : Frame)
  /-- CHECKER_UNFREEZE (R175). -/
  | checkerUnfreeze (frame : Frame)
  /-- CHECKER_CLEAR (R175). -/
  | checkerClear (frame : Frame)
  /-- IDENTIFY (R188). -/
  | identify (frame : Frame)
  /-- FETCH_NOTICES (R182). -/
  | fetchNotices (frame : Frame)
  /-- SET_KEEPALIVE (R183). -/
  | setKeepalive (frame : Frame)
  /-- PORT_RESET (R185). -/
  | portReset (frame : Frame)
  /-- READ_DEVICE (R188). -/
  | readDevice (frame : Frame)
  /-- TRANSACTION_OF_NO_WHOLE_WORD (R177). -/
  | transactionOfNoWholeWord (port : Port)
  deriving DecidableEq, Repr

end Sys2Proof
end

