-- ==== Sys2Proof/Decode.lean ====
section
/-! DEFINITION. How the words of a transaction spell a row (R177, R187, 10.3), and the decoder of table words: no row of
spec/opcode_table.json gives bits (log 1). -/

namespace Sys2Proof

/-- The command that a word of the table spells: none, since the table spells no row in bits. -/
def decodeTableWord (_nbits _w : Nat) : Option Instr := none

/-! ### The frame header (R177, R187) -/

/-- The command code of a header word: bits 15 to 8. -/
def headerCode (header : Word) : Byte := header.extractLsb' 8 8
/-- The tag of a header word: bits 7 to 0. -/
def headerTag (header : Word) : Byte := header.extractLsb' 0 8

/-- The word after the checker number in a frame of CHECKER CONTROL: its action (R175). -/
def Frame.actionWord (f : Frame) : Word := f.body.getD 2 0

/-- The row of a frame by the code of its header, as the table of 10.3 names it: code 0 is a poll, and a code not in the table is
UNKNOWN_COMMAND. CHECKER CONTROL is the row of its action word, and with a word that is no action the first of its rows (log 2). -/
def Instr.ofFrame (code : Byte) (f : Frame) : Instr :=
  match code.toNat with
  | 0x00 => .poll f
  | 0x10 => .create f
  | 0x11 => .delete f
  | 0x12 => .lead f
  | 0x13 => .release f
  | 0x14 => .follow f
  | 0x15 => .unfollow f
  | 0x16 => .readProfile f
  | 0x17 => .writeCandidate f
  | 0x18 => .commit f
  | 0x19 => .setFields f
  | 0x1A => .adapt f
  | 0x1B => .abortAdapt f
  | 0x1C => .freeze f
  | 0x1D => .clearFlags f
  | 0x20 => .claimSlot f
  | 0x21 => .freeSlot f
  | 0x22 => .route f
  | 0x23 => .mute f
  | 0x24 => .readSlot f
  | 0x30 => .openWindow f
  | 0x31 => .closeWindow f
  | 0x32 => .writeWords f
  | 0x33 => .readWords f
  | 0x34 => .move f
  | 0x35 => .moveStatus f
  | 0x40 => .dot f
  | 0x41 => .energy f
  | 0x42 => .peak f
  | 0x43 => .sweep f
  | 0x44 => .push f
  | 0x45 => .drop f
  | 0x46 => .scale f
  | 0x47 => .store f
  | 0x50 => .save f
  | 0x51 => .saveNow f
  | 0x52 => .saveEnv f
  | 0x53 => .restore f
  | 0x54 => .restoreEnv f
  | 0x55 => .clearExceptions f
  | 0x56 => .setControl f
  | 0x57 => .readContextStatus f
  | 0x60 => .claimGenerator f
  | 0x61 => .setGenerator f
  | 0x62 => .releaseGenerator f
  | 0x63 => .claimChecker f
  | 0x64 => .readChecker f
  | 0x65 => match f.actionWord.toNat with
    | 1 => .checkerUnfreeze f
    | 2 => .checkerClear f
    | _ => .checkerFreeze f
  | 0x66 => .releaseChecker f
  | 0x70 => .identify f
  | 0x71 => .fetchNotices f
  | 0x72 => .setKeepalive f
  | 0x73 => .portReset f
  | 0x74 => .readDevice f
  | _ => .unknownCommand code f

/-- The row that a transaction on a port is at its rise of chip-select, from the whole words clocked in (R177). -/
def Instr.ofTransaction (p : Port) : List Word → Instr
  | [] => .transactionOfNoWholeWord p
  | header :: body => .ofFrame (headerCode header) ⟨p, headerTag header, body⟩

end Sys2Proof
end

