-- ==== Sys2Proof/Config.lean ====
section
/-! DEFINITION. What the part fixes (sizes and limits) and the values the manual leaves open. -/

namespace Sys2Proof.Config

/-- Replies a port's reply queue holds at most (R178). -/
def replyLimit : Nat := 8
/-- Entries a port's job queue holds at most (R129). -/
def jobLimit : Nat := 8
/-- Words of one move at most (R120) and the largest count N of a job (R130). -/
def countLimit : Nat := 2048
/-- Words of one segment of the move unit at most (R122). -/
def segmentWords : Nat := 64
/-- The silent-tick count at which the word clock is lost (R8). -/
def silentLimit : Nat := 4
/-- The restart run at which a probe is withdrawn (R94). -/
def restartLimit : Nat := 8
/-- Words of work memory (R112). -/
def memoryWords : Nat := 32768

/-- FREE VALUE (log 7): a key per draw and profile.
The controller treats the profiles of one block event in the order of these keys; the manual gives no order. -/
opaque profileKey : Nat → ProfileId → Nat

/-- FREE VALUE (log 16): the word a one-word result field carries for a number above 65535, which the manual does not state. -/
opaque wideWord : Nat → Word

end Sys2Proof.Config
end

