-- ==== Sys2Proof/Machine/State.lean ====
section
/-! DEFINITION. The state of the part as plain data, block by block, and its value after power-on reset. -/

namespace Sys2Proof.Machine

/-! ### Input and output lane (01_sample_flow_and_playout) -/

/-- The three states of the input lane interface (R8 to R10). -/
inductive LaneState where
  | waiting | running | lost
  deriving DecidableEq, Repr

/-- The output frame being driven: its position in the block period and slot s in place s (R12). -/
structure OutFrame where
  position : Fin 32
  samples  : LaneFrame
  deriving DecidableEq, Repr

/-- The lane interface, the input rings and the output lane.
`rings` holds the eight held blocks, newest (block B) first, each a list of 32 frames in sample order (R5). -/
structure Lane where
  state        : LaneState
  blockCounter : Block
  position     : Fin 32
  silentTicks  : Fin 5
  assembly     : List LaneFrame
  validFrom    : Block
  rings        : List (List LaneFrame)
  /-- A frame sync has begun a frame whose 256th bit is still to come (R1, R2). Log 20. -/
  frameOpen    : Bool
  /-- The output frame being driven, or none while the data line is low (R12). -/
  output       : Option OutFrame
  /-- The period before the first block event after a start or a clock return, which plays zero (R13, R16). Log 20. -/
  zeroPeriod   : Bool
  deriving DecidableEq, Repr

/-! ### Profile table (02_the_profile_table, 05_adaptation) -/

/-- A coefficient set (R27). A polarity is true for −. -/
structure CoeffSet where
  emphasis   : Fin 16
  tapCount   : Fin 65
  taps       : Vector Sample 64
  weights    : Vector (Fin 32) 5
  polarities : Vector Bool 5
  gain       : Fin 3
  deriving DecidableEq, Repr

inductive BankId where
  | bank0 | bank1
  deriving DecidableEq, Repr

structure Bank where
  set        : CoeffSet
  generation : Block
  deriving DecidableEq, Repr

inductive ProfileState where
  | free | bound | retiring
  deriving DecidableEq, Repr

inductive CommitStage where
  | none | waitingSpare | waitingFlip
  deriving DecidableEq, Repr

inductive EntryState where
  | none | pending | valid | expired
  deriving DecidableEq, Repr

/-- One of the four entries of a profile's output ring (2.6). -/
structure OutputEntry where
  block      : Option Block
  state      : EntryState
  generation : Block
  saturated  : Bool
  samples    : List Sample
  deriving DecidableEq, Repr

/-- The four FoM selections (R89), codes 0 to 3. -/
inductive FomSelection where
  | residual | headroom | both | weighted
  deriving DecidableEq, Repr

/-- A window as a command names it: a private window of the sending port, or a shared one (6.2). -/
inductive WindowName where
  | priv (number : Fin 8)
  | shared (number : Fin 16)
  deriving DecidableEq, Repr

/-- A window of the table, the port of a private one settled. -/
inductive WindowId where
  | priv (port : Port) (number : Fin 8)
  | shared (number : Fin 16)
  deriving DecidableEq, Repr

/-- The target source of R38. -/
inductive Target where
  | window (name : WindowName) (offset : Fin 32768)
  | generator (lag : Fin 256)
  deriving DecidableEq, Repr

/-- The probe window W (R38). -/
inductive ProbeLength where
  | w32 | w64 | w128
  deriving DecidableEq, Repr

/-- The adaptation configuration (R38). -/
structure AdaptConfig where
  mode            : Fin 4
  shapingFom      : FomSelection
  trimFom         : FomSelection
  fomA            : Fin 129
  fomB            : Fin 256
  fomC            : Fin 256
  shapingMinimum  : Int
  acceptance      : Int
  startPolarities : Vector Bool 5
  trimCeiling     : Fin 32
  probeLength     : ProbeLength
  target          : Target
  continuous      : Bool
  trackInterval   : Fin 256
  lookAhead       : Fin 8
  allowableChange : Fin 16
  hysteresis      : Fin 256
  deriving DecidableEq, Repr

/-- The six adaptation states (R86), codes 0 to 5. -/
inductive AdaptState where
  | idle | searchShape | searchTrim | searchReshape | committing | tracking
  deriving DecidableEq, Repr

/-- The last outcomes (R86), codes 0 to 5. -/
inductive Outcome where
  | none | done | lowMerit | starved | noTarget | aborted
  deriving DecidableEq, Repr

inductive SearchPhase where
  | none | shape | trim | reshape | round
  deriving DecidableEq, Repr

inductive CommitOrigin where
  | search | round
  deriving DecidableEq, Repr

/-- Window end b and oldest needed block o of a probe (R92). -/
structure ProbeWindow where
  endBlock : Block
  oldest   : Block
  deriving DecidableEq, Repr

/-- The search position (R87). `tap` is the tap index less one; `secondPass` says polarity pass 2.
`rangeTop` is the upper end of the range of the tap under search in a round, formed when the tap is reached (R105). Log 20. -/
structure SearchPosition where
  phase         : SearchPhase
  secondPass    : Bool
  tap           : Fin 5
  trial         : Fin 32
  bestFom       : Option Int
  bestTrial     : Fin 32
  run           : Fin 3
  basePoint     : Vector (Fin 32) 5
  countdown     : Fin 256
  currentFom    : Option Int
  roundWeights  : Vector (Fin 32) 5
  lastFom       : Option Int
  window        : Option ProbeWindow
  origin        : CommitOrigin
  continueAfter : Bool
  rangeTop      : Fin 32
  deriving DecidableEq, Repr

/-- A profile record (2.1). Its number is its place in the table. Bit n of `followers` is port Pn.
`trim` holds the trim history, the latest output first. -/
structure Profile where
  state         : ProfileState
  channel       : Channel
  leader        : Option Port
  followers     : BitVec 4
  bank0         : Bank
  bank1         : Bank
  live          : BankId
  refs0         : Nat
  refs1         : Nat
  candidate     : CoeffSet
  generation    : Block
  stage         : CommitStage
  flipEvent     : Option Block
  config        : AdaptConfig
  adapt         : AdaptState
  search        : SearchPosition
  restartRun    : Nat
  probesRun     : Word
  lastOutcome   : Outcome
  probeRef      : Bool
  dynamicSat    : Bool
  staticSat     : Bool
  wrap          : Bool
  expiredCount  : Word
  trim          : Vector Sample 5
  trimBlock     : Option Block
  deletingPort  : Option Port
  ring          : Vector OutputEntry 4
  deriving DecidableEq, Repr

/-! ### Slot map (03_output_slots_and_routing) -/

inductive Source where
  | silent
  | dry (channel : Channel)
  | profile (number : ProfileId)
  | generator
  deriving DecidableEq, Repr

/-- A slot record (3.1). `foundValid` is the look of R15: the entry of a PROFILE source was VALID at the latest block event.
Log 20. -/
structure Slot where
  owner          : Option Port
  source         : Source
  pending        : Option Source
  mute           : Bool
  playingMuted   : Bool
  outgoing       : Option Source
  lateCount      : Word
  lastBlock      : Option Block
  lastGeneration : Option Block
  foundValid     : Bool
  deriving DecidableEq, Repr

/-! ### Pass engine (04_the_pass_engine) -/

/-- The progress of a route or probe pass (R61, R63, R68).
`history` counts the emphasis terms recomputed as history, `sample` the output samples produced, `sub` the steps of the
sample in hand already ended; `x` and `xBefore` are the input samples of the emphasis step last begun, `es` the emphasis
terms, newest first, and `ys` the y history, newest first. -/
structure FilterProgress where
  history   : Nat
  sample    : Nat
  sub       : Nat
  x         : Sample
  xBefore   : Sample
  es        : List Sample
  acc       : Acc
  ys        : Vector Sample 5
  saturated : Bool
  wrapped   : Bool
  deriving DecidableEq, Repr

/-- A route entry (R63). `outputs` holds the samples produced so far, in sample order. -/
structure RouteEntry where
  profile  : ProfileId
  block    : Block
  bank     : BankId
  deadline : Block
  running  : Bool
  progress : FilterProgress
  outputs  : List Sample
  deriving DecidableEq, Repr

inductive SelectionKind where
  | shaping | trim
  deriving DecidableEq, Repr

/-- The target reference a probe carries (R68), a private window settled to the leader's (R90). -/
inductive ProbeTarget where
  | window (id : Option WindowId) (offset : Fin 32768)
  | generator (lag : Fin 256)
  deriving DecidableEq, Repr

inductive PassCondition where
  | waiting | running | suspended
  deriving DecidableEq, Repr

/-- A probe entry (R68). -/
structure ProbeEntry where
  profile   : ProfileId
  trial     : CoeffSet
  selection : SelectionKind
  length    : ProbeLength
  window    : ProbeWindow
  target    : ProbeTarget
  condition : PassCondition
  progress  : FilterProgress
  sumTarget : Nat
  sumError  : Nat
  peak      : Nat
  deriving DecidableEq, Repr

/-- A span of a job (R132). The stride of a WINDOW span is 1 to 16. -/
inductive Span where
  | window (name : WindowName) (offset : Nat) (stride : Nat)
  | ring (channel : Channel) (block : Block) (offset : Nat)
  deriving DecidableEq, Repr

inductive StoreWidth where
  | w16 | w32
  deriving DecidableEq, Repr

/-- The eight measurement jobs with their operands as queued (7.6). A STORE span is always a WINDOW span (R130). -/
inductive Job where
  | dot (a b : Span) (n : Nat) (accumulate : Bool)
  | energy (a : Span) (n : Nat) (accumulate : Bool)
  | peak (a : Span) (n : Nat)
  | sweep (a b : Span) (n : Nat) (lags : Nat)
  | push (value : BitVec 32)
  | drop
  | scale
  | store (name : WindowName) (offset : Nat) (stride : Nat) (width : StoreWidth) (shift : Nat) (pop : Bool)
  deriving DecidableEq, Repr

/-- The operands of the job step in progress (R133): none read, two words read, or the step raised ACCESS. -/
inductive StepRead where
  | nothing
  | words (a b : Sample)
  | access
  deriving DecidableEq, Repr

/-- A job pass (R75). `lag` and `index` give the position; the remaining steps and the span positions follow from them. -/
structure JobPass where
  port      : Port
  job       : Job
  suspended : Bool
  lag       : Nat
  index     : Nat
  acc       : Acc
  best      : Acc
  bestLag   : Nat
  peak      : Nat
  peakIndex : Nat
  read      : StepRead
  deriving DecidableEq, Repr

inductive PassClass where
  | route | probe | job
  deriving DecidableEq, Repr

/-- The multiply-accumulate unit (R60). -/
inductive UnitState where
  | free
  | running (cls : PassClass)
  | draining
  deriving DecidableEq, Repr

inductive Turn where
  | probe | job
  deriving DecidableEq, Repr

/-- The engine. At most one job pass exists, RUNNING or SUSPENDED (R78, R81). -/
structure Engine where
  mac          : UnitState
  suspendAsked : Bool
  routes       : List RouteEntry
  probes       : List ProbeEntry
  jobPass      : Option JobPass
  turn         : Turn
  pointer      : Port
  deriving DecidableEq, Repr

/-! ### Work memory, windows and moves (06_work_memory_windows_and_moves) -/

/-- One listed word of work memory: its address and its value. -/
abbrev Cell := Nat × Word

/-- An open window (6.2). -/
structure Window where
  base   : Nat
  length : Nat
  deriving DecidableEq, Repr

structure SharedWindow where
  window  : Window
  creator : Option Port
  deriving DecidableEq, Repr

inductive MoveState where
  | queued | active | done | failed
  deriving DecidableEq, Repr

inductive Direction where
  | ascending | descending
  deriving DecidableEq, Repr

/-- The source of a move (6.4). -/
inductive MoveSource where
  | window (name : WindowName) (offset : Nat)
  | ring (channel : Channel) (block : Block) (offset : Nat)
  | generator (number : Block) (offset : Nat)
  deriving DecidableEq, Repr

/-- A move record (6.4). The two positions are computed from it (R123). `failed` is the failure ACCESS. -/
structure MoveRecord where
  state      : MoveState
  source     : MoveSource
  target     : WindowName
  offset     : Nat
  count      : Nat
  direction  : Direction
  moved      : Nat
  remaining  : Nat
  failure    : Bool
  deriving DecidableEq, Repr

/-- The base addresses that a stopped segment's windows gave at the port reset (R127). -/
structure StopBases where
  source : Nat
  target : Nat
  deriving DecidableEq, Repr

/-- The segment being copied (R122): `left` words of it are still to copy. -/
structure Segment where
  port    : Port
  record  : Fin 4
  left    : Nat
  stopped : Option StopBases
  deriving DecidableEq, Repr

structure Mover where
  segment : Option Segment
  pointer : Port
  deriving DecidableEq, Repr

/-! ### Port contexts (07, 08) -/

inductive Rounding where
  | nearest | towardZero | down
  deriving DecidableEq, Repr

inductive Tag where
  | empty | valid | wrapped
  deriving DecidableEq, Repr

/-- The context of a port (R149). Bits 0 to 4 of `masks` and `flags` are STACK, WRAP, SAT, RANGE, ACCESS (R187 control and
status words). The last-job record is held as its three words, since a restore loads them without check (R156). -/
structure Context where
  masks        : BitVec 5
  rounding     : Rounding
  flags        : BitVec 5
  errorPending : Bool
  c0 : Bool
  c1 : Bool
  c2 : Bool
  c3 : Bool
  top          : Fin 8
  tags         : Vector Tag 8
  stack        : Vector Acc 8
  lastKind     : Byte
  lastWindow   : Word
  lastOffset   : Word
  deriving DecidableEq, Repr

inductive ContextOp where
  | save | saveEnv | restore | restoreEnv
  deriving DecidableEq, Repr

/-- A window and an offset in it (R152). -/
structure Place where
  name   : WindowName
  offset : Nat
  deriving DecidableEq, Repr

inductive Work where
  | job (job : Job)
  | context (op : ContextOp) (place : Place)
  deriving DecidableEq, Repr

inductive EntryCondition where
  | waiting | inPass | inContext
  deriving DecidableEq, Repr

structure QueueEntry where
  work      : Work
  condition : EntryCondition
  deriving DecidableEq, Repr

/-- A BUSY context logic (R153): the operation, the copy it writes or the words it has read, and the words transferred. -/
structure ContextRun where
  op    : ContextOp
  place : Place
  image : List Word
  done  : Nat
  deriving DecidableEq, Repr

/-! ### Client ports (10_client_ports) -/

/-- The nineteen status codes of 10.3, codes 0 to 18. -/
inductive Status where
  | ok | accepted | badCommand | badLength | badValue | noSuch | notLeader | held | notOwner | inUse | full
  | adapting | busy | wrongState | pending | access | tooLong | noClock | noTarget
  deriving DecidableEq, Repr

structure Reply where
  code    : Byte
  tag     : Byte
  status  : Status
  results : List Word
  deriving DecidableEq, Repr

/-- The fourteen notice sets (R181), each as the mask or flag it is sent as. `contextDone` carries true for OK. -/
structure Notices where
  committed    : BitVec 32
  adaptDone    : BitVec 32
  leaderless   : BitVec 32
  profileGone  : BitVec 32
  slotLate     : BitVec 16
  slotSilenced : BitVec 16
  moveDone     : BitVec 4
  jobStopped   : Bool
  jobsIdle     : Bool
  contextDone  : Option Bool
  clockLost    : Bool
  clockBack    : Bool
  checkerLock  : BitVec 2
  checkerLost  : BitVec 2
  deriving DecidableEq, Repr

/-- A transaction in progress (R176): the outbound words that are not padding, whether they hold the head reply whole, and
which clearing flags the status word showed set (R179). -/
structure Transaction where
  outbound      : List Word
  holdsReply    : Bool
  showedOverrun : Bool
  showedReset   : Bool
  deriving DecidableEq, Repr

/-- A client port. `spi` is none when IDLE; `ignoring` marks the transaction of R186 that is ignored until chip-select rises.
`moveOrder` lists the port's unfinished move records, oldest first (R120). -/
structure PortState where
  spi           : Option Transaction
  ignoring      : Bool
  replies       : List Reply
  notices       : Notices
  overrun       : Bool
  resetOccurred : Bool
  keepPeriod    : Word
  countdown     : Word
  windows       : Vector (Option Window) 8
  jobs          : List QueueEntry
  ctx           : Context
  ctxRun        : Option ContextRun
  moves         : Vector (Option MoveRecord) 4
  moveOrder     : List (Fin 4)
  deriving DecidableEq, Repr

/-! ### Pattern generator and line checkers (09_test_patterns_and_line_checkers) -/

/-- What the generator produces (9.1), codes 0 to 4. -/
inductive PatternKind where
  | n7 | n11 | n15 | n23 | user
  deriving DecidableEq, Repr

structure HistoryEntry where
  number : Option Block
  sample : Sample
  deriving DecidableEq, Repr

/-- The pattern generator (9.1). Bit 0 of `register` is the latest sequence bit. `oddRepetition` is the parity of the
repetition count, which is counted modulo 2 (R168). -/
structure Generator where
  claim         : Option Port
  running       : Bool
  kind          : PatternKind
  level         : Fin 16
  pattern       : Vector Sample 16
  inversion     : Bool
  register      : BitVec 23
  userPosition  : Fin 16
  oddRepetition : Bool
  current       : Sample
  history       : Vector HistoryEntry 512
  deriving DecidableEq, Repr

inductive CheckerState where
  | idle | searching | locked
  deriving DecidableEq, Repr

/-- A line checker (9.5). `heard` is the search history, newest first. Hypotheses are numbered as R189 encodes them:
twice the sequence (N7, N11, N15, N23), plus one for inverted. -/
structure Checker where
  claim      : Option Port
  channel    : Channel
  state      : CheckerState
  heard      : List Sample
  runs       : Vector Nat 8
  hypothesis : Option (Fin 8)
  reference  : BitVec 23
  checked    : BitVec 40
  errors     : Word
  errorRun   : Nat
  frozen     : Bool
  deriving DecidableEq, Repr

/-- The whole part, with the queue of the commands and events that are waiting, first in, first out.
`choices` counts the draws of the free order of the controller (log 7). -/
structure State where
  lane     : Lane
  profiles : Vector Profile 32
  slots    : Vector Slot 16
  engine   : Engine
  mem      : List Cell
  shared   : Vector (Option SharedWindow) 16
  mover    : Mover
  ports    : Vector PortState 4
  gen      : Generator
  checkers : Vector Checker 2
  choices  : Nat
  pending  : List Instr
  deriving DecidableEq, Repr

/-- The reasons a step stops with a fault: none. The manual stops the part nowhere; every refusal is a reply status and
every job exception a flag. Nobody raises a fault, so it is safe. -/
inductive Fault where
  deriving DecidableEq, Repr

/-- The reasons a step is refused. -/
inductive Refusal where
  /-- A row without a meaning yet, by its mnemonic: raised by a refused arm of exec alone. Safe. No arm raises it. -/
  | notModelled (mnemonic : String)
  deriving DecidableEq, Repr

/-! ### Reset values -/

def zeroFrame : LaneFrame := Vector.replicate 16 0

/-- Rings whose every sample is zero (R5, R9). -/
def zeroRings : List (List LaneFrame) := List.replicate 8 (List.replicate 32 zeroFrame)

/-- The default coefficient set (R27). -/
def CoeffSet.default : CoeffSet :=
  ⟨0, 0, Vector.replicate 64 0, Vector.replicate 5 0, Vector.replicate 5 false, 0⟩

/-- The defaults of R38. -/
def AdaptConfig.default : AdaptConfig where
  mode := 2
  shapingFom := .both
  trimFom := .both
  fomA := 64
  fomB := 0
  fomC := 0
  shapingMinimum := 200
  acceptance := 150
  startPolarities := Vector.replicate 5 false
  trimCeiling := 31
  probeLength := .w64
  target := .generator 0
  continuous := false
  trackInterval := 16
  lookAhead := 2
  allowableChange := 4
  hysteresis := 8

/-- The cleared search position (R87). -/
def SearchPosition.cleared : SearchPosition where
  phase := .none
  secondPass := false
  tap := 0
  trial := 0
  bestFom := none
  bestTrial := 0
  run := 0
  basePoint := Vector.replicate 5 0
  countdown := 0
  currentFom := none
  roundWeights := Vector.replicate 5 0
  lastFom := none
  window := none
  origin := .search
  continueAfter := false
  rangeTop := 0

/-- A cleared output ring entry (R18); its generation, flag and samples are DESIGN CHOICE zero (log 9). -/
def OutputEntry.cleared : OutputEntry := ⟨none, .none, 0, false, List.replicate 32 0⟩

/-- A cleared profile record (R18). -/
def Profile.cleared : Profile where
  state := .free
  channel := 0
  leader := none
  followers := 0
  bank0 := ⟨.default, 0⟩
  bank1 := ⟨.default, 0⟩
  live := .bank0
  refs0 := 0
  refs1 := 0
  candidate := .default
  generation := 0
  stage := .none
  flipEvent := none
  config := .default
  adapt := .idle
  search := .cleared
  restartRun := 0
  probesRun := 0
  lastOutcome := .none
  probeRef := false
  dynamicSat := false
  staticSat := false
  wrap := false
  expiredCount := 0
  trim := Vector.replicate 5 0
  trimBlock := none
  deletingPort := none
  ring := Vector.replicate 4 .cleared

/-- A slot record after power-on reset (R45). -/
def Slot.initial : Slot := ⟨none, .silent, none, false, false, none, 0, none, none, false⟩

/-- The context after reinitialisation (R150). -/
def Context.initial : Context where
  masks := 0b11111
  rounding := .nearest
  flags := 0
  errorPending := false
  c0 := false
  c1 := false
  c2 := false
  c3 := false
  top := 0
  tags := Vector.replicate 8 .empty
  stack := Vector.replicate 8 0
  lastKind := 0
  lastWindow := 0
  lastOffset := 0

def Notices.empty : Notices := ⟨0, 0, 0, 0, 0, 0, 0, false, false, none, false, false, 0, 0⟩

/-- A port after power-on reset (R186, R148, R113, R128). -/
def PortState.initial : PortState where
  spi := none
  ignoring := false
  replies := []
  notices := .empty
  overrun := false
  resetOccurred := true
  keepPeriod := 0
  countdown := 0
  windows := Vector.replicate 8 none
  jobs := []
  ctx := .initial
  ctxRun := none
  moves := Vector.replicate 4 none
  moveOrder := []

/-- The generator after power-on reset (R164): the register is all ones of N7's degree. -/
def Generator.initial : Generator where
  claim := none
  running := false
  kind := .n7
  level := 0
  pattern := Vector.replicate 16 0
  inversion := false
  register := 0x7F
  userPosition := 0
  oddRepetition := false
  current := 0
  history := Vector.replicate 512 ⟨none, 0⟩

/-- A line checker after power-on reset (R172). -/
def Checker.initial : Checker where
  claim := none
  channel := 0
  state := .idle
  heard := []
  runs := Vector.replicate 8 0
  hypothesis := none
  reference := 0x7FFFFF
  checked := 0
  errors := 0
  errorRun := 0
  frozen := false

/-- The lane after power-on reset (R17). -/
def Lane.initial : Lane where
  state := .waiting
  blockCounter := 0
  position := 0
  silentTicks := 0
  assembly := []
  validFrom := 1
  rings := zeroRings
  frameOpen := false
  output := none
  zeroPeriod := true

/-- The engine after power-on reset (R85). -/
def Engine.initial : Engine := ⟨.free, false, [], [], none, .probe, 0⟩

/-- The part right after power-on reset, with no command waiting. -/
def State.reset : State where
  lane := .initial
  profiles := Vector.replicate 32 .cleared
  slots := Vector.replicate 16 .initial
  engine := .initial
  mem := []
  shared := Vector.replicate 16 none
  mover := ⟨none, 0⟩
  ports := Vector.replicate 4 .initial
  gen := .initial
  checkers := Vector.replicate 2 .initial
  choices := 0
  pending := []

end Sys2Proof.Machine
end

