-- ==== Sys2Proof/Machine/Ops.lean ====
section
/-! DEFINITION. The shared operations: table access, notices, replies, input rings, work memory and windows. -/

namespace Sys2Proof.Machine

/-! ### Fixed tables -/

/-- The vector with entry i replaced. -/
def vset {α : Type} {n : Nat} (v : Vector α n) (i : Fin n) (x : α) : Vector α n := v.set i.val x i.isLt

/-- Every entry of a vector through f. -/
def vmap {α β : Type} {n : Nat} (f : α → β) (v : Vector α n) : Vector β n := ⟨(v.toList.map f).toArray, by simp⟩

def allPorts : List Port := [0, 1, 2, 3]
def allSlots : List SlotId := [0, 1, 2, 3, 4, 5, 6, 7, 8, 9, 10, 11, 12, 13, 14, 15]
def allProfiles : List ProfileId :=
  [0, 1, 2, 3, 4, 5, 6, 7, 8, 9, 10, 11, 12, 13, 14, 15,
   16, 17, 18, 19, 20, 21, 22, 23, 24, 25, 26, 27, 28, 29, 30, 31]

def State.port (s : State) (p : Port) : PortState := s.ports.get p
def State.profile (s : State) (n : ProfileId) : Profile := s.profiles.get n
def State.slot (s : State) (i : SlotId) : Slot := s.slots.get i
def State.checker (s : State) (c : Fin 2) : Checker := s.checkers.get c

def State.modPort (s : State) (p : Port) (f : PortState → PortState) : State :=
  { s with ports := vset s.ports p (f (s.port p)) }
def State.modProfile (s : State) (n : ProfileId) (f : Profile → Profile) : State :=
  { s with profiles := vset s.profiles n (f (s.profile n)) }
def State.modSlot (s : State) (i : SlotId) (f : Slot → Slot) : State :=
  { s with slots := vset s.slots i (f (s.slot i)) }
def State.modChecker (s : State) (c : Fin 2) (f : Checker → Checker) : State :=
  { s with checkers := vset s.checkers c (f (s.checker c)) }

/-- Clock-present (R11). -/
def State.clockPresent (s : State) : Bool := s.lane.state == .running

/-! ### Bits and counts -/

/-- The mask with bit i set. -/
def insertBit {n : Nat} (m : BitVec n) (i : Nat) : BitVec n := m ||| (1#n <<< i)
/-- The mask with bit i clear. -/
def eraseBit {n : Nat} (m : BitVec n) (i : Nat) : BitVec n := m &&& ~~~(1#n <<< i)

/-- One more, stopping at 65535 (Conventions, Counts). -/
def satInc (w : Word) : Word := if w = 0xFFFF then w else w + 1

/-! ### Notices (R181) -/

/-- One addition to a port's notice sets. -/
inductive Notice where
  | committed (n : ProfileId)
  | adaptDone (n : ProfileId)
  | leaderless (n : ProfileId)
  | profileGone (n : ProfileId)
  | slotLate (i : SlotId)
  | slotSilenced (i : SlotId)
  | moveDone (r : Fin 4)
  | jobStopped
  | jobsIdle
  | contextDone (ok : Bool)
  | clockLost
  | clockBack
  | checkerLock (c : Fin 2)
  | checkerLost (c : Fin 2)
  deriving DecidableEq, Repr

def Notices.add (ns : Notices) : Notice → Notices
  | .committed n => { ns with committed := insertBit ns.committed n }
  | .adaptDone n => { ns with adaptDone := insertBit ns.adaptDone n }
  | .leaderless n => { ns with leaderless := insertBit ns.leaderless n }
  | .profileGone n => { ns with profileGone := insertBit ns.profileGone n }
  | .slotLate i => { ns with slotLate := insertBit ns.slotLate i }
  | .slotSilenced i => { ns with slotSilenced := insertBit ns.slotSilenced i }
  | .moveDone r => { ns with moveDone := insertBit ns.moveDone r }
  | .jobStopped => { ns with jobStopped := true }
  | .jobsIdle => { ns with jobsIdle := true }
  | .contextDone ok => { ns with contextDone := some ok }
  | .clockLost => { ns with clockLost := true }
  | .clockBack => { ns with clockBack := true }
  | .checkerLock c => { ns with checkerLock := insertBit ns.checkerLock c }
  | .checkerLost c => { ns with checkerLost := insertBit ns.checkerLost c }

/-- Adds a notice to the sets of port p. -/
def State.notify (s : State) (p : Port) (k : Notice) : State :=
  s.modPort p fun ps => { ps with notices := ps.notices.add k }

/-- Adds a notice to the sets of a port, if there is one. -/
def State.notifyOpt (s : State) (p : Option Port) (k : Notice) : State :=
  match p with
  | some q => s.notify q k
  | none => s

/-- Adds a notice to the sets of every port of a port set. -/
def State.notifySet (s : State) (m : BitVec 4) (k : Notice) : State :=
  allPorts.foldl (fun s (p : Port) => if m.getLsbD p.val then s.notify p k else s) s

/-- Adds a notice to the sets of all four ports. -/
def State.notifyAll (s : State) (k : Notice) : State :=
  allPorts.foldl (fun s p => s.notify p k) s

/-! ### Replies (R176, R178) -/

def Status.code : Status → Nat
  | .ok => 0 | .accepted => 1 | .badCommand => 2 | .badLength => 3 | .badValue => 4 | .noSuch => 5
  | .notLeader => 6 | .held => 7 | .notOwner => 8 | .inUse => 9 | .full => 10 | .adapting => 11 | .busy => 12
  | .wrongState => 13 | .pending => 14 | .access => 15 | .tooLong => 16 | .noClock => 17 | .noTarget => 18

/-- What a command answers: its status and its result words. -/
abbrev Answer := Status × List Word

/-- A refusal: its status, with no result words (R189). -/
def refuse (st : Status) : Answer := (st, [])

/-- Appends a reply to the tail of a port's reply queue. -/
def State.reply (s : State) (p : Port) (code tag : Byte) (a : Answer) : State :=
  s.modPort p fun ps => { ps with replies := ps.replies ++ [⟨code, tag, a.1, a.2⟩] }

/-! ### Blocks and input rings (R5 to R7) -/

/-- Block j is at or after v, given the block counter B (R7). -/
def atOrAfter (j v b : Block) : Bool := (j - v).toNat ≤ (b + 1 - v).toNat

/-- The three answers of an input ring (R7). -/
inductive RingAnswer where
  | beforeV
  | sample (x : Sample)
  | gone
  deriving DecidableEq, Repr

/-- The ring read of channel c, block j, offset o (R7). -/
def Lane.ringRead (l : Lane) (c : Channel) (j : Block) (o : Nat) : RingAnswer :=
  let blk := j + BitVec.ofNat 32 (o / 32)
  if atOrAfter blk l.validFrom l.blockCounter then
    let age := (l.blockCounter - blk).toNat
    if age < 8 then .sample (((l.rings.getD age []).getD (o % 32) zeroFrame).get c) else .gone
  else .beforeV

/-- A ring read by a pass, which takes BEFORE_V and GONE as zero (R29). -/
def Lane.passSample (l : Lane) (c : Channel) (j : Block) (o : Nat) : Sample :=
  match l.ringRead c j o with
  | .sample x => x
  | .beforeV | .gone => 0

/-! ### Work memory (R112) -/

/-- The word at an address; an unlisted word is zero, as power-on reset leaves it. -/
def memRead : List Cell → Nat → Word
  | [], _ => 0
  | (b, w) :: r, a => if a = b then w else memRead r a

/-- The memory with one word written, in canonical form. -/
def memWrite : List Cell → Nat → Word → List Cell
  | [], a, v => if v = 0 then [] else [(a, v)]
  | (b, w) :: r, a, v =>
    if a < b then (if v = 0 then (b, w) :: r else (a, v) :: (b, w) :: r)
    else if a = b then (if v = 0 then r else (a, v) :: r)
    else (b, w) :: memWrite r a v

/-- The canonical form from address lo on: addresses rising and in the memory, no listed word zero. -/
def memWfFrom : Nat → List Cell → Bool
  | _, [] => true
  | lo, (a, w) :: r => decide (lo ≤ a) && decide (a < Config.memoryWords) && w != 0 && memWfFrom (a + 1) r

/-- The canonical form of the work memory. -/
def Memory.wf (m : List Cell) : Bool := memWfFrom 0 m

/-! ### Windows (R113) -/

/-- The window a name stands for in a command of port p. -/
def WindowName.of (w : WindowName) (p : Port) : WindowId :=
  match w with
  | .priv k => .priv p k
  | .shared k => .shared k

/-- The open window of that name, if it is open. -/
def State.windowOf (s : State) : WindowId → Option Window
  | .priv p k => (s.port p).windows.get k
  | .shared k => (s.shared.get k).map (·.window)

/-- How the table resolves a window and an offset (R113). -/
inductive Resolved where
  | closed
  | outside
  | address (a : Nat)
  deriving DecidableEq, Repr

/-- The work-memory address of a base and an offset. An open window lies inside the memory (R114), so the bound never
bites on a state the part can reach. -/
def addressAt (base off : Nat) : Option Nat :=
  if base + off < Config.memoryWords then some (base + off) else none

def State.resolve (s : State) (id : WindowId) (off : Nat) : Resolved :=
  match s.windowOf id with
  | none => .closed
  | some w =>
    if off < w.length then
      match addressAt w.base off with
      | some a => .address a
      | none => .outside
    else .outside

/-- The word a window and an offset name, if there is one. -/
def State.readWord (s : State) (id : WindowId) (off : Nat) : Option Word :=
  match s.resolve id off with
  | .address a => some (memRead s.mem a)
  | .closed | .outside => none

/-- Writes the word a window and an offset name; with no such word nothing is written. -/
def State.writeWord (s : State) (id : WindowId) (off : Nat) (v : Word) : State :=
  match s.resolve id off with
  | .address a => { s with mem := memWrite s.mem a v }
  | .closed | .outside => s

/-- Writes a list of words at ascending offsets, the first at off. -/
def State.writeWords (s : State) (id : WindowId) (off : Nat) : List Word → State
  | [] => s
  | v :: vs => (s.writeWord id off v).writeWords id (off + 1) vs

end Sys2Proof.Machine
end

