-- ==== Sys2Proof/Machine/Arith.lean ====
section
/-! DEFINITION. The arithmetic of a pass, the scores of a probe, the shifts of a job and the noise sequences. -/

namespace Sys2Proof.Machine

/-! ### Narrowing -/

/-- Saturate to 16 bits (Conventions), with the word whether it bit. -/
def sat16 (v : Int) : Sample × Bool :=
  if v > 32767 then (32767, true)
  else if v < -32768 then (BitVec.ofInt 16 (-32768), true)
  else (BitVec.ofInt 16 v, false)

/-- Whether an exact value fits the 48-bit accumulator (R62). -/
def fits48 (v : Int) : Bool := decide (-(2 ^ 47) ≤ v) && decide (v < 2 ^ 47)

/-- The accumulator after an exact sum, and whether it wrapped (R62). -/
def accSet (v : Int) : Acc × Bool := (BitVec.ofInt 48 v, !fits48 v)

/-- One step's addition to the accumulator (R62). -/
def accAdd (a : Acc) (d : Int) : Acc × Bool := accSet (a.toInt + d)

/-! ### The four steps of R28 -/

/-- Step 1: the emphasis term of x and the sample before it, and whether it saturated. -/
def emphasisTerm (s : Fin 16) (x before : Sample) : Sample × Bool :=
  sat16 (x.toInt + (s.val : Int) * (x.toInt - before.toInt) / 16)

/-- Step 2: the product of the main filter for tap t; with no taps, the one product of e[n] by 16384. -/
def mainProduct (c : CoeffSet) (es : List Sample) (t : Nat) : Int :=
  if c.tapCount.val = 0 then (es.getD 0 0).toInt * 16384
  else (c.taps.toList.getD t 0).toInt * (es.getD t 0).toInt

/-- Step 2, end: f[n], not saturated. -/
def mainOutput (a : Acc) : Int := (a.toInt + 8192) / 16384

/-- Step 3: the trim product of tap j (0 to 4), to be subtracted. -/
def trimProduct (c : CoeffSet) (ys : Vector Sample 5) (j : Nat) : Int :=
  let p : Int := if c.polarities.toList.getD j false then -1 else 1
  p * (c.weights.toList.getD j 0).val * (ys.toList.getD j 0).toInt

/-- Step 3, end: the accumulator with 512 added, and whether that wrapped. -/
def trimRound (a : Acc) : Acc × Bool := accAdd a 512

/-- Step 3, end: g[n] from the rounded accumulator. -/
def trimOutput (a : Acc) : Int := a.toInt / 1024

/-- Step 4: y[n], and whether it saturated. -/
def gainOutput (g : Fin 3) (v : Int) : Sample × Bool := sat16 (v * 2 ^ g.val)

/-! ### Scores (R88, R89) -/

/-- The residual score. -/
def residualScore (et ee : Nat) : Nat :=
  if et = 0 ∨ et ≤ ee then 0 else 255 * (et - ee) / et

/-- The headroom score; a saturated probe has none. -/
def headroomScore (peak : Nat) (saturated : Bool) : Nat :=
  if saturated then 0 else 255 - min 255 (peak / 128)

/-- The figure of merit of a probe by a selection; a wrapped probe has −510. -/
def figureOfMerit (cfg : AdaptConfig) (sel : FomSelection) (rs hs : Nat) (wrapped : Bool) : Int :=
  if wrapped then -510 else
  match sel with
  | .residual => rs
  | .headroom => hs
  | .both => rs + hs
  | .weighted =>
    (2 * ((rs : Int) - cfg.fomB.val) * cfg.fomA.val).tdiv 128
      + (2 * ((hs : Int) - cfg.fomC.val) * (128 - (cfg.fomA.val : Int))).tdiv 128

/-! ### Right shifts (R144) -/

/-- A value shifted right by s with a rounding mode. -/
def shiftRight (m : Rounding) (v : Int) (s : Nat) : Int :=
  if s = 0 then v else
  match m with
  | .nearest => (v + 2 ^ (s - 1)) / 2 ^ s
  | .towardZero => v.tdiv (2 ^ s)
  | .down => v / 2 ^ s

/-! ### Noise sequences (R167) -/

/-- The degree n of a noise sequence, 0 to 3 for N7 to N23. -/
def seqDegree : Fin 4 → Nat
  | 0 => 7 | 1 => 11 | 2 => 15 | 3 => 23

/-- n − m: how far back the second bit of the recurrence lies. -/
def seqLag : Fin 4 → Nat
  | 0 => 1 | 1 => 2 | 2 => 1 | 3 => 5

/-- The noise sequence of a kind; USER has none. -/
def PatternKind.sequence : PatternKind → Option (Fin 4)
  | .n7 => some 0 | .n11 => some 1 | .n15 => some 2 | .n23 => some 3 | .user => none

/-- The low n bits of a register. -/
def seqKeep (q : Fin 4) (r : BitVec 23) : BitVec 23 := r &&& BitVec.ofNat 23 (2 ^ seqDegree q - 1)

/-- The seeded register: n ones. -/
def seqSeed (q : Fin 4) : BitVec 23 := seqKeep q (BitVec.allOnes 23)

/-- The next bit of a sequence: a[i − n] exclusive-or a[i − (n − m)]. -/
def seqBit (q : Fin 4) (r : BitVec 23) : Bool :=
  r.getLsbD (seqDegree q - 1) != r.getLsbD (seqLag q - 1)

/-- The register after one bit. -/
def seqStep (q : Fin 4) (r : BitVec 23) : BitVec 23 :=
  seqKeep q ((r <<< 1) ||| (if seqBit q r then 1 else 0))

/-- The next k bits of a sequence, the first the most significant, and the register after them. -/
def seqBits (q : Fin 4) (r : BitVec 23) : Nat → Sample × BitVec 23
  | 0 => (0, r)
  | k + 1 =>
    let (x, r') := seqBits q r k
    ((x <<< 1) ||| (if seqBit q r' then 1 else 0), seqStep q r')

/-- The next 16 bits of a sequence as one sample. -/
def seqSample (q : Fin 4) (r : BitVec 23) : Sample × BitVec 23 := seqBits q r 16

end Sys2Proof.Machine
end

