-- ==== Sys2Proof/Machine/Flags.lean ====
section
/-! DEFINITION. The port context: its words (R187), exceptions, the result stack and the condition codes (07, 08). -/

namespace Sys2Proof.Machine

def boolNat (b : Bool) : Nat := if b then 1 else 0

/-! ### Context words (R187) -/

def Rounding.code : Rounding → Nat
  | .nearest => 0 | .towardZero => 1 | .down => 2

/-- The rounding mode of a code; 3 is invalid. -/
def Rounding.ofCode : Nat → Option Rounding
  | 0 => some .nearest | 1 => some .towardZero | 2 => some .down | _ => none

def Tag.code : Tag → Nat
  | .empty => 0 | .valid => 1 | .wrapped => 2

def Tag.ofCode : Nat → Option Tag
  | 0 => some .empty | 1 => some .valid | 2 => some .wrapped | _ => none

/-- The control word. -/
def Context.controlWord (c : Context) : Word := BitVec.ofNat 16 (c.masks.toNat + 32 * c.rounding.code)

/-- The context status word. -/
def Context.statusWord (c : Context) : Word :=
  BitVec.ofNat 16 (c.flags.toNat + 32 * boolNat c.errorPending + 64 * boolNat c.c0 + 128 * boolNat c.c1
    + 256 * boolNat c.c2 + 512 * boolNat c.c3 + 1024 * c.top.val)

/-- The tags word: entry j in bits 2j+1 to 2j. -/
def Context.tagsWord (c : Context) : Word :=
  BitVec.ofNat 16 (c.tags.toList.foldr (fun t n => t.code + 4 * n) 0)

/-- The environment image, eight words (R151). -/
def Context.environment (c : Context) : List Word :=
  [c.controlWord, c.statusWord, c.tagsWord, c.lastKind.setWidth 16, c.lastWindow, c.lastOffset, 0, 0]

/-- The three words of a stack value, least significant first. -/
def accWords (a : Acc) : List Word :=
  [a.extractLsb' 0 16, a.extractLsb' 16 16, a.extractLsb' 32 16]

/-- The full image, 32 words (R151). -/
def Context.fullImage (c : Context) : List Word := c.environment ++ c.stack.toList.flatMap accWords

/-- Control with the two fields of a control word; none when the rounding code is 3. -/
def Context.withControl (c : Context) (w : Word) : Option Context :=
  (Rounding.ofCode ((w >>> 5) &&& 3).toNat).map fun r => { c with masks := w.setWidth 5, rounding := r }

/-- Status from a context status word. -/
def Context.withStatus (c : Context) (w : Word) : Context :=
  { c with
    flags := w.setWidth 5, errorPending := w.getLsbD 5, c0 := w.getLsbD 6, c1 := w.getLsbD 7, c2 := w.getLsbD 8,
    c3 := w.getLsbD 9, top := Fin.ofNat 8 (w >>> 10).toNat }

/-- The eight tags of a tags word; none when one has code 3. -/
def tagsOfWord (w : Word) : Option (Vector Tag 8) := do
  let t (j : Nat) := Tag.ofCode ((w >>> (2 * j)) &&& 3).toNat
  return #v[← t 0, ← t 1, ← t 2, ← t 3, ← t 4, ← t 5, ← t 6, ← t 7]

/-- The number of entries that are not EMPTY (R134). -/
def tagDepth (tags : Vector Tag 8) : Nat := (tags.toList.filter (· != .empty)).length

/-- The non-EMPTY entries form one run from TOP (R134, R156). -/
def tagsContiguous (tags : Vector Tag 8) (top : Fin 8) : Bool :=
  (List.range 8).all fun i => (tags.get (top + Fin.ofNat 8 i) != .empty) == decide (i < tagDepth tags)

def Context.depth (c : Context) : Nat := tagDepth c.tags

/-- Bits of a reference word that carry a field; bits 12 to 8 are unused (R189). -/
def referenceBits (w : Word) : Word := w &&& 0xE0FF

/-- The context a RESTORE ENV of these words loads (R156); none when the image is invalid. -/
def Context.loadEnvironment (c : Context) (ws : List Word) : Option Context := do
  let c1 ← c.withControl (ws.getD 0 0)
  let tags ← tagsOfWord (ws.getD 2 0)
  let c2 := { c1.withStatus (ws.getD 1 0) with
    tags := tags, lastKind := (ws.getD 3 0).setWidth 8, lastWindow := referenceBits (ws.getD 4 0),
    lastOffset := ws.getD 5 0 }
  if tagsContiguous c2.tags c2.top then some c2 else none

/-- The value of three image words, least significant first. -/
def accOfWords (lo mid hi : Word) : Acc := hi ++ mid ++ lo

/-- Stack entry j of a full image: words 8 + 3j to 10 + 3j. -/
def imageEntry (ws : List Word) (j : Nat) : Acc :=
  accOfWords (ws.getD (8 + 3 * j) 0) (ws.getD (9 + 3 * j) 0) (ws.getD (10 + 3 * j) 0)

/-- The context a RESTORE of these words loads (R156); none when the image is invalid. -/
def Context.loadFull (c : Context) (ws : List Word) : Option Context :=
  (c.loadEnvironment ws).map fun c' =>
    { c' with stack := #v[imageEntry ws 0, imageEntry ws 1, imageEntry ws 2, imageEntry ws 3,
                          imageEntry ws 4, imageEntry ws 5, imageEntry ws 6, imageEntry ws 7] }

/-! ### Exceptions and a job's end (R134 to R139) -/

/-- The five exceptions, in the bit order of the control and status words. -/
inductive Exn where
  | stack | wrap | sat | range | access
  deriving DecidableEq, Repr

def Exn.bit : Exn → Nat
  | .stack => 0 | .wrap => 1 | .sat => 2 | .range => 3 | .access => 4

def Context.masked (c : Context) (e : Exn) : Bool := c.masks.getLsbD e.bit

/-- The end of a job as its rule works through it: the context so far, whether an unmasked exception stopped it or a masked
ACCESS ended it early, the stack faults it had, the value last pushed or written into the top, and what it does to C2. -/
structure JobEnd where
  ctx       : Context
  stopped   : Bool
  early     : Bool
  overflow  : Bool
  underflow : Bool
  written   : Option Acc
  c2        : Option Bool
  deriving DecidableEq, Repr

def JobEnd.start (c : Context) : JobEnd := ⟨c, false, false, false, false, none, none⟩

/-- Nothing more is done after a stop or an early end (R138, R76). -/
def JobEnd.over (r : JobEnd) : Bool := r.stopped || r.early

/-- Raises an exception: its flag is set, and it stops the job when it is unmasked (R137, R138). -/
def JobEnd.raise (r : JobEnd) (e : Exn) : JobEnd :=
  { r with
    ctx := { r.ctx with flags := insertBit r.ctx.flags e.bit }
    stopped := r.stopped || !r.ctx.masked e }

/-- Raises ACCESS; masked, it ends the job early (R137). -/
def JobEnd.raiseAccess (r : JobEnd) : JobEnd :=
  let r' := r.raise .access
  { r' with early := !r'.stopped }

/-- TOP moves down one, and the value and tag go there (R134, and the masked overflow of R135). -/
def Context.pushRaw (c : Context) (v : Acc) (t : Tag) : Context :=
  { c with top := c.top - 1, tags := vset c.tags (c.top - 1) t, stack := vset c.stack (c.top - 1) v }

/-- A push (R134, R135). -/
def JobEnd.push (r : JobEnd) (v : Acc) (t : Tag) : JobEnd :=
  if r.over then r else
  let r := if r.ctx.depth = 8 then { r.raise .stack with overflow := true } else r
  if r.over then r else { r with ctx := r.ctx.pushRaw v t, written := some v }

/-- Two pushes, checked together (R135). -/
def JobEnd.push2 (r : JobEnd) (v w : Acc) : JobEnd :=
  if r.over then r
  else if r.ctx.depth > 6 && !r.ctx.masked .stack then { r.raise .stack with overflow := true }
  else (r.push v .valid).push w .valid

/-- A missing operand, when `missing` holds: the underflow of R135. -/
def JobEnd.underflowIf (r : JobEnd) (missing : Bool) : JobEnd :=
  if !r.over && missing then { r.raise .stack with underflow := true } else r

/-- The top value; a missing one reads as 0 with tag VALID (R135). -/
def Context.topValue (c : Context) : Acc := if c.depth = 0 then 0 else c.stack.get c.top
def Context.topTag (c : Context) : Tag := if c.depth = 0 then .valid else c.tags.get c.top
/-- The second value; a missing one reads as 0 (R135). -/
def Context.secondValue (c : Context) : Acc := if c.depth ≤ 1 then 0 else c.stack.get (c.top + 1)

/-- Writes the top entry; with an empty stack the result is pushed instead (R135). -/
def JobEnd.writeTop (r : JobEnd) (v : Acc) (t : Tag) : JobEnd :=
  if r.over then r
  else if r.ctx.depth = 0 then r.push v t
  else { r with
    ctx := { r.ctx with stack := vset r.ctx.stack r.ctx.top v, tags := vset r.ctx.tags r.ctx.top t }
    written := some v }

/-- A pop (R134); with nothing to pop it changes nothing (R135). -/
def JobEnd.pop (r : JobEnd) : JobEnd :=
  if r.over || r.ctx.depth = 0 then r
  else { r with ctx := { r.ctx with tags := vset r.ctx.tags r.ctx.top .empty, top := r.ctx.top + 1 } }

/-- The condition codes at a job's end (R136). -/
def JobEnd.codes (r : JobEnd) : Context :=
  let kept := if r.over then none else r.written
  { r.ctx with
    c0 := (kept.map fun v => decide (v.toInt < 0)).getD r.ctx.c0
    c3 := (kept.map fun v => decide (v = 0)).getD r.ctx.c3
    c1 := r.overflow
    c2 := r.c2.getD r.ctx.c2 }

end Sys2Proof.Machine
end

