-- ==== Sys2Proof/Machine/Operands.lean ====
section
/-! DEFINITION. The encodings of operands and results (R187, R189): reading payload words, writing result words. -/

namespace Sys2Proof.Machine

/-! ### Reading operands. `none` is a word that is not a code of its field, or out of its range. -/

/-- A number below n. -/
def fin? (n : Nat) (w : Word) : Option (Fin n) := if h : w.toNat < n then some ⟨w.toNat, h⟩ else none

/-- A flag, 0 or 1. -/
def flag? (w : Word) : Option Bool := if w = 0 then some false else if w = 1 then some true else none

/-- A 32-bit value, least significant word first. -/
def word32 (lo hi : Word) : Block := hi ++ lo

/-- The kind field of a reference word, bits 15 to 13. -/
def refKind (w : Word) : Nat := (w >>> 13).toNat
/-- The number field of a reference word, bits 7 to 0. -/
def refNumber (w : Word) : Nat := (w &&& 0xFF).toNat

/-- A window by its reference word: PRIVATE 0 to 7 or SHARED 0 to 15. -/
def windowName? (w : Word) : Option WindowName :=
  if refKind w = 1 then
    if h : refNumber w < 8 then some (.priv ⟨refNumber w, h⟩) else none
  else if refKind w = 2 then
    if h : refNumber w < 16 then some (.shared ⟨refNumber w, h⟩) else none
  else none

/-- A channel by a RING reference word. -/
def ringChannel? (w : Word) : Option Channel :=
  if refKind w = 3 then if h : refNumber w < 16 then some ⟨refNumber w, h⟩ else none else none

/-- The place of an image: a window and an offset up to 32767 (R152). -/
def place? (ref off : Word) : Option Place :=
  match windowName? ref with
  | some nm => if off.toNat ≤ 32767 then some ⟨nm, off.toNat⟩ else none
  | none => none

/-- A span of five words: reference, offset, stride, block (R130). -/
def span? (ref off stride lo hi : Word) : Option Span :=
  if off.toNat > 32767 then none
  else match windowName? ref with
    | some nm => if 1 ≤ stride.toNat ∧ stride.toNat ≤ 16 then some (.window nm off.toNat stride.toNat) else none
    | none => (ringChannel? ref).map fun c => .ring c (word32 lo hi) off.toNat

/-- A move source of four words (R120). DESIGN CHOICE (log 26): bits 7 to 0 of a GENERATOR reference are not looked at. -/
def moveSource? (ref off lo hi : Word) : Option MoveSource :=
  match windowName? ref with
  | some nm => some (.window nm off.toNat)
  | none =>
    match ringChannel? ref with
    | some c => some (.ring c (word32 lo hi) off.toNat)
    | none => if refKind ref = 4 then some (.generator (word32 lo hi) off.toNat) else none

/-- A slot source of two words (R48). -/
def source? (kind number : Word) : Option Source :=
  if kind = 0 then some .silent
  else if kind = 1 then (fin? 16 number).map .dry
  else if kind = 2 then (fin? 32 number).map .profile
  else if kind = 3 then some .generator
  else none

/-- A target source of three words (R38). -/
def target? (kind ref off : Word) : Option Target :=
  if kind = 0 then
    match windowName? ref, fin? 32768 off with
    | some nm, some o => some (.window nm o)
    | _, _ => none
  else if kind = 1 then (fin? 256 off).map .generator
  else none

def fomSelection? (w : Word) : Option FomSelection :=
  match w.toNat with
  | 0 => some .residual | 1 => some .headroom | 2 => some .both | 3 => some .weighted | _ => none

def probeLength? (w : Word) : Option ProbeLength :=
  match w.toNat with
  | 32 => some .w32 | 64 => some .w64 | 128 => some .w128 | _ => none

/-- A figure of merit setting, −510 to 510. -/
def fom? (w : Word) : Option Int := if -510 ≤ w.toInt ∧ w.toInt ≤ 510 then some w.toInt else none

/-- Five flags, one per tap. -/
def flags5? (ws : List Word) : Option (Vector Bool 5) :=
  match ws.map flag? with
  | [some a, some b, some c, some d, some e] => some #v[a, b, c, d, e]
  | _ => none

/-- Five weights 0 to 31, one per tap. -/
def weights5? (ws : List Word) : Option (Vector (Fin 32) 5) :=
  match ws.map (fin? 32) with
  | [some a, some b, some c, some d, some e] => some #v[a, b, c, d, e]
  | _ => none

def patternKind? (w : Word) : Option PatternKind :=
  match w.toNat with
  | 0 => some .n7 | 1 => some .n11 | 2 => some .n15 | 3 => some .n23 | 4 => some .user | _ => none

/-! ### Field lists (R189) -/

/-- The fields a select value picks, in table order. -/
def selected (n : Nat) (sel : Nat) : List Nat := (List.range n).filter fun i => sel.testBit i

/-- Cuts the value words of a field list into its fields, the size of each given by its index and the words from it on. -/
def cutFields (size : Nat → List Word → Nat) : List Nat → List Word → List (Nat × List Word)
  | [], _ => []
  | i :: is, ws => (i, ws.take (size i ws)) :: cutFields size is (ws.drop (size i ws))

/-- The number of value words a field list takes. -/
def fieldsLength (size : Nat → List Word → Nat) : List Nat → List Word → Nat
  | [], _ => 0
  | i :: is, ws => size i ws + fieldsLength size is (ws.drop (size i ws))

/-- Applies the fields in order; none when one of them fails its check. -/
def applyFields {α : Type} (f : Nat → List Word → α → Option α) : List (Nat × List Word) → α → Option α
  | [], a => some a
  | (i, ws) :: r, a => (f i ws a).bind (applyFields f r)

/-- Value words of field i of SET FIELDS, the rows of R38's table. -/
def configFieldSize (i : Nat) (_ : List Word) : Nat := if i = 8 then 5 else if i = 11 then 3 else 1

/-- Field i of R38's table with its value words checked and set. -/
def configField (i : Nat) (ws : List Word) (c : AdaptConfig) : Option AdaptConfig :=
  let w := ws.getD 0 0
  match i with
  | 0 => (fin? 4 w).map fun v => { c with mode := v }
  | 1 => (fomSelection? w).map fun v => { c with shapingFom := v }
  | 2 => (fomSelection? w).map fun v => { c with trimFom := v }
  | 3 => (fin? 129 w).map fun v => { c with fomA := v }
  | 4 => (fin? 256 w).map fun v => { c with fomB := v }
  | 5 => (fin? 256 w).map fun v => { c with fomC := v }
  | 6 => (fom? w).map fun v => { c with shapingMinimum := v }
  | 7 => (fom? w).map fun v => { c with acceptance := v }
  | 8 => (flags5? ws).map fun v => { c with startPolarities := v }
  | 9 => (fin? 32 w).map fun v => { c with trimCeiling := v }
  | 10 => (probeLength? w).map fun v => { c with probeLength := v }
  | 11 => (target? w (ws.getD 1 0) (ws.getD 2 0)).map fun v => { c with target := v }
  | 12 => (flag? w).map fun v => { c with continuous := v }
  | 13 => if w = 0 then none else (fin? 256 w).map fun v => { c with trackInterval := v }
  | 14 => if w = 0 then none else (fin? 8 w).map fun v => { c with lookAhead := v }
  | 15 => (fin? 16 w).map fun v => { c with allowableChange := v }
  | 16 => (fin? 256 w).map fun v => { c with hysteresis := v }
  | _ => none

/-- Value words of field i of WRITE CANDIDATE, the rows of R27's table; a tap list says its own length. -/
def setFieldSize (i : Nat) (ws : List Word) : Nat :=
  if i = 2 then 2 + (ws.getD 1 0).toNat else if i = 3 ∨ i = 4 then 5 else 1

/-- Taps written from a start index upward (R30). -/
def writeTaps (taps : Vector Sample 64) (start : Nat) : List Word → Vector Sample 64
  | [] => taps
  | w :: ws => writeTaps (if h : start < 64 then vset taps ⟨start, h⟩ w else taps) (start + 1) ws

/-- Field i of a coefficient set with its value words checked and set (R30). -/
def setField (i : Nat) (ws : List Word) (c : CoeffSet) : Option CoeffSet :=
  let w := ws.getD 0 0
  match i with
  | 0 => (fin? 16 w).map fun v => { c with emphasis := v }
  | 1 => (fin? 65 w).map fun v => { c with tapCount := v }
  | 2 =>
    let n := (ws.getD 1 0).toNat
    if w.toNat ≤ 63 ∧ 1 ≤ n ∧ n ≤ 56 ∧ w.toNat + n ≤ 64 then
      some { c with taps := writeTaps c.taps w.toNat (ws.drop 2) }
    else none
  | 3 => (weights5? ws).map fun v => { c with weights := v }
  | 4 => (flags5? ws).map fun v => { c with polarities := v }
  | 5 => (fin? 3 w).map fun v => { c with gain := v }
  | _ => none

/-- Value words of field i of SET GENERATOR: kind, level, user pattern, inversion, run (R166). -/
def generatorFieldSize (i : Nat) (_ : List Word) : Nat := if i = 2 then 16 else 1

/-! ### Writing results -/

def natWord (n : Nat) : Word := BitVec.ofNat 16 n
def boolWord (b : Bool) : Word := if b then 1 else 0
def finWord {n : Nat} (i : Fin n) : Word := natWord i.val
def intWord (v : Int) : Word := BitVec.ofInt 16 v

/-- A one-word number that may exceed its field: above 65535 the manual states no word (log 16). -/
def positionWord (n : Nat) : Word := if n < 65536 then natWord n else Config.wideWord n

/-- A 32-bit value in two words. -/
def words32 (b : Block) : List Word := [b.extractLsb' 0 16, b.extractLsb' 16 16]

/-- An optional port; none is 0xFFFF. -/
def portWord : Option Port → Word
  | some p => finWord p
  | none => 0xFFFF

/-- An optional 32-bit value: a presence word, then the value. -/
def optWords32 : Option Block → List Word
  | some b => 1 :: words32 b
  | none => [0, 0, 0]

def sourceWords : Source → List Word
  | .silent => [0, 0]
  | .dry c => [1, finWord c]
  | .profile n => [2, finWord n]
  | .generator => [3, 0]

def optSourceWords : Option Source → List Word
  | some s => sourceWords s
  | none => [0xFFFF, 0]

/-- A reference word of a kind and a number. -/
def refWord (kind number : Nat) : Word := natWord (kind * 8192 + number)

def WindowName.word : WindowName → Word
  | .priv k => refWord 1 k.val
  | .shared k => refWord 2 k.val

/-- The reference word of a span, and its offset as queued (R147). -/
def Span.place : Span → Word × Word
  | .window nm off _ => (nm.word, natWord off)
  | .ring c _ off => (refWord 3 c.val, natWord off)

/-- The four words of a move source (R126). DESIGN CHOICE (log 26): the block words of a window source, and bits 7 to 0 of a
GENERATOR reference, are sent as 0. -/
def moveSourceWords : MoveSource → List Word
  | .window nm off => [nm.word, natWord off, 0, 0]
  | .ring c b off => [refWord 3 c.val, natWord off] ++ words32 b
  | .generator n off => [refWord 4 0, natWord off] ++ words32 n

/-- The three words of a target source (R44). DESIGN CHOICE (log 26): the reference word of a GENERATOR target is sent as 0. -/
def targetWords : Target → List Word
  | .window nm off => [0, nm.word, finWord off]
  | .generator lag => [1, 0, finWord lag]

def FomSelection.word : FomSelection → Word
  | .residual => 0 | .headroom => 1 | .both => 2 | .weighted => 3

def ProbeLength.samples : ProbeLength → Nat
  | .w32 => 32 | .w64 => 64 | .w128 => 128

def configWords (c : AdaptConfig) : List Word :=
  [finWord c.mode, c.shapingFom.word, c.trimFom.word, finWord c.fomA, finWord c.fomB, finWord c.fomC,
   intWord c.shapingMinimum, intWord c.acceptance]
  ++ c.startPolarities.toList.map boolWord
  ++ [finWord c.trimCeiling, natWord c.probeLength.samples] ++ targetWords c.target
  ++ [boolWord c.continuous, finWord c.trackInterval, finWord c.lookAhead, finWord c.allowableChange,
      finWord c.hysteresis]

/-- The first four words of a packed coefficient set (R189). -/
def setHeadWords (c : CoeffSet) : List Word :=
  let w (j : Nat) : Nat := (c.weights.toList.getD j 0).val
  [natWord (c.emphasis.val + 16 * c.gain.val + 64 * c.polarities.toList.foldr (fun b n => boolNat b + 2 * n) 0),
   finWord c.tapCount,
   natWord (w 0 + 32 * w 1 + 1024 * w 2),
   natWord (w 3 + 32 * w 4)]

/-- Up to 56 stored taps from a start index, stopping at h[63] (R44). -/
def setTapWords (c : CoeffSet) (start : Nat) : List Word := (c.taps.toList.drop start).take 56

def ProfileState.word : ProfileState → Word
  | .free => 0 | .bound => 1 | .retiring => 2

def BankId.word : BankId → Word
  | .bank0 => 0 | .bank1 => 1

def CommitStage.word : CommitStage → Word
  | .none => 0 | .waitingSpare => 1 | .waitingFlip => 2

def EntryState.word : EntryState → Word
  | .none => 0 | .pending => 1 | .valid => 2 | .expired => 3

def AdaptState.word : AdaptState → Word
  | .idle => 0 | .searchShape => 1 | .searchTrim => 2 | .searchReshape => 3 | .committing => 4 | .tracking => 5

def Outcome.word : Outcome → Word
  | .none => 0 | .done => 1 | .lowMerit => 2 | .starved => 3 | .noTarget => 4 | .aborted => 5

def entryWords (e : OutputEntry) : List Word :=
  optWords32 e.block ++ [e.state.word] ++ words32 e.generation ++ [boolWord e.saturated]

/-- The SUMMARY part of R44. -/
def summaryWords (p : Profile) : List Word :=
  [p.state.word, finWord p.channel, portWord p.leader, p.followers.setWidth 16, p.live.word]
  ++ words32 p.generation
  ++ [natWord p.refs0, natWord p.refs1, boolWord p.probeRef, p.stage.word]
  ++ optWords32 p.flipEvent
  ++ [p.adapt.word, p.lastOutcome.word, p.probesRun, natWord p.restartRun, boolWord p.dynamicSat,
      boolWord p.staticSat, boolWord p.wrap, p.expiredCount]
  ++ p.ring.toList.flatMap entryWords

def MoveState.word : MoveState → Word
  | .queued => 0 | .active => 1 | .done => 2 | .failed => 3

def Direction.word : Direction → Word
  | .ascending => 0 | .descending => 1

def PatternKind.word : PatternKind → Word
  | .n7 => 0 | .n11 => 1 | .n15 => 2 | .n23 => 3 | .user => 4

/-- The state and the settings of the generator (R166). -/
def generatorWords (g : Generator) : List Word :=
  [boolWord g.running, g.kind.word, finWord g.level] ++ g.pattern.toList ++ [boolWord g.inversion]

def CheckerState.word : CheckerState → Word
  | .idle => 0 | .searching => 1 | .locked => 2

/-- The 40-bit count in three words, then the error count. -/
def checkerCounts (c : Checker) : List Word :=
  [c.checked.extractLsb' 0 16, c.checked.extractLsb' 16 16, c.checked.extractLsb' 32 16, c.errors]

def hypothesisWord : Option (Fin 8) → Word
  | some h => finWord h
  | none => 0xFFFF

def checkerWords (c : Checker) : List Word :=
  [portWord c.claim, finWord c.channel, c.state.word, hypothesisWord c.hypothesis]
  ++ checkerCounts c ++ [natWord c.errorRun, boolWord c.frozen]

/-- The reply to READ SLOT (R58). -/
def slotWords (t : Slot) : List Word :=
  [portWord t.owner] ++ sourceWords t.source ++ optSourceWords t.pending ++ [boolWord t.mute, boolWord t.playingMuted]
  ++ optSourceWords t.outgoing ++ [t.lateCount] ++ optWords32 t.lastBlock ++ optWords32 t.lastGeneration

/-- One notice record: its kind word, then its members; an empty set gives none (R182, R187). -/
def noticeRecord (kind : Nat) (present : Bool) (members : List Word) : List Word :=
  if present then natWord (256 * members.length + kind) :: members else []

/-- The notice records of every non-empty set, in order of kind code. -/
def noticeWords (n : Notices) : List Word :=
  noticeRecord 1 (n.committed != 0) (words32 n.committed)
  ++ noticeRecord 2 (n.adaptDone != 0) (words32 n.adaptDone)
  ++ noticeRecord 3 (n.leaderless != 0) (words32 n.leaderless)
  ++ noticeRecord 4 (n.profileGone != 0) (words32 n.profileGone)
  ++ noticeRecord 5 (n.slotLate != 0) [n.slotLate]
  ++ noticeRecord 6 (n.slotSilenced != 0) [n.slotSilenced]
  ++ noticeRecord 7 (n.moveDone != 0) [n.moveDone.setWidth 16]
  ++ noticeRecord 8 n.jobStopped []
  ++ noticeRecord 9 n.jobsIdle []
  ++ noticeRecord 10 n.contextDone.isSome [boolWord (n.contextDone == some false)]
  ++ noticeRecord 11 n.clockLost []
  ++ noticeRecord 12 n.clockBack []
  ++ noticeRecord 13 (n.checkerLock != 0) [n.checkerLock.setWidth 16]
  ++ noticeRecord 14 (n.checkerLost != 0) [n.checkerLost.setWidth 16]

/-- Whether any notice set is non-empty (R179, R180). -/
def Notices.any (n : Notices) : Bool := n != .empty

/-- The words of a reply frame: header, status, results (R187). -/
def Reply.words (r : Reply) : List Word :=
  [r.code ++ r.tag, natWord (256 * r.results.length + r.status.code)] ++ r.results

end Sys2Proof.Machine
end

