-- ==== Sys2Proof/Machine/Formats.lean ====
section
/-! DEFINITION. The checks of a command frame up to its payload length (R177, steps 2 to 4). -/

namespace Sys2Proof.Machine

/-- What step 4 of R177 says of a payload. -/
inductive PayloadVerdict where
  | fits
  | badLength
  | badValue
  deriving DecidableEq, Repr

def lengthIs (n : Nat) (payload : List Word) : PayloadVerdict :=
  if payload.length = n then .fits else .badLength

/-- WRITE WORDS: reference, offset, count of at most 56, values (R118). -/
def writeWordsVerdict (payload : List Word) : PayloadVerdict :=
  if payload.length < 3 then .badLength
  else if (payload.getD 2 0).toNat > 56 then .badValue
  else lengthIs (3 + (payload.getD 2 0).toNat) payload

/-- WRITE CANDIDATE: profile, select of six fields, values; a tap list counts at most 56 (R30). -/
def writeCandidateVerdict (payload : List Word) : PayloadVerdict :=
  let sel := (payload.getD 1 0).toNat
  let values := payload.drop 2
  let countAt := (selected 2 sel).length + 1
  if payload.length < 2 then .badLength
  else if sel ≥ 2 ^ 6 then .badValue
  else if sel.testBit 2 then
    if values.length ≤ countAt then .badLength
    else if (values.getD countAt 0).toNat > 56 then .badValue
    else lengthIs (2 + fieldsLength setFieldSize (selected 6 sel) values) payload
  else lengthIs (2 + fieldsLength setFieldSize (selected 6 sel) values) payload

/-- SET FIELDS: profile mask in two words, select of seventeen fields in two words, values (R39). -/
def setFieldsVerdict (payload : List Word) : PayloadVerdict :=
  let sel := (word32 (payload.getD 2 0) (payload.getD 3 0)).toNat
  if payload.length < 4 then .badLength
  else if sel ≥ 2 ^ 17 then .badValue
  else lengthIs (4 + fieldsLength configFieldSize (selected 17 sel) (payload.drop 4)) payload

/-- SET GENERATOR: select of five fields, values (R166). -/
def setGeneratorVerdict (payload : List Word) : PayloadVerdict :=
  let sel := (payload.getD 0 0).toNat
  if payload.length < 1 then .badLength
  else if sel ≥ 2 ^ 5 then .badValue
  else lengthIs (1 + fieldsLength generatorFieldSize (selected 5 sel) (payload.drop 1)) payload

/-- The payload check of a command code of 10.3; none for a code that is not in its table. -/
def payloadRule (code : Byte) : Option (List Word → PayloadVerdict) :=
  match code.toNat with
  | 0x10 => some (lengthIs 1) | 0x11 => some (lengthIs 1) | 0x12 => some (lengthIs 1) | 0x13 => some (lengthIs 1)
  | 0x14 => some (lengthIs 1) | 0x15 => some (lengthIs 1) | 0x16 => some (lengthIs 3)
  | 0x17 => some writeCandidateVerdict | 0x18 => some (lengthIs 1) | 0x19 => some setFieldsVerdict
  | 0x1A => some (lengthIs 1) | 0x1B => some (lengthIs 1) | 0x1C => some (lengthIs 1) | 0x1D => some (lengthIs 1)
  | 0x20 => some (lengthIs 1) | 0x21 => some (lengthIs 1) | 0x22 => some (lengthIs 3) | 0x23 => some (lengthIs 2)
  | 0x24 => some (lengthIs 2)
  | 0x30 => some (lengthIs 3) | 0x31 => some (lengthIs 1) | 0x32 => some writeWordsVerdict | 0x33 => some (lengthIs 3)
  | 0x34 => some (lengthIs 7) | 0x35 => some (lengthIs 2)
  | 0x40 => some (lengthIs 12) | 0x41 => some (lengthIs 7) | 0x42 => some (lengthIs 6) | 0x43 => some (lengthIs 12)
  | 0x44 => some (lengthIs 2) | 0x45 => some (lengthIs 0) | 0x46 => some (lengthIs 0) | 0x47 => some (lengthIs 8)
  | 0x50 => some (lengthIs 2) | 0x51 => some (lengthIs 2) | 0x52 => some (lengthIs 2) | 0x53 => some (lengthIs 2)
  | 0x54 => some (lengthIs 2) | 0x55 => some (lengthIs 0) | 0x56 => some (lengthIs 2) | 0x57 => some (lengthIs 0)
  | 0x60 => some (lengthIs 0) | 0x61 => some setGeneratorVerdict | 0x62 => some (lengthIs 0)
  | 0x63 => some (lengthIs 2) | 0x64 => some (lengthIs 1) | 0x65 => some (lengthIs 2) | 0x66 => some (lengthIs 1)
  | 0x70 => some (lengthIs 0) | 0x71 => some (lengthIs 0) | 0x72 => some (lengthIs 1) | 0x73 => some (lengthIs 0)
  | 0x74 => some (lengthIs 0)
  | _ => none

/-- What steps 2 to 4 of R177 say of a frame whose code is not a poll's. -/
inductive FrameVerdict where
  | refused (status : Status)
  | accepted (payload : List Word)
  deriving DecidableEq, Repr

def checkPayload (code : Byte) (payload : List Word) : FrameVerdict :=
  match payloadRule code with
  | none => .refused .badCommand
  | some rule =>
    match rule payload with
    | .fits => .accepted payload
    | .badLength => .refused .badLength
    | .badValue => .refused .badValue

/-- The frame check, from the words clocked after the header. -/
def checkFrame (code : Byte) : List Word → FrameVerdict
  | [] => .refused .badLength
  | len :: rest =>
    if len.toNat > 62 ∨ rest.length < len.toNat ∨ (rest.drop len.toNat).any (· != 0) then .refused .badLength
    else checkPayload code (rest.take len.toNat)

end Sys2Proof.Machine
end

