-- ==== Sys2Proof/Machine/Frames.lean ====
section
/-! DEFINITION. Transactions on a client port and how a command frame is taken (10.1, 10.2). -/

namespace Sys2Proof.Machine

/-- The port status word (R179, R187). -/
def State.portStatus (s : State) (p : Port) : Word :=
  let ps := s.port p
  natWord (0xA000 + 256 * boolNat s.clockPresent + 128 * boolNat ps.resetOccurred + 64 * boolNat ps.ctx.errorPending
    + 32 * boolNat ps.overrun + 16 * boolNat ps.notices.any + ps.replies.length)

/-- The interrupt line of a port, asserted while a reply or a notice waits (R180). -/
def State.interrupt (s : State) (p : Port) : Bool := !(s.port p).replies.isEmpty || (s.port p).notices.any

/-- The outbound stream formed at the fall of chip-select (R176), its padding left out. -/
def State.outbound (s : State) (p : Port) : List Word :=
  s.portStatus p :: (match (s.port p).replies with
    | r :: _ => r.words
    | [] => [0])

/-- The fall of chip-select (R176); a port in a transaction, or ignoring one, sees no fall. -/
def startTransaction (p : Port) (s : State) : State :=
  if (s.port p).ignoring || (s.port p).spi.isSome then s
  else s.modPort p fun ps => { ps with
    spi := some ⟨s.outbound p, !ps.replies.isEmpty, ps.overrun, ps.resetOccurred⟩ }

/-- The rise of chip-select after a number of whole words, at least one (R178 first two steps, R179): the delivered head
reply is removed, the carried flags clear, and the keep-alive countdown is reloaded. -/
def PortState.finishTransaction (ps : PortState) (t : Transaction) (clocked : Nat) : PortState :=
  { ps with
    spi := none
    replies := if t.holdsReply && decide (t.outbound.length ≤ clocked) then ps.replies.drop 1 else ps.replies
    overrun := ps.overrun && !t.showedOverrun
    resetOccurred := ps.resetOccurred && !t.showedReset
    countdown := ps.keepPeriod }

/-- A frame reaches its port: the whole transaction of the frame, its fall included where the port was IDLE (log 3), up to
the keep-alive reload. -/
def receive (f : Frame) (s : State) : State :=
  let s := startTransaction f.port s
  s.modPort f.port fun ps =>
    match ps.spi with
    | some t => ps.finishTransaction t (1 + f.body.length)
    | none => ps

/-- What becomes of a frame that is no poll (R177, R178): it is dealt with, or it carries a command to be taken now. -/
inductive Intake where
  | done (s : State)
  | taken (payload : List Word) (s : State)

/-- A transaction ignored since reset release ends here, and is no frame (R186). -/
def stopIgnoring (p : Port) (s : State) : State := s.modPort p fun ps => { ps with ignoring := false }

/-- R178: a frame that finds eight replies is discarded with overrun set; one refused by R177 is answered; else its command
is taken. -/
def intake (code : Byte) (f : Frame) (s : State) : Intake :=
  if (s.port f.port).ignoring then .done (stopIgnoring f.port s)
  else
    let s := receive f s
    if Config.replyLimit ≤ (s.port f.port).replies.length then
      .done (s.modPort f.port fun ps => { ps with overrun := true })
    else match checkFrame code f.body with
      | .refused st => .done (s.reply f.port code f.tag (refuse st))
      | .accepted payload => .taken payload s

/-- A client command: taken by its owning rule, then answered by one reply (R178). -/
def command (code : Byte) (run : Port → List Word → State → State × Answer) (f : Frame) (s : State) : State :=
  match intake code f s with
  | .done s' => s'
  | .taken payload s' =>
    let r := run f.port payload s'
    r.1.reply f.port code f.tag r.2

/-- Operand word i of a payload. -/
def arg (payload : List Word) (i : Nat) : Word := payload.getD i 0

/-- The end of a meaning: no command and no event of the part stops it. -/
def finish (s : State) : Host.Outcome State Fault Refusal := .next s

/-! ### The rows of the transaction level -/

/-- TRANSACTION_START (R176). -/
def execTransactionStart (p : Port) (s : State) : Host.Outcome State Fault Refusal := finish (startTransaction p s)

/-- POLL (R177): no command and no reply. -/
def execPoll (f : Frame) (s : State) : Host.Outcome State Fault Refusal :=
  finish (if (s.port f.port).ignoring then stopIgnoring f.port s else receive f s)

/-- UNKNOWN_COMMAND (R177): a frame whose code or length is refused. A frame that R177 accepts, or a poll, is not this
event (log 2). -/
def execUnknownCommand (code : Byte) (f : Frame) (s : State) : Host.Outcome State Fault Refusal :=
  finish (if code = 0 then s else
    match checkFrame code f.body with
    | .refused _ => command code (fun _ _ s => (s, refuse .badCommand)) f s
    | .accepted _ => s)

/-- TRANSACTION_OF_NO_WHOLE_WORD (R177, R186): the interface returns to IDLE, and nothing else happens. -/
def execTransactionOfNoWholeWord (p : Port) (s : State) : Host.Outcome State Fault Refusal :=
  finish (s.modPort p fun ps => { ps with spi := none, ignoring := false })

end Sys2Proof.Machine
end

