-- ==== Sys2Proof/Machine/Table.lean ====
section
/-! DEFINITION. The operations of the profile table on one record: banks, commits, the output ring, retirement (02). -/

namespace Sys2Proof.Machine

/-! ### Banks and references (R31) -/

def BankId.other : BankId → BankId
  | .bank0 => .bank1 | .bank1 => .bank0

def Profile.bank (p : Profile) : BankId → Bank
  | .bank0 => p.bank0 | .bank1 => p.bank1

def Profile.setBank (p : Profile) (b : BankId) (k : Bank) : Profile :=
  match b with
  | .bank0 => { p with bank0 := k }
  | .bank1 => { p with bank1 := k }

def Profile.refs (p : Profile) : BankId → Nat
  | .bank0 => p.refs0 | .bank1 => p.refs1

def Profile.setRefs (p : Profile) (b : BankId) (k : Nat) : Profile :=
  match b with
  | .bank0 => { p with refs0 := k }
  | .bank1 => { p with refs1 := k }

def Profile.spare (p : Profile) : BankId := p.live.other
def Profile.liveSet (p : Profile) : CoeffSet := (p.bank p.live).set

/-- Adds a notice for the leader, if any, and every follower of profile n. -/
def State.notifyMembers (s : State) (n : ProfileId) (k : Notice) : State :=
  (s.notifyOpt (s.profile n).leader k).notifySet (s.profile n).followers k

/-! ### Commit, copy and retirement (R21, R33) -/

/-- The copy of a WAITING_SPARE commit whose spare bank has no references (R33); B is the block counter. -/
def Profile.copyIfDue (b : Block) (p : Profile) : Profile :=
  if p.stage = .waitingSpare ∧ p.refs p.spare = 0 then
    { p.setBank p.spare ⟨p.candidate, p.generation + 1⟩ with stage := .waitingFlip, flipEvent := some (b + 1) }
  else p

def tryCopy (n : ProfileId) (s : State) : State := s.modProfile n (Profile.copyIfDue s.lane.blockCounter)

/-- Starts a commit, which copies at once when nothing references the spare (R33). -/
def startCommit (n : ProfileId) (s : State) : State :=
  tryCopy n (s.modProfile n fun p => { p with stage := .waitingSpare })

/-- Nothing reads this RETIRING profile any more (R21). -/
def Profile.retired (p : Profile) : Bool :=
  p.state == .retiring && p.refs0 == 0 && p.refs1 == 0 && !p.probeRef

/-- The test of R21: PROFILE_GONE to the deleting port, and the record cleared. -/
def freeTest (n : ProfileId) (s : State) : State :=
  if (s.profile n).retired then
    (s.notifyOpt (s.profile n).deletingPort (.profileGone n)).modProfile n fun _ => .cleared
  else s

/-- Drops one reference of a bank; a copy or the end of retirement may follow (R31, R33, R21). -/
def dropReference (n : ProfileId) (b : BankId) (s : State) : State :=
  freeTest n (tryCopy n (s.modProfile n fun p => p.setRefs b (p.refs b - 1)))

/-! ### The output ring (2.6) -/

/-- Index of block j in an output ring: j modulo 4. -/
def ringIndex (j : Block) : Fin 4 := Fin.ofNat 4 j.toNat

/-- The state of the entry of block j (R35). -/
def Profile.entryState (p : Profile) (j : Block) : EntryState :=
  let e := p.ring.get (ringIndex j)
  if e.block = some j then e.state else .none

/-- The entry at the index of block k, when it holds block k and is PENDING (R36). -/
def Profile.awaits (p : Profile) (k : Block) : Bool :=
  p.entryState k == .pending

/-- The bank of block k (R32). -/
def Profile.bankFor (p : Profile) (k : Block) : BankId :=
  if p.stage = .waitingFlip ∧ p.flipEvent = some k then p.spare else p.live

/-- The record after the route pass of block k is queued: a reference of its bank, and its ring entry PENDING (R32, R37). -/
def Profile.queueBlock (p : Profile) (k : Block) : Profile :=
  let b := p.bankFor k
  let p' := p.setRefs b (p.refs b + 1)
  { p' with
    ring := vset p'.ring (ringIndex k) ⟨some k, .pending, (p.bank b).generation, false, List.replicate 32 0⟩ }

/-- The last five of a pass's outputs, the latest first. -/
def lastFive (ys : List Sample) : Vector Sample 5 :=
  let r := ys.reverse
  #v[r.getD 0 0, r.getD 1 0, r.getD 2 0, r.getD 3 0, r.getD 4 0]

/-- Steps 2 to 4 of R40 on the record: the ring entry and the trim history when the entry awaits block k, and the flags. -/
def Profile.completeBlock (p : Profile) (k : Block) (generation : Block) (ys : List Sample) (sat wrapped : Bool) :
    Profile :=
  let p' := if p.awaits k then
      { p with
        ring := vset p.ring (ringIndex k) ⟨some k, .valid, generation, sat, ys⟩
        trim := lastFive ys, trimBlock := some k }
    else p
  { p' with dynamicSat := sat, staticSat := p.staticSat || sat, wrap := p.wrap || wrapped }

/-- The completion of the route pass of block k on bank b (R40). -/
def routeCompleted (n : ProfileId) (k : Block) (b : BankId) (ys : List Sample) (sat wrapped : Bool) (s : State) : State :=
  let generation := ((s.profile n).bank b).generation
  dropReference n b (s.modProfile n fun p => p.completeBlock k generation ys sat wrapped)

/-- The record after the expiry of block k: its entry EXPIRED, its expired count one more (R41). -/
def Profile.expireBlock (p : Profile) (k : Block) : Profile :=
  let i := ringIndex k
  let p' := if p.awaits k then { p with ring := vset p.ring i { p.ring.get i with state := .expired } } else p
  { p' with expiredCount := satInc p.expiredCount }

/-- The expiry of the unstarted route pass of block k (R41). -/
def routeExpired (n : ProfileId) (k : Block) (b : BankId) (s : State) : State :=
  dropReference n b (s.modProfile n fun p => p.expireBlock k)

/-- What clock return does to a record's ring and trim history (R42). -/
def Profile.clockReturn (p : Profile) : Profile :=
  { p with
    ring := vmap (fun e => { e with block := none, state := EntryState.none }) p.ring
    trim := Vector.replicate 5 0, trimBlock := none }

/-! ### Questions to the slot map (R51, R59) -/

/-- The slot's source or pending source is the profile. -/
def Slot.names (t : Slot) (n : ProfileId) : Bool := t.source == .profile n || t.pending == some (.profile n)

/-- Some slot's source or pending source names the profile (R59). -/
def State.profileInUse (s : State) (n : ProfileId) : Bool := s.slots.toList.any fun t => t.names n

/-- The profile is active at a block event that the slot map has taken for these slots (R51): some slot's source or pending source
names it, or the outgoing source of a slot that has taken the event. -/
def State.profileActive (s : State) (taken : List SlotId) (n : ProfileId) : Bool :=
  s.profileInUse n || taken.any fun i => (s.slot i).outgoing == some (.profile n)

/-- Some slot of port p names the profile (R59, UNFOLLOW). -/
def State.portUses (s : State) (p : Port) (n : ProfileId) : Bool :=
  s.slots.toList.any fun t => t.owner == some p && t.names n

/-! ### The rows of the table's own steps -/

/-- COMMIT_COPY (R33): the copy is made at the moment it is due, so this row finds it made unless a state was built
otherwise (log 5). -/
def execCommitCopy (n : ProfileId) (s : State) : Host.Outcome State Fault Refusal := finish (tryCopy n s)

/-- PROFILE_FREED (R21): the test is made at every dropped reference (log 5). -/
def execProfileFreed (n : ProfileId) (s : State) : Host.Outcome State Fault Refusal := finish (freeTest n s)

end Sys2Proof.Machine
end

