-- ==== Sys2Proof/Machine/Passes.lean ====
section
/-! DEFINITION. The steps of a pass (R61): what each reads when it begins and what it leaves when it ends.
A step in progress has read its operands; its result is added at its end. -/

namespace Sys2Proof.Machine

/-- The list with f applied to its first entry that satisfies p. -/
def updateFirst {α : Type} (p : α → Bool) (f : α → α) : List α → List α
  | [] => []
  | a :: as => if p a then f a :: as else a :: updateFirst p f as

/-! ### Filter passes (R28, R29) -/

/-- Progress before the first step, with a trim history. -/
def FilterProgress.start (ys : Vector Sample 5) : FilterProgress := ⟨0, 0, 0, 0, 0, [], 0, ys, false, false⟩

/-- Main-filter products of one sample: one when T is 0 (R61). -/
def mainSteps (c : CoeffSet) : Nat := max c.tapCount.val 1
/-- History terms recomputed at the start: e[n − 1] to e[n − T + 1] of the first sample (R61). -/
def historySteps (c : CoeffSet) : Nat := c.tapCount.val - 1
/-- The last step of a sample: emphasis, the main products, the trim load and five trim products. -/
def lastSub (c : CoeffSet) : Nat := mainSteps c + 6

/-- The step in hand is a history term. -/
def FilterProgress.inHistory (pr : FilterProgress) (c : CoeffSet) : Bool := decide (pr.history < historySteps c)

/-- The step in hand is the pass's last, for a pass of `count` samples. -/
def FilterProgress.isLast (pr : FilterProgress) (c : CoeffSet) (count : Nat) : Bool :=
  !pr.inHistory c && decide (count ≤ pr.sample + 1) && decide (lastSub c ≤ pr.sub)

/-- Begins the step in hand. An emphasis step reads its input sample, and the pass's first one the sample before it too;
every sample is read once. `first` is the offset of the pass's first output sample, `read` the input by offset. -/
def FilterProgress.beginStep (pr : FilterProgress) (c : CoeffSet) (first : Nat) (read : Nat → Sample) : FilterProgress :=
  let at_ := if pr.inHistory c then first - historySteps c + pr.history else first + pr.sample
  if pr.inHistory c || pr.sub == 0 then
    { pr with
      x := read at_
      xBefore := if pr.history == 0 && pr.sample == 0 then read (at_ - 1) else pr.x }
  else pr

/-- Ends the step in hand (R28, R62); a finished output sample is handed back. -/
def FilterProgress.endStep (pr : FilterProgress) (c : CoeffSet) : FilterProgress × Option Sample :=
  let e := emphasisTerm c.emphasis pr.x pr.xBefore
  if pr.inHistory c then
    ({ pr with es := e.1 :: pr.es, history := pr.history + 1 }, none)
  else if pr.sub = 0 then
    ({ pr with
       es := (e.1 :: pr.es).take (mainSteps c), acc := 0, sub := 1, saturated := pr.saturated || e.2 }, none)
  else if pr.sub ≤ mainSteps c then
    let a := accAdd pr.acc (mainProduct c pr.es (pr.sub - 1))
    ({ pr with acc := a.1, wrapped := pr.wrapped || a.2, sub := pr.sub + 1 }, none)
  else if pr.sub = mainSteps c + 1 then
    let a := accSet (mainOutput pr.acc * 1024)
    ({ pr with acc := a.1, wrapped := pr.wrapped || a.2, sub := pr.sub + 1 }, none)
  else
    let a := accAdd pr.acc (-(trimProduct c pr.ys (pr.sub - (mainSteps c + 2))))
    if pr.sub < lastSub c then
      ({ pr with acc := a.1, wrapped := pr.wrapped || a.2, sub := pr.sub + 1 }, none)
    else
      let r := trimRound a.1
      let y := gainOutput c.gain (trimOutput r.1)
      ({ pr with
         acc := r.1, wrapped := pr.wrapped || a.2 || r.2, saturated := pr.saturated || y.2,
         ys := #v[y.1, pr.ys.get 0, pr.ys.get 1, pr.ys.get 2, pr.ys.get 3],
         sample := pr.sample + 1, sub := 0 }, some y.1)

/-! ### Route passes (R66) -/

/-- Output samples of a route pass. -/
def routeLength : Nat := 32

/-- The coefficient set of the bank in a route entry. -/
def State.routeSet (s : State) (e : RouteEntry) : CoeffSet := ((s.profile e.profile).bank e.bank).set

/-- Begins the step in hand: offsets count from block k − 2, so the first output sample is at 64. -/
def RouteEntry.beginStep (e : RouteEntry) (s : State) : RouteEntry :=
  let read := s.lane.passSample (s.profile e.profile).channel (e.block - 2)
  { e with progress := e.progress.beginStep (s.routeSet e) 64 read }

/-- Ends the step in hand. -/
def RouteEntry.endStep (e : RouteEntry) (s : State) : RouteEntry :=
  let r := e.progress.endStep (s.routeSet e)
  { e with progress := r.1, outputs := e.outputs ++ r.2.toList }

def RouteEntry.isLast (e : RouteEntry) (s : State) : Bool := e.progress.isLast (s.routeSet e) routeLength

/-- The trim history a route pass for block k starts with (R29). -/
def Profile.trimFor (p : Profile) (k : Block) : Vector Sample 5 :=
  if p.trimBlock = some (k - 1) then p.trim else Vector.replicate 5 0

/-- The start of a route entry (R66). -/
def RouteEntry.start (e : RouteEntry) (s : State) : RouteEntry :=
  RouteEntry.beginStep
    { e with running := true, outputs := [], progress := .start ((s.profile e.profile).trimFor e.block) } s

/-! ### Probe passes (R72, R90, R91) -/

/-- Offset, counted from block b − 5, of the first output sample of a probe of W samples. -/
def probeFirst (w : ProbeLength) : Nat := 192 - w.samples

/-- The input of a probe by offset from block b − 5: a sample before block o reads as zero (R72). -/
def State.probeSample (s : State) (e : ProbeEntry) (off : Nat) : Sample :=
  let base := e.window.endBlock - 5
  let blk := base + BitVec.ofNat 32 (off / 32)
  if (blk - e.window.oldest).toNat < 2 ^ 31 then s.lane.passSample (s.profile e.profile).channel base off else 0

/-- The generator history's sample of a number, if it is held (R170). -/
def Generator.held (g : Generator) (number : Block) : Option Sample :=
  let h := g.history.get (Fin.ofNat 512 number.toNat)
  if h.number = some number then some h.sample else none

/-- The target sample of a probe's i-th output sample; what is not held or closed reads as zero (R90, R91). -/
def State.targetSample (s : State) (e : ProbeEntry) (i : Nat) : Sample :=
  match e.target with
  | .window (some id) off => (s.readWord id (off.val + i)).getD 0
  | .window none _ => 0
  | .generator lag =>
    (s.gen.held (e.window.endBlock * 32 + 32 - BitVec.ofNat 32 e.length.samples + BitVec.ofNat 32 i
      - BitVec.ofNat 32 lag.val)).getD 0

def ProbeEntry.beginStep (e : ProbeEntry) (s : State) : ProbeEntry :=
  { e with progress := e.progress.beginStep e.trial (probeFirst e.length) (s.probeSample e) }

/-- Ends the step in hand; at the end of an output sample the target is read and the sums and the peak taken (R72). -/
def ProbeEntry.endStep (e : ProbeEntry) (s : State) : ProbeEntry :=
  let r := e.progress.endStep e.trial
  match r.2 with
  | none => { e with progress := r.1 }
  | some y =>
    let t := s.targetSample e e.progress.sample
    { e with
      progress := r.1
      sumTarget := e.sumTarget + t.toInt.natAbs
      sumError := e.sumError + (t.toInt - y.toInt).natAbs
      peak := max e.peak y.toInt.natAbs }

def ProbeEntry.isLast (e : ProbeEntry) : Bool := e.progress.isLast e.trial e.length.samples

/-- The entry with its progress reset (R69). -/
def ProbeEntry.reset (e : ProbeEntry) : ProbeEntry :=
  { e with progress := .start (Vector.replicate 5 0), sumTarget := 0, sumError := 0, peak := 0 }

/-! ### Job passes (R75, R132, R133) -/

/-- Word i of a span, if it is there to be read (R132, R133). -/
def State.spanWord (s : State) (p : Port) (sp : Span) (i : Nat) : Option Sample :=
  match sp with
  | .window nm off stride => s.readWord (nm.of p) (off + i * stride)
  | .ring c b off =>
    match s.lane.ringRead c b (off + i) with
    | .sample x => some x
    | .beforeV | .gone => none

/-- Steps of a job (R61). -/
def Job.steps : Job → Nat
  | .dot _ _ n _ => n
  | .energy _ n _ => n
  | .peak _ n => n
  | .sweep _ _ n l => (l + 1) * n
  | .push _ => 1 | .drop => 1 | .scale => 1 | .store .. => 1

/-- The count N of a job, the length of one lag of a SWEEP. -/
def Job.count : Job → Nat
  | .dot _ _ n _ => n
  | .energy _ n _ => n
  | .peak _ n => n
  | .sweep _ _ n _ => n
  | .push _ => 1 | .drop => 1 | .scale => 1 | .store .. => 1

/-- Steps of a pass that have ended. -/
def JobPass.done (j : JobPass) : Nat := j.lag * j.job.count + j.index

/-- The step in hand is the pass's last: no later one is left, or it raised ACCESS (R76). -/
def JobPass.isLast (j : JobPass) : Bool := j.read == .access || decide (j.job.steps ≤ j.done + 1)

def readPair (a b : Option Sample) : StepRead :=
  match a, b with
  | some x, some y => .words x y
  | _, _ => .access

/-- Begins the step in hand: it reads its span words, or raises ACCESS (R133). -/
def JobPass.beginStep (j : JobPass) (s : State) : JobPass :=
  { j with read :=
      match j.job with
      | .dot a b _ _ => readPair (s.spanWord j.port a j.index) (s.spanWord j.port b j.index)
      | .energy a _ _ => readPair (s.spanWord j.port a j.index) (s.spanWord j.port a j.index)
      | .peak a _ => readPair (s.spanWord j.port a j.index) (some 0)
      | .sweep a b _ _ => readPair (s.spanWord j.port a j.index) (s.spanWord j.port b (j.lag + j.index))
      | .push _ | .drop | .scale | .store .. => .nothing }

/-- The end of a lag of a SWEEP: its dot replaces the best only if greater, and lag 0's is the first best (R142). -/
def JobPass.endLag (j : JobPass) : JobPass :=
  let better := j.lag = 0 ∨ j.best.toInt < j.acc.toInt
  { j with
    best := if better then j.acc else j.best
    bestLag := if better then j.lag else j.bestLag
    lag := j.lag + 1, index := 0, acc := 0 }

/-- Ends the step in hand: one product added (R140, R142) or one magnitude compared (R141). -/
def JobPass.endStep (j : JobPass) : JobPass :=
  match j.read with
  | .nothing | .access => j
  | .words a b =>
    match j.job with
    | .dot .. | .energy .. => { j with acc := (accAdd j.acc (a.toInt * b.toInt)).1, index := j.index + 1 }
    | .peak .. =>
      if j.peak < a.toInt.natAbs then
        { j with peak := a.toInt.natAbs, peakIndex := j.index, index := j.index + 1 }
      else { j with index := j.index + 1 }
    | .sweep _ _ n _ =>
      let j' := { j with acc := (accAdd j.acc (a.toInt * b.toInt)).1, index := j.index + 1 }
      if n ≤ j'.index then j'.endLag else j'
    | .push _ | .drop | .scale | .store .. => j

/-- A job pass before its first step (R75). -/
def JobPass.start (p : Port) (job : Job) : JobPass := ⟨p, job, false, 0, 0, 0, 0, 0, 0, 0, .nothing⟩

end Sys2Proof.Machine
end

