-- ==== Sys2Proof/Machine/Jobs.lean ====
section
/-! DEFINITION. Measurement jobs: how each is queued (R130) and what its end does (R139 to R147). -/

namespace Sys2Proof.Machine

/-! ### The result of each job -/

/-- DOT and ENERGY without accumulate push the sum; with it they add it into the top, unless N is 0 (R140). -/
def sumEnd (c : Context) (sum : Acc) (n : Nat) (accumulate : Bool) : JobEnd :=
  let r := JobEnd.start c
  if !accumulate then r.push sum .valid
  else if n = 0 then r
  else
    let r := r.underflowIf (c.depth == 0)
    let a := accAdd c.topValue sum.toInt
    let r := if a.2 && !r.over then r.raise .wrap else r
    r.writeTop a.1 (if a.2 || c.topTag == .wrapped then .wrapped else .valid)

/-- SCALE: the second value is the shift count of the top (R145). -/
def scaleEnd (c : Context) : JobEnd :=
  let r := (JobEnd.start c).underflowIf (decide (c.depth ≤ 1))
  let k := c.secondValue.toInt
  let v := c.topValue.toInt
  if r.over then r
  else if k < -47 ∨ 47 < k then { r.raise .range with c2 := some true }
  else if k ≤ 0 then
    { r.writeTop (BitVec.ofInt 48 (shiftRight c.rounding v (-k).toNat)) c.topTag with c2 := some false }
  else
    let a := accSet (v * 2 ^ k.toNat)
    let r := if a.2 then r.raise .wrap else r
    if r.over then r else { r.writeTop a.1 (if a.2 then .wrapped else c.topTag) with c2 := some false }

def StoreWidth.bits : StoreWidth → Nat
  | .w16 => 16 | .w32 => 32

/-- The offsets a STORE writes: span word 0, and span word 1 for width 32 (R146). -/
def storeOffsets (off stride : Nat) : StoreWidth → List Nat
  | .w16 => [off]
  | .w32 => [off, off + stride]

/-- The words of a stored value, least significant first (R146). -/
def storeWords (v : Int) : StoreWidth → List Word
  | .w16 => [BitVec.ofInt 16 v]
  | .w32 => words32 (BitVec.ofInt 32 v)

/-- STORE up to its write: underflow, then SAT, then ACCESS (R146), with the value fitted to its width. -/
def storeEnd (s : State) (p : Port) (nm : WindowName) (off stride : Nat) (width : StoreWidth) (shift : Nat)
    (pop : Bool) : JobEnd × Int :=
  let c := (s.port p).ctx
  let r := (JobEnd.start c).underflowIf (c.depth == 0)
  let v := shiftRight c.rounding c.topValue.toInt shift
  let hi : Int := 2 ^ (width.bits - 1) - 1
  let lo : Int := -(2 ^ (width.bits - 1))
  let r := if !r.over && (decide (v < lo) || decide (hi < v)) then r.raise .sat else r
  let r := if !r.over && (storeOffsets off stride width).any (fun o => (s.readWord (nm.of p) o).isNone) then
      r.raiseAccess else r
  (if pop then r.pop else r, max lo (min hi v))

/-- The result of a completed pass (R140 to R146) and the state with the words it stores. -/
def jobResult (j : JobPass) (s : State) : JobEnd × State :=
  let c := (s.port j.port).ctx
  match j.job with
  | .dot _ _ n acc => (sumEnd c j.acc n acc, s)
  | .energy _ n acc => (sumEnd c j.acc n acc, s)
  | .peak _ _ => ((JobEnd.start c).push2 (BitVec.ofNat 48 j.peak) (BitVec.ofNat 48 j.peakIndex), s)
  | .sweep _ _ _ _ => ((JobEnd.start c).push2 j.best (BitVec.ofNat 48 j.bestLag), s)
  | .push v => ((JobEnd.start c).push (v.signExtend 48) .valid, s)
  | .drop => (((JobEnd.start c).underflowIf (c.depth == 0)).pop, s)
  | .scale => (scaleEnd c, s)
  | .store nm off stride width shift pop =>
    let r := storeEnd s j.port nm off stride width shift pop
    let ws := List.zip (storeOffsets off stride width) (storeWords r.2 width)
    (r.1, if r.1.over then s else ws.foldl (fun s ow => s.writeWord (nm.of j.port) ow.1 ow.2) s)

/-- The command code of a job, which is its kind in the last-job record (R187). -/
def Job.code : Job → Byte
  | .dot .. => 0x40 | .energy .. => 0x41 | .peak .. => 0x42 | .sweep .. => 0x43
  | .push _ => 0x44 | .drop => 0x45 | .scale => 0x46 | .store .. => 0x47

/-- Window and offset of the last-job record (R147). -/
def Job.place : Job → Word × Word
  | .dot a _ _ _ => a.place
  | .energy a _ _ => a.place
  | .peak a _ => a.place
  | .sweep a _ _ _ => a.place
  | .push _ | .drop | .scale => (0, 0)
  | .store nm off _ _ _ _ => (nm.word, natWord off)

/-- The head leaves the queue; JOBS_IDLE when that empties it (R131). -/
def leaveQueue (p : Port) (s : State) : State :=
  let s := s.modPort p fun ps => { ps with jobs := ps.jobs.drop 1 }
  if (s.port p).jobs.isEmpty then s.notify p .jobsIdle else s

/-- The end of a job pass in the port's context and queue, in the order of R139. -/
def jobEnded (j : JobPass) (s : State) : State :=
  let r := if j.read = .access then ((JobEnd.start (s.port j.port).ctx).raiseAccess, s) else jobResult j s
  let s := r.2.modPort j.port fun ps =>
    { ps with ctx := { r.1.codes with
        lastKind := j.job.code, lastWindow := j.job.place.1, lastOffset := j.job.place.2 } }
  let s := leaveQueue j.port s
  if r.1.stopped then
    (s.modPort j.port fun ps => { ps with ctx := { ps.ctx with errorPending := true } }).notify j.port .jobStopped
  else s

/-- JOB_PASS_END (R76, R139): the last step of the running job pass ends, or the step that raised ACCESS. -/
def execJobPassEnd (s : State) : Host.Outcome State Fault Refusal :=
  finish (match s.engine.mac, s.engine.jobPass with
    | .running .job, some j =>
      if j.isLast then
        jobEnded j.endStep
          { s with engine := { s.engine with mac := .free, suspendAsked := false, jobPass := none } }
      else s
    | _, _ => s)

/-! ### Queuing (R130) -/

/-- The windows a job's spans name. -/
def Span.window? : Span → List WindowName
  | .window nm _ _ => [nm]
  | .ring .. => []

def Job.windows : Job → List WindowName
  | .dot a b _ _ => a.window? ++ b.window?
  | .energy a _ _ => a.window?
  | .peak a _ => a.window?
  | .sweep a b _ _ => a.window? ++ b.window?
  | .push _ | .drop | .scale => []
  | .store nm .. => [nm]

/-- Appends an entry to the tail of a port's queue; the answer gives the entries after it. -/
def appendJob (p : Port) (w : Work) (s : State) : State × Answer :=
  (s.modPort p fun ps => { ps with jobs := ps.jobs ++ [⟨w, .waiting⟩] },
   (.accepted, [natWord ((s.port p).jobs.length + 1)]))

/-- The checks of R130 in their order, from the operands as read. -/
def queueJob (p : Port) (job? : Option Job) (s : State) : State × Answer :=
  match job? with
  | none => (s, refuse .badValue)
  | some job =>
    if job.count > Config.countLimit then (s, refuse .tooLong)
    else if job.windows.any fun nm => (s.windowOf (nm.of p)).isNone then (s, refuse .noSuch)
    else if Config.jobLimit ≤ (s.port p).jobs.length then (s, refuse .full)
    else appendJob p (.job job) s

/-- The span whose first operand word is at i. -/
def spanAt? (pl : List Word) (i : Nat) : Option Span :=
  span? (arg pl i) (arg pl (i + 1)) (arg pl (i + 2)) (arg pl (i + 3)) (arg pl (i + 4))

def dotJob? (pl : List Word) : Option Job := do
  let a ← spanAt? pl 0
  let b ← spanAt? pl 5
  let acc ← flag? (arg pl 11)
  return .dot a b (arg pl 10).toNat acc

def energyJob? (pl : List Word) : Option Job := do
  let a ← spanAt? pl 0
  let acc ← flag? (arg pl 6)
  return .energy a (arg pl 5).toNat acc

def peakJob? (pl : List Word) : Option Job := do
  let a ← spanAt? pl 0
  return .peak a (arg pl 5).toNat

def sweepJob? (pl : List Word) : Option Job := do
  let a ← spanAt? pl 0
  let b ← spanAt? pl 5
  let l ← fin? 256 (arg pl 11)
  return .sweep a b (arg pl 10).toNat l.val

def storeWidth? (w : Word) : Option StoreWidth :=
  if w = 16 then some .w16 else if w = 32 then some .w32 else none

def storeJob? (pl : List Word) : Option Job := do
  let sp ← spanAt? pl 0
  let width ← storeWidth? (arg pl 5)
  let shift ← fin? 48 (arg pl 6)
  let pop ← flag? (arg pl 7)
  match sp with
  | .window nm off stride => return .store nm off stride width shift.val pop
  | .ring .. => none

/-- DOT (R140). -/
def execDot (f : Frame) (s : State) : Host.Outcome State Fault Refusal :=
  finish (command 0x40 (fun p pl => queueJob p (dotJob? pl)) f s)

/-- ENERGY (R140). -/
def execEnergy (f : Frame) (s : State) : Host.Outcome State Fault Refusal :=
  finish (command 0x41 (fun p pl => queueJob p (energyJob? pl)) f s)

/-- PEAK (R141). -/
def execPeak (f : Frame) (s : State) : Host.Outcome State Fault Refusal :=
  finish (command 0x42 (fun p pl => queueJob p (peakJob? pl)) f s)

/-- SWEEP (R142). -/
def execSweep (f : Frame) (s : State) : Host.Outcome State Fault Refusal :=
  finish (command 0x43 (fun p pl => queueJob p (sweepJob? pl)) f s)

/-- PUSH (R143). -/
def execPush (f : Frame) (s : State) : Host.Outcome State Fault Refusal :=
  finish (command 0x44 (fun p pl => queueJob p (some (.push (word32 (arg pl 0) (arg pl 1))))) f s)

/-- DROP (R143). -/
def execDrop (f : Frame) (s : State) : Host.Outcome State Fault Refusal :=
  finish (command 0x45 (fun p _ => queueJob p (some .drop)) f s)

/-- SCALE (R145). -/
def execScale (f : Frame) (s : State) : Host.Outcome State Fault Refusal :=
  finish (command 0x46 (fun p _ => queueJob p (some .scale)) f s)

/-- STORE (R146). -/
def execStore (f : Frame) (s : State) : Host.Outcome State Fault Refusal :=
  finish (command 0x47 (fun p pl => queueJob p (storeJob? pl)) f s)

end Sys2Proof.Machine
end

