-- ==== Sys2Proof/Machine/Contexts.lean ====
section
/-! DEFINITION. Context operations and the immediate context commands (08_port_contexts_and_exceptions). -/

namespace Sys2Proof.Machine

/-- The image length of an operation (R152). -/
def ContextOp.words : ContextOp → Nat
  | .save | .restore => 32
  | .saveEnv | .restoreEnv => 8

/-- Steps 1 to 3 of R152 for an image of n words: the place, or the refusal. -/
def checkPlace (p : Port) (pl : List Word) (n : Nat) (s : State) : Place ⊕ Status :=
  match place? (arg pl 0) (arg pl 1) with
  | none => .inr .badValue
  | some plc =>
    match s.windowOf (plc.name.of p) with
    | none => .inr .noSuch
    | some w => if plc.offset + n > w.length then .inr .access else .inl plc

/-- A queued context command (R152). -/
def queueContext (op : ContextOp) (p : Port) (pl : List Word) (s : State) : State × Answer :=
  match checkPlace p pl op.words s with
  | .inr st => (s, refuse st)
  | .inl plc =>
    if op = .save ∧ (s.port p).ctx.errorPending ∧ (s.port p).jobs.isEmpty then (s, refuse .pending)
    else if Config.jobLimit ≤ (s.port p).jobs.length then (s, refuse .full)
    else appendJob p (.context op plc) s

/-- SAVE (R152, R154). -/
def execSave (f : Frame) (s : State) : Host.Outcome State Fault Refusal := finish (command 0x50 (queueContext .save) f s)

/-- SAVE_ENV (R152, R155). -/
def execSaveEnv (f : Frame) (s : State) : Host.Outcome State Fault Refusal :=
  finish (command 0x52 (queueContext .saveEnv) f s)

/-- RESTORE (R152, R156). -/
def execRestore (f : Frame) (s : State) : Host.Outcome State Fault Refusal :=
  finish (command 0x53 (queueContext .restore) f s)

/-- RESTORE_ENV (R152, R156). -/
def execRestoreEnv (f : Frame) (s : State) : Host.Outcome State Fault Refusal :=
  finish (command 0x54 (queueContext .restoreEnv) f s)

/-! ### The context logic (R153 to R157) -/

/-- The copy a SAVE or SAVE ENV takes when it begins (R154, R155); a restore has read nothing yet. -/
def ContextOp.copy (op : ContextOp) (c : Context) : List Word :=
  match op with
  | .save => c.fullImage
  | .saveEnv => c.environment
  | .restore | .restoreEnv => []

/-- The queued context operation at the head of a port's queue, WAITING with error-pending clear and the logic IDLE. -/
def PortState.contextHead (ps : PortState) : Option (ContextOp × Place) :=
  if ps.ctx.errorPending || ps.ctxRun.isSome then none
  else match ps.jobs with
    | ⟨.context op plc, .waiting⟩ :: _ => some (op, plc)
    | _ => none

/-- The head of a queue with its condition set. -/
def setHead (c : EntryCondition) : List QueueEntry → List QueueEntry
  | [] => []
  | e :: es => { e with condition := c } :: es

/-- CONTEXT_OP_START (R153): the head becomes IN_CONTEXT and the logic BUSY; a save takes its copy. -/
def execContextOpStart (p : Port) (s : State) : Host.Outcome State Fault Refusal :=
  finish (match (s.port p).contextHead with
    | none => s
    | some (op, plc) => s.modPort p fun ps => { ps with
        jobs := setHead .inContext ps.jobs, ctxRun := some ⟨op, plc, op.copy ps.ctx, 0⟩ })

/-- The end effect of an operation on the context, and its result (R154 to R156). -/
def ContextOp.endEffect (op : ContextOp) (c : Context) (image : List Word) : Context × Bool :=
  match op with
  | .save => (.initial, true)
  | .saveEnv => ({ c with masks := 0b11111 }, true)
  | .restore => match c.loadFull image with
    | some c' => (c', true)
    | none => (c, false)
  | .restoreEnv => match c.loadEnvironment image with
    | some c' => (c', true)
    | none => (c, false)

/-- The operation ends after its last word: its end effect, its entry out of the queue, CONTEXT_DONE (R153, R157). -/
def contextEnded (p : Port) (r : ContextRun) (s : State) : State :=
  let e := r.op.endEffect (s.port p).ctx r.image
  let s := s.modPort p fun ps => { ps with ctx := e.1, ctxRun := none }
  (leaveQueue p s).notify p (.contextDone e.2)

/-- One image word: written from the copy, or read into the words of a restore (R153). -/
def ContextRun.transfer (r : ContextRun) (p : Port) (s : State) : ContextRun × State :=
  let off := r.place.offset + r.done
  let id := r.place.name.of p
  match r.op with
  | .save | .saveEnv => ({ r with done := r.done + 1 }, s.writeWord id off (r.image.getD r.done 0))
  | .restore | .restoreEnv =>
    ({ r with done := r.done + 1, image := r.image ++ [(s.readWord id off).getD 0] }, s)

/-- CONTEXT_WORD_TRANSFER (R153): one image word, and the operation's end after the last. -/
def execContextWordTransfer (p : Port) (s : State) : Host.Outcome State Fault Refusal :=
  finish (match (s.port p).ctxRun with
    | none => s
    | some r =>
      let t := r.transfer p s
      if r.op.words ≤ t.1.done then contextEnded p t.1 t.2
      else t.2.modPort p fun ps => { ps with ctxRun := some t.1 })

/-! ### The immediate commands (8.4) -/

/-- The discard of a port's job pass: a RUNNING one leaves the unit DRAINING (R77). -/
def discardPass (p : Port) (e : Engine) : Engine :=
  match e.jobPass with
  | some j =>
    if j.port = p then
      if e.mac = .running .job then { e with mac := .draining, suspendAsked := false, jobPass := none }
      else { e with jobPass := none }
    else e
  | none => e

/-- The head is a job IN_PASS or a context operation IN_CONTEXT. -/
def PortState.headBegun (ps : PortState) : Bool :=
  match ps.jobs with
  | e :: _ => e.condition != .waiting
  | [] => false

/-- Step 1 of R158: the running job is discarded, or the context operation stopped, and its entry leaves the queue. -/
def stopHead (p : Port) (s : State) : State :=
  if (s.port p).headBegun then
    leaveQueue p ({ s with engine := discardPass p s.engine }.modPort p fun ps => { ps with ctxRun := none })
  else s

/-- SAVE NOW (R158). -/
def saveNow (p : Port) (pl : List Word) (s : State) : State × Answer :=
  match checkPlace p pl 32 s with
  | .inr st => (s, refuse st)
  | .inl plc =>
    let s := stopHead p s
    let s := s.writeWords (plc.name.of p) plc.offset (s.port p).ctx.fullImage
    (s.modPort p fun ps => { ps with ctx := .initial }, (.ok, []))

/-- SAVE_NOW (R158). -/
def execSaveNow (f : Frame) (s : State) : Host.Outcome State Fault Refusal := finish (command 0x51 saveNow f s)

/-- CLEAR EXCEPTIONS (R159). -/
def clearExceptions (p : Port) (_ : List Word) (s : State) : State × Answer :=
  (s.modPort p fun ps => { ps with ctx := { ps.ctx with flags := 0, errorPending := false } }, (.ok, []))

/-- CLEAR_EXCEPTIONS (R159). -/
def execClearExceptions (f : Frame) (s : State) : Host.Outcome State Fault Refusal :=
  finish (command 0x55 clearExceptions f s)

/-- SET CONTROL: each bit from the value where the mask selects it (R160). -/
def setControl (p : Port) (pl : List Word) (s : State) : State × Answer :=
  let c := (s.port p).ctx
  match c.withControl ((c.controlWord &&& ~~~(arg pl 1)) ||| (arg pl 0 &&& arg pl 1)) with
  | none => (s, refuse .badValue)
  | some c' => (s.modPort p fun ps => { ps with ctx := c' }, (.ok, [c'.controlWord]))

/-- SET_CONTROL (R160). -/
def execSetControl (f : Frame) (s : State) : Host.Outcome State Fault Refusal := finish (command 0x56 setControl f s)

/-- The condition of the head as READ CONTEXT STATUS gives it (R161). -/
def PortState.headWord (ps : PortState) : Word :=
  match ps.jobs with
  | [] => 0xFFFF
  | e :: _ => match e.condition with
    | .waiting => 0 | .inPass => 1 | .inContext => 2

/-- READ CONTEXT STATUS (R161). -/
def readContextStatus (p : Port) (_ : List Word) (s : State) : State × Answer :=
  let ps := s.port p
  (s, (.ok, [ps.ctx.controlWord, ps.ctx.statusWord, ps.ctx.tagsWord, ps.ctx.lastKind.setWidth 16, ps.ctx.lastWindow,
             ps.ctx.lastOffset, natWord ps.jobs.length, ps.headWord]))

/-- READ_CONTEXT_STATUS (R161). -/
def execReadContextStatus (f : Frame) (s : State) : Host.Outcome State Fault Refusal :=
  finish (command 0x57 readContextStatus f s)

end Sys2Proof.Machine
end

