-- ==== Sys2Proof/Machine/Engine.lean ====
section
/-! DEFINITION. The pass engine: queues, arbiter, pre-emption, and what the other blocks ask of it (04_the_pass_engine). -/

namespace Sys2Proof.Machine

/-! ### Route work at a block event (R64, R65) -/

/-- Expiry at block event k: every WAITING entry with that deadline leaves the queue, and the table takes its expiry. -/
def expireRoutes (k : Block) (s : State) : State :=
  let due (e : RouteEntry) : Bool := !e.running && e.deadline == k
  let gone := s.engine.routes.filter due
  let s := { s with engine := { s.engine with routes := s.engine.routes.filter fun e => !due e } }
  gone.foldl (fun s e => routeExpired e.profile e.block e.bank s) s

/-- A probe or job pass is RUNNING. -/
def UnitState.runsSuspendable : UnitState → Bool
  | .running .probe | .running .job => true
  | .free | .running .route | .draining => false

/-- The route entry of block k, appended to the queue; a RUNNING probe or job pass is asked to suspend (R65, R80). -/
def queueRoute (k : Block) (n : ProfileId) (s : State) : State :=
  let e : RouteEntry := ⟨n, k, (s.profile n).bankFor k, k + 2, false, .start (Vector.replicate 5 0), []⟩
  let s := s.modProfile n fun p => p.queueBlock k
  { s with engine := { s.engine with
      routes := s.engine.routes ++ [e]
      suspendAsked := s.engine.suspendAsked || s.engine.mac.runsSuspendable } }

/-- The queuing stage of block event k for one profile (R65), when the slot map has taken the event for the slots `taken` (R51). -/
def queueActive (k : Block) (taken : List SlotId) (s : State) (n : ProfileId) : State :=
  if (s.profile n).state = .bound ∧ s.profileActive taken n then queueRoute k n s else s

/-- The engine's next turn at block event k, `done` of them being past: its expiry (R64), then its question for the profiles in
number order (R65). -/
def engineTurn (k : Block) (taken : List SlotId) (done : Nat) (s : State) : State :=
  if done = 0 then expireRoutes k s else
  match allProfiles[done - 1]? with
  | some n => queueActive k taken s n
  | none => s

/-- Every turn of the engine that is left at block event k. -/
def engineRest (k : Block) (taken : List SlotId) (done : Nat) (s : State) : State :=
  (allProfiles.drop (done - 1)).foldl (queueActive k taken) (if done = 0 then expireRoutes k s else s)

/-- Clock return: every WAITING route entry is removed and its bank reference dropped (R83, R42). -/
def removeRoutes (s : State) : State :=
  let gone := s.engine.routes.filter fun e => !e.running
  let s := { s with engine := { s.engine with routes := s.engine.routes.filter fun e => e.running } }
  gone.foldl (fun s e => dropReference e.profile e.bank s) s

/-! ### Probe work asked for by the controller (R69 to R71) -/

/-- The probe of profile n, if one is queued or running. -/
def Engine.probeOf (e : Engine) (n : ProfileId) : Option ProbeEntry := e.probes.find? fun x => x.profile == n

/-- Appends a probe and sets the profile's probe reference (R69). -/
def queueProbe (e : ProbeEntry) (s : State) : State :=
  { s with engine := { s.engine with probes := s.engine.probes ++ [e] } }.modProfile e.profile fun p =>
    { p with probeRef := true }

/-- The unit after the running probe, if it is this one, is thrown away: DRAINING, the suspension void (R70, R71). -/
def Engine.dropRunningProbe (e : Engine) (n : ProfileId) : Engine :=
  match e.probeOf n with
  | some x => if x.condition = .running then { e with mac := .draining, suspendAsked := false } else e
  | none => e

/-- Restarts the probe of profile n in a new window (R70). -/
def restartProbe (n : ProfileId) (w : ProbeWindow) (s : State) : State :=
  let e := s.engine.dropRunningProbe n
  let again (x : ProbeEntry) : ProbeEntry := { x.reset with window := w, condition := .waiting }
  { s with engine := { e with probes := updateFirst (fun x => x.profile == n) again e.probes } }

/-- Withdraws the probe of profile n, if any (R71). -/
def withdrawProbe (n : ProfileId) (s : State) : State :=
  match s.engine.probeOf n with
  | none => s
  | some _ =>
    let e := s.engine.dropRunningProbe n
    freeTest n ({ s with engine := { e with probes := e.probes.filter fun x => x.profile != n } }.modProfile n fun p =>
      { p with probeRef := false })

/-! ### The arbiter (R78, R79) -/

/-- Starts the oldest WAITING route entry (R66). -/
def startRoute (s : State) : State :=
  { s with engine := { s.engine with
      mac := .running .route
      routes := updateFirst (fun e => !e.running) (fun e => e.start s) s.engine.routes } }

/-- The probe class has runnable work: its head. -/
def Engine.probeRunnable (e : Engine) : Bool := !e.probes.isEmpty

/-- Starts or resumes the head of the probe queue; the turn passes to the jobs (R79). -/
def startProbe (s : State) : State :=
  { s with engine := { s.engine with
      mac := .running .probe, turn := .job
      probes := match s.engine.probes with
        | [] => []
        | e :: es => { e with condition := .running }.beginStep s :: es } }

/-- The job at a port's head, when it is runnable (R74). -/
def PortState.runnableJob (ps : PortState) : Option Job :=
  if ps.ctx.errorPending then none
  else match ps.jobs with
    | ⟨.job j, .waiting⟩ :: _ => some j
    | _ => none

/-- The first port with a runnable head, in cyclic order from the pointer (R79). -/
def State.nextJob (s : State) : Option (Port × Job) :=
  allPorts.findSome? fun i =>
    let p := s.engine.pointer + i
    (s.port p).runnableJob.map fun j => (p, j)

/-- What the job class would serve next: the suspended pass before every port's head (R78). -/
inductive JobChoice where
  | resume (j : JobPass)
  | start (p : Port) (job : Job)

def State.jobChoice (s : State) : Option JobChoice :=
  match s.engine.jobPass with
  | some j => if (s.port j.port).ctx.errorPending then none else some (.resume j)
  | none => s.nextJob.map fun pj => .start pj.1 pj.2

/-- Serves the job class; the turn passes to the probes and the pointer to the next port (R79).
A job with no steps ends at once (R75). -/
def startJob (c : JobChoice) (s : State) : State :=
  match c with
  | .resume j =>
    { s with engine := { s.engine with
        mac := .running .job, turn := .probe, pointer := j.port + 1
        jobPass := some ({ j with suspended := false }.beginStep s) } }
  | .start p job =>
    let s := s.modPort p fun ps => { ps with jobs := setHead .inPass ps.jobs }
    let s := { s with engine := { s.engine with turn := .probe, pointer := p + 1 } }
    if job.steps = 0 then jobEnded (.start p job) s
    else { s with engine := { s.engine with
        mac := .running .job, jobPass := some ((JobPass.start p job).beginStep s) } }

/-- Serves the probe class, when it has work. -/
def serveProbe (s : State) : Option State := if s.engine.probeRunnable then some (startProbe s) else none
/-- Serves the job class, when it has work. -/
def serveJob (s : State) : Option State := s.jobChoice.map fun c => startJob c s

/-- The arbiter's choice when the unit is FREE (R78). -/
def arbitrate (s : State) : State :=
  if s.engine.routes.any fun e => !e.running then startRoute s
  else match s.engine.turn with
    | .probe => ((serveProbe s).or (serveJob s)).getD s
    | .job => ((serveJob s).or (serveProbe s)).getD s

/-- ARBITER_START (R78): a decision is taken only when the unit is FREE. -/
def execArbiterStart (s : State) : Host.Outcome State Fault Refusal :=
  finish (if s.engine.mac = .free then arbitrate s else s)

/-! ### Step ends (R61, R80) -/

def RouteEntry.isRunning (e : RouteEntry) : Bool := e.running
def ProbeEntry.isRunning (e : ProbeEntry) : Bool := e.condition == .running

/-- The running route entry, running probe entry and running job pass. -/
def Engine.runningRoute (e : Engine) : Option RouteEntry := e.routes.find? RouteEntry.isRunning
def Engine.runningProbe (e : Engine) : Option ProbeEntry := e.probes.find? ProbeEntry.isRunning

/-- The step in hand is the running pass's last, after which the pass completes. -/
def State.atLastStep (s : State) : Bool :=
  match s.engine.mac with
  | .free | .draining => false
  | .running .route => match s.engine.runningRoute with
    | some e => e.isLast s
    | none => true
  | .running .probe => match s.engine.runningProbe with
    | some e => e.isLast
    | none => true
  | .running .job => match s.engine.jobPass with
    | some j => j.isLast
    | none => true

/-- Applies f to the running pass of a class. -/
def Engine.mapRunning (e : Engine) (cls : PassClass) (onRoute : RouteEntry → RouteEntry) (onProbe : ProbeEntry → ProbeEntry)
    (onJob : JobPass → JobPass) : Engine :=
  match cls with
  | .route => { e with routes := updateFirst RouteEntry.isRunning onRoute e.routes }
  | .probe => { e with probes := updateFirst ProbeEntry.isRunning onProbe e.probes }
  | .job => { e with jobPass := e.jobPass.map onJob }

/-- The step in hand ends and the next begins, reading its operands. -/
def nextStep (cls : PassClass) (s : State) : State :=
  let e := s.engine.mapRunning cls (fun e => (e.endStep s).beginStep s) (fun e => (e.endStep s).beginStep s)
    (fun j => j.endStep.beginStep s)
  { s with engine := e }

/-- MAC_STEP_END (R61): the running pass goes on to its next step, unless that step was its last or a suspension was
asked for, when the boundary is another row's. -/
def execMacStepEnd (s : State) : Host.Outcome State Fault Refusal :=
  finish (match s.engine.mac with
    | .running cls => if s.atLastStep || s.engine.suspendAsked then s else nextStep cls s
    | .free | .draining => s)

/-- The step in hand ends and the pass keeps its progress, SUSPENDED; the unit is FREE (R80). -/
def suspend (cls : PassClass) (s : State) : State :=
  let e := s.engine.mapRunning cls id (fun e => { e.endStep s with condition := .suspended })
    (fun j => { j.endStep with suspended := true })
  { s with engine := { e with mac := .free, suspendAsked := false } }

/-- PASS_SUSPENDED (R80): at the boundary after a suspension request, unless the pass completes there. -/
def execPassSuspended (s : State) : Host.Outcome State Fault Refusal :=
  finish (match s.engine.mac with
    | .running .probe => if s.atLastStep || !s.engine.suspendAsked then s else suspend .probe s
    | .running .job => if s.atLastStep || !s.engine.suspendAsked then s else suspend .job s
    | .running .route | .free | .draining => s)

/-- STEP_DRAINED (R60). -/
def execStepDrained (s : State) : Host.Outcome State Fault Refusal :=
  finish (if s.engine.mac = .draining then { s with engine := { s.engine with mac := .free } } else s)

/-- ROUTE_PASS_COMPLETE (R67, R40): the last step of the running route pass ends. -/
def execRoutePassComplete (s : State) : Host.Outcome State Fault Refusal :=
  finish (match s.engine.mac, s.engine.runningRoute with
    | .running .route, some e =>
      if e.isLast s then
        let d := e.endStep s
        routeCompleted d.profile d.block d.bank d.outputs d.progress.saturated d.progress.wrapped
          { s with engine := { s.engine with
              mac := .free, routes := s.engine.routes.eraseP RouteEntry.isRunning } }
      else s
    | _, _ => s)

end Sys2Proof.Machine
end

