-- ==== Sys2Proof/Machine/Adapt.lean ====
section
/-! DEFINITION. The adaptation controller: probes, searches, tracking, and how an adaptation ends (05_adaptation). -/

namespace Sys2Proof.Machine

/-! ### The next trial (R92, R97, R99, R105) -/

def State.modSearch (s : State) (n : ProfileId) (f : SearchPosition → SearchPosition) : State :=
  s.modProfile n fun p => { p with search := f p.search }

/-- The trial set of the evaluation in hand. -/
def Profile.trialSet (p : Profile) : CoeffSet :=
  let q := p.search
  match p.adapt with
  | .searchShape | .searchReshape => { p.candidate with emphasis := Fin.ofNat 16 q.trial.val }
  | .searchTrim => { p.candidate with weights := vset p.candidate.weights q.tap q.trial }
  | .tracking =>
    if q.currentFom = none then p.candidate
    else { p.candidate with weights := vset q.roundWeights q.tap q.trial }
  | .idle | .committing => p.candidate

/-- The selection kind of the evaluation in hand (R92). -/
def Profile.selectionKind (p : Profile) : SelectionKind :=
  match p.adapt with
  | .searchShape | .searchReshape => .shaping
  | .searchTrim | .tracking | .idle | .committing => .trim

/-- An evaluation waits for its probe (R92). -/
def Profile.wantsProbe (p : Profile) : Bool :=
  !p.probeRef && match p.adapt with
    | .searchShape | .searchTrim | .searchReshape => true
    | .tracking => p.search.phase == .round
    | .idle | .committing => false

/-- c of R92: the blocks a probe of W samples over T taps needs. -/
def probeBlocks (w : ProbeLength) (taps : Nat) : Nat := (w.samples + max taps 1 + 31) / 32

/-- The window of a probe that ends at block b (R92). -/
def Profile.windowAt (p : Profile) (b : Block) : ProbeWindow :=
  ⟨b, b - BitVec.ofNat 32 (probeBlocks p.config.probeLength p.trialSet.tapCount.val) + 1⟩

/-- The target reference a probe carries, a private window settled to the leader's (R90). -/
def Profile.probeTarget (p : Profile) : ProbeTarget :=
  match p.config.target with
  | .generator lag => .generator lag
  | .window (.shared k) off => .window (some (.shared k)) off
  | .window (.priv k) off => .window (p.leader.map fun q => .priv q k) off

/-- The probe of the evaluation in hand (R69). -/
def Profile.probeEntry (p : Profile) (n : ProfileId) (w : ProbeWindow) : ProbeEntry :=
  ⟨n, p.trialSet, p.selectionKind, p.config.probeLength, w, p.probeTarget, .waiting,
   .start (Vector.replicate 5 0), 0, 0, 0⟩

/-! ### Ends of an adaptation (R101, R103, R108) -/

/-- A search or round ends without a commit: the probe is withdrawn, the candidate becomes the live set, the state IDLE with
that outcome, and ADAPT_DONE goes to the leader, if any, and the followers (R103, R108, R110). -/
def endAdaptation (n : ProfileId) (o : Outcome) (s : State) : State :=
  let s := (withdrawProbe n s).modProfile n fun p => { p with
    candidate := p.liveSet, lastOutcome := o, adapt := .idle
    search := { p.search with phase := .none, window := none } }
  s.notifyMembers n (.adaptDone n)

/-- Success: COMMITTING, and a commit of the candidate is started (R101). -/
def succeed (n : ProfileId) (origin : CommitOrigin) (s : State) : State :=
  startCommit n (s.modProfile n fun p => { p with
    adapt := .committing, search := { p.search with origin := origin, continueAfter := true } })

/-- The target is the generator. -/
def Target.isGenerator : Target → Bool
  | .generator _ => true
  | .window _ _ => false

/-- The attempt to queue the probe of the evaluation in hand (R92): it ends NO_TARGET when its target is the generator and that is
not RUNNING, even while history or the clock does not allow a probe (R91, R171; log 21), and waits when those do not. -/
def tryQueue (n : ProfileId) (s : State) : State :=
  let p := s.profile n
  let w := p.windowAt s.lane.blockCounter
  if !p.wantsProbe then s
  else if p.config.target.isGenerator && !s.gen.running then endAdaptation n .noTarget s
  else if s.clockPresent && atOrAfter w.oldest s.lane.validFrom s.lane.blockCounter then
    (queueProbe (p.probeEntry n w) s).modSearch n fun q => { q with window := some w }
  else s

/-! ### Shaping (R97, R98) -/

/-- Enters a trim search pass at tap 1 (R98, R100). -/
def SearchPosition.trimFrom (q : SearchPosition) (second : Bool) : SearchPosition :=
  { q with phase := .trim, secondPass := second, tap := 0, trial := 0, bestFom := none, run := 0 }

/-- Shaping ends with a chosen s and its FoM (R98). -/
def endShaping (n : ProfileId) (chosen : Fin 32) (fom : Int) (s : State) : State :=
  let p := s.profile n
  let s := s.modProfile n fun p => { p with candidate := { p.candidate with emphasis := Fin.ofNat 16 chosen.val } }
  if p.adapt = .searchReshape then succeed n .search s
  else if p.config.mode = 1 then
    if p.config.acceptance ≤ fom then succeed n .search s else endAdaptation n .lowMerit s
  else
    tryQueue n (s.modProfile n fun p => { p with adapt := .searchTrim, search := p.search.trimFrom false })

/-- A FoM beats the best so far: an equal one does not. -/
def beats (fom : Int) : Option Int → Bool
  | none => true
  | some b => decide (b < fom)

/-- A shaping trial's FoM (R97). -/
def applyShaping (n : ProfileId) (fom : Int) (s : State) : State :=
  let p := s.profile n
  let q := p.search
  let better := beats fom q.bestFom
  let best := if better then fom else q.bestFom.getD fom
  let bestTrial := if better then q.trial else q.bestTrial
  let s := s.modSearch n fun q => { q with bestFom := some best, bestTrial := bestTrial }
  if p.adapt = .searchShape ∧ p.config.mode = 3 ∧ p.config.shapingMinimum ≤ fom then endShaping n q.trial fom s
  else if q.trial.val < 15 then tryQueue n (s.modSearch n fun q => { q with trial := q.trial + 1 })
  else endShaping n bestTrial best s

/-! ### Trim search (R99, R100) -/

/-- Tap 5 has ended with its best FoM (R100). -/
def endTrimPass (n : ProfileId) (best : Int) (s : State) : State :=
  let p := s.profile n
  if p.config.acceptance ≤ best then
    if p.config.mode = 3 then
      tryQueue n (s.modProfile n fun p => { p with
        adapt := .searchReshape, search := { p.search with phase := .reshape, trial := 0, bestFom := none } })
    else succeed n .search s
  else if p.search.secondPass then endAdaptation n .lowMerit s
  else
    tryQueue n (s.modProfile n fun p => { p with
      candidate := { p.candidate with
        weights := Vector.replicate 5 0, polarities := vmap (fun b => !b) p.candidate.polarities }
      search := p.search.trimFrom true })

/-- A trim trial's FoM (R99). -/
def applyTrim (n : ProfileId) (fom : Int) (s : State) : State :=
  let p := s.profile n
  let q := p.search
  let better := beats fom q.bestFom
  let best := if better then fom else q.bestFom.getD fom
  let bestTrial := if better then q.trial else q.bestTrial
  let run : Fin 3 := if better || fom == best then 0 else q.run + 1
  let s := s.modSearch n fun q => { q with bestFom := some best, bestTrial := bestTrial, run := run }
  if run = 2 ∨ q.trial = p.config.trimCeiling then
    let s := s.modProfile n fun p => { p with
      candidate := { p.candidate with weights := vset p.candidate.weights q.tap bestTrial } }
    if q.tap.val < 4 then
      tryQueue n (s.modSearch n fun q => { q with tap := q.tap + 1, trial := 0, bestFom := none, run := 0 })
    else endTrimPass n best s
  else tryQueue n (s.modSearch n fun q => { q with trial := q.trial + 1 })

/-! ### Tracking rounds (R104 to R106) -/

/-- The range of tap j of a round, lowest and highest weight (R105). -/
def Profile.tapRange (p : Profile) (j : Fin 5) : Nat × Nat :=
  let w := (p.candidate.weights.get j).val
  let b := (p.search.basePoint.get j).val
  (max (w - p.config.lookAhead.val) (b - p.config.allowableChange.val),
   min (min (w + p.config.lookAhead.val) (b + p.config.allowableChange.val)) p.config.trimCeiling.val)

/-- The search position at the next tap with a non-empty range, `left` taps being left; none when all are dealt with. -/
def Profile.nextTap (p : Profile) : Nat → Option SearchPosition
  | 0 => none
  | left + 1 =>
    let j := Fin.ofNat 5 (4 - left)
    let r := p.tapRange j
    if r.1 ≤ r.2 then
      some { p.search with tap := j, trial := Fin.ofNat 32 r.1, bestFom := none, rangeTop := Fin.ofNat 32 r.2 }
    else p.nextTap left

/-- The round's weights differ from the candidate's and gained at least the hysteresis (R106). -/
def Profile.roundCommits (p : Profile) : Bool :=
  match p.search.lastFom, p.search.currentFom with
  | some l, some c => p.search.roundWeights != p.candidate.weights && decide ((p.config.hysteresis.val : Int) ≤ l - c)
  | _, _ => false

/-- The decision at the end of a round (R106, R107). -/
def decideRound (n : ProfileId) (s : State) : State :=
  let p := s.profile n
  if p.roundCommits then
    succeed n .round (s.modProfile n fun p => { p with
      candidate := { p.candidate with weights := p.search.roundWeights } })
  else s.modProfile n fun p => { p with
    adapt := if p.config.continuous then .tracking else .idle
    search := { p.search with phase := .none, countdown := p.config.trackInterval } }

/-- The round goes on at the next tap, `left` taps being left, or decides. -/
def advanceRound (n : ProfileId) (left : Nat) (s : State) : State :=
  match (s.profile n).nextTap left with
  | some q => tryQueue n (s.modSearch n fun _ => q)
  | none => decideRound n s

/-- A round trial's FoM (R105): the current set's first; then, of equal FoMs, the candidate's own weight before the lowest. -/
def applyRound (n : ProfileId) (fom : Int) (s : State) : State :=
  let p := s.profile n
  let q := p.search
  match q.currentFom with
  | none => advanceRound n 5 (s.modSearch n fun q => { q with currentFom := some fom })
  | some _ =>
    let own := p.candidate.weights.get q.tap
    let better := beats fom q.bestFom || (q.bestFom == some fom && q.trial == own)
    let best := if better then fom else q.bestFom.getD fom
    let bestTrial := if better then q.trial else q.bestTrial
    let s := s.modSearch n fun q => { q with bestFom := some best, bestTrial := bestTrial }
    if q.trial.val < q.rangeTop.val then tryQueue n (s.modSearch n fun q => { q with trial := q.trial + 1 })
    else
      advanceRound n (4 - q.tap.val) (s.modSearch n fun q => { q with
        roundWeights := vset q.roundWeights q.tap bestTrial, lastFom := some best })

/-! ### A probe's completion (R73, R93) -/

/-- The FoM of a completed probe (R73, R88, R89). -/
def Profile.fomOf (p : Profile) (e : ProbeEntry) : Int :=
  let sel := match e.selection with
    | .shaping => p.config.shapingFom
    | .trim => p.config.trimFom
  figureOfMerit p.config sel (residualScore e.sumTarget e.sumError) (headroomScore e.peak e.progress.saturated)
    e.progress.wrapped

/-- The FoM goes to the evaluation in progress (R93). -/
def applyFom (n : ProfileId) (fom : Int) (s : State) : State :=
  match (s.profile n).adapt with
  | .searchShape | .searchReshape => applyShaping n fom s
  | .searchTrim => applyTrim n fom s
  | .tracking => applyRound n fom s
  | .idle | .committing => s

/-- The controller takes the scores of a completed probe (R93): after a clock return they are discarded. -/
def probeScored (n : ProfileId) (fom : Int) (s : State) : State :=
  let stale := match (s.profile n).search.window with
    | some w => !atOrAfter w.oldest s.lane.validFrom s.lane.blockCounter
    | none => false
  let s := s.modProfile n fun p => { p with restartRun := 0, search := { p.search with window := none } }
  if stale then tryQueue n s
  else applyFom n fom (s.modProfile n fun p => { p with probesRun := satInc p.probesRun })

/-- PROBE_PASS_COMPLETE (R73, R93): the last step of the running probe ends. -/
def execProbePassComplete (s : State) : Host.Outcome State Fault Refusal :=
  finish (match s.engine.mac, s.engine.runningProbe with
    | .running .probe, some e =>
      if e.isLast then
        let d := e.endStep s
        let fom := (s.profile d.profile).fomOf d
        let s := { s with engine := { s.engine with
          mac := .free, suspendAsked := false, probes := s.engine.probes.eraseP ProbeEntry.isRunning } }
        let s := freeTest d.profile (s.modProfile d.profile fun p => { p with probeRef := false })
        probeScored d.profile fom s
      else s
    | _, _ => s)

/-! ### Block events, flips and clock return (R94, R95, R102, R104) -/

/-- The probe is restarted in a window that ends at block b, or the adaptation ends STARVED at the eighth run (R94, R95). -/
def overrun (n : ProfileId) (b : Block) (s : State) : State :=
  let p := s.profile n
  let s := s.modProfile n fun p => { p with restartRun := p.restartRun + 1 }
  if p.restartRun + 1 < Config.restartLimit then
    restartProbe n (p.windowAt b) (s.modSearch n fun q => { q with window := some (p.windowAt b) })
  else endAdaptation n .starved s

/-- A tracking round starts (R104). -/
def startRound (n : ProfileId) (s : State) : State :=
  tryQueue n (s.modProfile n fun p => { p with search := { p.search with
    phase := .round, countdown := 0, roundWeights := p.candidate.weights, currentFom := none, lastFom := none, tap := 0 } })

/-- The profile counts down to its next tracking round (R104). -/
def Profile.countsDown (p : Profile) : Bool := p.adapt == .tracking && p.search.phase != .round

/-- The controller has something to do for this profile at a block event. -/
def Profile.controllerDue (p : Profile) : Bool := p.probeRef || p.wantsProbe || p.countsDown

/-- What the controller does for profile n at block event k. A countdown that a flip of the same event has loaded is held
(R102). -/
def controllerEvent (k : Block) (flipped : List ProfileId) (s : State) (n : ProfileId) : State :=
  let p := s.profile n
  if p.probeRef then
    match p.search.window with
    | some w => if k = w.oldest + 8 then overrun n k s else s
    | none => s
  else if p.wantsProbe then tryQueue n s
  else if p.countsDown && !flipped.contains n then
    if p.search.countdown.val ≤ 1 then startRound n s
    else s.modSearch n fun q => { q with countdown := q.countdown - 1 }
  else s

/-- The profiles the controller treats at a block event, in an order the manual leaves open (log 7). -/
def State.controllerOrder (s : State) : List ProfileId :=
  (allProfiles.filter fun n => (s.profile n).controllerDue).insertionSort fun a b =>
    Config.profileKey s.choices a ≤ Config.profileKey s.choices b

/-- The controller takes block event k for the profiles it has not treated yet. -/
def controllerBlockEvent (k : Block) (treated flipped : List ProfileId) (s : State) : State :=
  let order := s.controllerOrder.filter fun n => !treated.contains n
  order.foldl (controllerEvent k flipped) { s with choices := s.choices + 1 }

/-- The controller takes the flip of a COMMITTING profile (R102). -/
def adaptFlip (n : ProfileId) (s : State) : State :=
  let p := s.profile n
  let s := match p.search.origin with
    | .search => (s.modProfile n fun p => { p with
        lastOutcome := .done, search := { p.search with basePoint := p.liveSet.weights } }).notifyMembers n (.adaptDone n)
    | .round => s
  if p.search.continueAfter ∧ p.config.continuous ∧ (p.config.mode = 2 ∨ p.config.mode = 3) then
    s.modProfile n fun p => { p with
      adapt := .tracking, search := { p.search with phase := .none, countdown := p.config.trackInterval } }
  else s.modProfile n fun p => { p with adapt := .idle }

/-- A commit flips at block event k (R34). -/
def Profile.flipsAt (p : Profile) (k : Block) : Bool :=
  p.state == .bound && p.stage == .waitingFlip && p.flipEvent == some k

/-- The bank flip of a profile, if it is due at block event k (R34, R102). -/
def bankFlip (k : Block) (s : State) (n : ProfileId) : State :=
  if (s.profile n).flipsAt k then
    let s := (s.modProfile n fun p => { p with
      live := p.spare, generation := p.generation + 1, stage := .none, flipEvent := none }).notifyMembers n (.committed n)
    if (s.profile n).adapt = .committing then adaptFlip n s else s
  else s

/-- Every bank flip of block event k. -/
def bankFlips (k : Block) (s : State) : State := allProfiles.foldl (bankFlip k) s

/-- The controller takes the clock return: every probe queued or running is restarted or starved (R95). -/
def controllerClockReturn (s : State) : State :=
  allProfiles.foldl (fun s n => if (s.profile n).probeRef then overrun n s.lane.blockCounter s else s) s

/-- Loss of leader (R110). -/
def lossOfLeader (n : ProfileId) (s : State) : State :=
  match (s.profile n).adapt with
  | .searchShape | .searchTrim | .searchReshape | .tracking => endAdaptation n .aborted s
  | .committing => s.modSearch n fun q => { q with continueAfter := false }
  | .idle => s

/-- DELETE ends any adaptation (R111). -/
def endForDelete (n : ProfileId) (s : State) : State :=
  if (s.profile n).adapt = .idle then s
  else (withdrawProbe n s).modProfile n fun p => { p with
    lastOutcome := .aborted, adapt := .idle, search := { p.search with phase := .none, window := none } }

/-! ### Commands on a profile -/

/-- A profile command that any port may send: the number, then the BOUND profile (2.2, R22). -/
def boundCommand (pl : List Word) (s : State) (k : ProfileId → State × Answer) : State × Answer :=
  match fin? 32 (arg pl 0) with
  | none => (s, refuse .badValue)
  | some n => if (s.profile n).state = .bound then k n else (s, refuse .noSuch)

/-- A leader-only profile command (R22). -/
def leaderCommand (p : Port) (pl : List Word) (s : State) (k : ProfileId → State × Answer) : State × Answer :=
  boundCommand pl s fun n => if (s.profile n).leader = some p then k n else (s, refuse .notLeader)

/-- The target of a configuration is there for a search led by port p (R96, step 4). -/
def State.targetReady (s : State) (p : Port) (c : AdaptConfig) : Bool :=
  match c.target with
  | .generator _ => s.gen.running
  | .window nm off => match s.windowOf (nm.of p) with
    | none => false
    | some w => decide (off.val + c.probeLength.samples ≤ w.length)

/-- The record at the start of a search (R96). -/
def Profile.startSearch (p : Profile) : Profile :=
  let live := p.liveSet
  { p with
    restartRun := 0, probesRun := 0, lastOutcome := .none, adapt := .searchShape
    candidate := if p.config.mode = 1 then live
      else { live with weights := Vector.replicate 5 0, polarities := p.config.startPolarities }
    search := { p.search with
      phase := .shape, trial := 0, bestFom := none, run := 0, secondPass := false, tap := 0, continueAfter := false } }

/-- ADAPT (R96). -/
def adapt (p : Port) (pl : List Word) (s : State) : State × Answer :=
  leaderCommand p pl s fun n =>
    let r := s.profile n
    if r.config.mode = 0 ∨ r.adapt ≠ .idle then (s, refuse .wrongState)
    else if r.stage ≠ .none then (s, refuse .busy)
    else if !s.clockPresent then (s, refuse .noClock)
    else if !s.targetReady p r.config then (s, refuse .noTarget)
    else (tryQueue n (s.modProfile n Profile.startSearch), (.accepted, []))

/-- ADAPT (R96). -/
def execAdapt (f : Frame) (s : State) : Host.Outcome State Fault Refusal := finish (command 0x1A adapt f s)

/-- ABORT ADAPT (R108). -/
def abortAdapt (p : Port) (pl : List Word) (s : State) : State × Answer :=
  leaderCommand p pl s fun n =>
    match (s.profile n).adapt with
    | .searchShape | .searchTrim | .searchReshape | .tracking => (endAdaptation n .aborted s, (.ok, []))
    | .committing => (s, refuse .busy)
    | .idle => (s, (.ok, []))

/-- ABORT_ADAPT (R108). -/
def execAbortAdapt (f : Frame) (s : State) : Host.Outcome State Fault Refusal := finish (command 0x1B abortAdapt f s)

/-- FREEZE (R109). -/
def freeze (p : Port) (pl : List Word) (s : State) : State × Answer :=
  leaderCommand p pl s fun n =>
    if (s.profile n).adapt = .tracking then
      ((withdrawProbe n s).modProfile n fun r => { r with
        adapt := .idle, search := { r.search with phase := .none, window := none } }, (.ok, []))
    else (s, refuse .wrongState)

/-- FREEZE (R109). -/
def execFreeze (f : Frame) (s : State) : Host.Outcome State Fault Refusal := finish (command 0x1C freeze f s)

end Sys2Proof.Machine
end

