-- ==== Sys2Proof/Machine/Profiles.lean ====
section
/-! DEFINITION. The consoles' profile commands (02_the_profile_table). -/

namespace Sys2Proof.Machine

/-! ### Lifecycle (R19, R20) -/

/-- The lowest-numbered FREE record. -/
def State.freeProfile (s : State) : Option ProfileId := allProfiles.find? fun n => (s.profile n).state == .free

/-- CREATE (R19). -/
def create (p : Port) (pl : List Word) (s : State) : State × Answer :=
  match fin? 16 (arg pl 0) with
  | none => (s, refuse .badValue)
  | some c =>
    match s.freeProfile with
    | none => (s, refuse .full)
    | some n =>
      (s.modProfile n fun r => { r with state := .bound, channel := c, leader := some p, followers := 0 },
       (.ok, [finWord n]))

/-- CREATE (R19). -/
def execCreate (f : Frame) (s : State) : Host.Outcome State Fault Refusal := finish (command 0x10 create f s)

/-- Steps 2, 3 and 5 of R20 on the record. -/
def Profile.retire (r : Profile) : Profile :=
  { r with
    stage := .none, flipEvent := none, deletingPort := r.leader, leader := none, followers := 0, state := .retiring }

/-- The effect of a DELETE that is taken: the five steps of R20, then the test of R21. -/
def deleteProfile (n : ProfileId) (s : State) : State :=
  let s := endForDelete n s
  freeTest n ((s.notifySet (s.profile n).followers (.profileGone n)).modProfile n Profile.retire)

/-- DELETE (R20). -/
def delete (p : Port) (pl : List Word) (s : State) : State × Answer :=
  leaderCommand p pl s fun n =>
    if s.profileInUse n then (s, refuse .inUse) else (deleteProfile n s, (.accepted, []))

/-- DELETE (R20). -/
def execDelete (f : Frame) (s : State) : Host.Outcome State Fault Refusal := finish (command 0x11 delete f s)

/-! ### Leader and followers (R23 to R25) -/

/-- LEAD (R23). -/
def lead (p : Port) (pl : List Word) (s : State) : State × Answer :=
  boundCommand pl s fun n =>
    match (s.profile n).leader with
    | none =>
      (s.modProfile n fun r => { r with leader := some p, followers := eraseBit r.followers p.val }, (.ok, []))
    | some q => (s, if q = p then (.ok, []) else refuse .held)

/-- LEAD (R23). -/
def execLead (f : Frame) (s : State) : Host.Outcome State Fault Refusal := finish (command 0x12 lead f s)

/-- RELEASE (R24). -/
def release (p : Port) (pl : List Word) (s : State) : State × Answer :=
  leaderCommand p pl s fun n =>
    let r := s.profile n
    if r.adapt ≠ .idle then (s, refuse .adapting)
    else if r.stage ≠ .none then (s, refuse .busy)
    else ((s.notifySet r.followers (.leaderless n)).modProfile n fun r => { r with
            leader := none, followers := insertBit r.followers p.val }, (.ok, []))

/-- RELEASE (R24). -/
def execRelease (f : Frame) (s : State) : Host.Outcome State Fault Refusal := finish (command 0x13 release f s)

/-- FOLLOW (R25). -/
def follow (p : Port) (pl : List Word) (s : State) : State × Answer :=
  boundCommand pl s fun n =>
    if (s.profile n).leader = some p then (s, (.ok, []))
    else (s.modProfile n fun r => { r with followers := insertBit r.followers p.val }, (.ok, []))

/-- FOLLOW (R25). -/
def execFollow (f : Frame) (s : State) : Host.Outcome State Fault Refusal := finish (command 0x14 follow f s)

/-- UNFOLLOW (R25). -/
def unfollow (p : Port) (pl : List Word) (s : State) : State × Answer :=
  boundCommand pl s fun n =>
    if !(s.profile n).followers.getLsbD p.val then (s, (.ok, []))
    else if s.portUses p n then (s, refuse .inUse)
    else (s.modProfile n fun r => { r with followers := eraseBit r.followers p.val }, (.ok, []))

/-- UNFOLLOW (R25). -/
def execUnfollow (f : Frame) (s : State) : Host.Outcome State Fault Refusal := finish (command 0x15 unfollow f s)

/-! ### Reading (R44) -/

/-- A part of READ PROFILE by its code and tap start index; none is a code or a start index out of range. -/
def profilePart (r : Profile) (part start : Word) : Option (List Word) :=
  let set (c : CoeffSet) (generation : List Word) : Option (List Word) :=
    if start.toNat ≤ 63 then some (setHeadWords c ++ generation ++ setTapWords c start.toNat) else none
  match part.toNat with
  | 0 => some (summaryWords r)
  | 1 => some (configWords r.config)
  | 2 => set r.liveSet (words32 (r.bank r.live).generation)
  | 3 => set (r.bank r.spare).set (words32 (r.bank r.spare).generation)
  | 4 => set r.candidate []
  | _ => none

/-- READ PROFILE, on a profile in any state (R44). -/
def readProfile (_ : Port) (pl : List Word) (s : State) : State × Answer :=
  match fin? 32 (arg pl 0) with
  | none => (s, refuse .badValue)
  | some n =>
    match profilePart (s.profile n) (arg pl 1) (arg pl 2) with
    | none => (s, refuse .badValue)
    | some ws => (s, (.ok, ws))

/-- READ_PROFILE (R44). -/
def execReadProfile (f : Frame) (s : State) : Host.Outcome State Fault Refusal := finish (command 0x16 readProfile f s)

/-! ### Candidate and commit (R30, R33) -/

/-- The candidate with the listed fields of a payload set; none when a check fails (R30). -/
def candidateOf (pl : List Word) (c : CoeffSet) : Option CoeffSet :=
  applyFields setField (cutFields setFieldSize (selected 6 (arg pl 1).toNat) (pl.drop 2)) c

/-- WRITE CANDIDATE (R30). -/
def writeCandidate (p : Port) (pl : List Word) (s : State) : State × Answer :=
  leaderCommand p pl s fun n =>
    let r := s.profile n
    if r.adapt ≠ .idle then (s, refuse .adapting)
    else if r.stage = .waitingSpare then (s, refuse .busy)
    else match candidateOf pl r.candidate with
      | none => (s, refuse .badValue)
      | some c => (s.modProfile n fun r => { r with candidate := c }, (.ok, []))

/-- WRITE_CANDIDATE (R30). -/
def execWriteCandidate (f : Frame) (s : State) : Host.Outcome State Fault Refusal :=
  finish (command 0x17 writeCandidate f s)

/-- COMMIT (R33). -/
def commit (p : Port) (pl : List Word) (s : State) : State × Answer :=
  leaderCommand p pl s fun n =>
    let r := s.profile n
    if r.adapt ≠ .idle then (s, refuse .adapting)
    else if r.stage ≠ .none then (s, refuse .busy)
    else (startCommit n s, (.accepted, []))

/-- COMMIT (R33). -/
def execCommit (f : Frame) (s : State) : Host.Outcome State Fault Refusal := finish (command 0x18 commit f s)

/-! ### Configuration (R39, R107) -/

/-- The fields a SET FIELDS payload selects. -/
def fieldsOf (pl : List Word) : List Nat := selected 17 (word32 (arg pl 2) (arg pl 3)).toNat

/-- A configuration with the fields of a payload set; none when a value is out of range. -/
def configOf (pl : List Word) (c : AdaptConfig) : Option AdaptConfig :=
  applyFields configField (cutFields configFieldSize (fieldsOf pl) (pl.drop 4)) c

/-- A tracking field of R38's table: rows 12 to 16. -/
def isTrackingField (i : Nat) : Bool := decide (12 ≤ i)

/-- SET FIELDS may change this profile (R39). -/
def Profile.takesFields (r : Profile) (p : Port) (fields : List Nat) : Bool :=
  r.state == .bound && r.leader == some p
    && (r.adapt == .idle || (r.adapt == .tracking && fields.all isTrackingField))

/-- The record with a new configuration; continuous off between rounds ends tracking (R107). -/
def Profile.withConfig (r : Profile) (c : AdaptConfig) : Profile :=
  { r with
    config := c
    adapt := if r.adapt == .tracking && r.search.phase != .round && !c.continuous then .idle else r.adapt }

/-- The profiles of a mask that SET FIELDS applies to, and the mask of them. -/
def appliedMask (mask : Block) (p : Port) (fields : List Nat) (s : State) : Block :=
  allProfiles.foldl (fun m n =>
    if mask.getLsbD n.val && (s.profile n).takesFields p fields then insertBit m n.val else m) 0

/-- SET FIELDS (R39). -/
def setFields (p : Port) (pl : List Word) (s : State) : State × Answer :=
  let mask := word32 (arg pl 0) (arg pl 1)
  match configOf pl .default with
  | none => (s, refuse .badValue)
  | some _ =>
    let applied := appliedMask mask p (fieldsOf pl) s
    let one (s : State) (n : ProfileId) : State :=
      if applied.getLsbD n.val then s.modProfile n fun r => r.withConfig ((configOf pl r.config).getD r.config) else s
    (allProfiles.foldl one s, (.ok, words32 applied ++ words32 (mask &&& ~~~applied)))

/-- SET_FIELDS (R39). -/
def execSetFields (f : Frame) (s : State) : Host.Outcome State Fault Refusal := finish (command 0x19 setFields f s)

/-! ### Flags (R43) -/

/-- CLEAR FLAGS (R43). -/
def clearFlags (p : Port) (pl : List Word) (s : State) : State × Answer :=
  leaderCommand p pl s fun n =>
    let r := s.profile n
    (s.modProfile n fun r => { r with staticSat := false, wrap := false, expiredCount := 0 },
     (.ok, [boolWord r.staticSat, boolWord r.wrap, r.expiredCount]))

/-- CLEAR_FLAGS (R43). -/
def execClearFlags (f : Frame) (s : State) : Host.Outcome State Fault Refusal := finish (command 0x1D clearFlags f s)

end Sys2Proof.Machine
end

