-- ==== Sys2Proof/Machine/Slots.lean ====
section
/-! DEFINITION. Slot commands and the slot map at a block event (03_output_slots_and_routing). -/

namespace Sys2Proof.Machine

/-- A slot command: the slot number is checked before anything else (3.1). -/
def slotCommand (pl : List Word) (s : State) (k : SlotId → State × Answer) : State × Answer :=
  match fin? 16 (arg pl 0) with
  | none => (s, refuse .badValue)
  | some i => k i

/-- A slot command of the owner alone. -/
def ownerCommand (p : Port) (pl : List Word) (s : State) (k : SlotId → State × Answer) : State × Answer :=
  slotCommand pl s fun i => if (s.slot i).owner = some p then k i else (s, refuse .notOwner)

/-- CLAIM SLOT (R46). -/
def claimSlot (p : Port) (pl : List Word) (s : State) : State × Answer :=
  slotCommand pl s fun i =>
    match (s.slot i).owner with
    | none => (s.modSlot i fun t => { t with owner := some p, lateCount := 0 }, (.ok, []))
    | some q => (s, if q = p then (.ok, []) else refuse .held)

/-- CLAIM_SLOT (R46). -/
def execClaimSlot (f : Frame) (s : State) : Host.Outcome State Fault Refusal := finish (command 0x20 claimSlot f s)

/-- A slot freed by its owner or by a port reset (R47, R57). -/
def Slot.free (t : Slot) : Slot := { t with pending := some .silent, mute := false, owner := none }

/-- FREE SLOT (R47). -/
def freeSlot (p : Port) (pl : List Word) (s : State) : State × Answer :=
  ownerCommand p pl s fun i => (s.modSlot i Slot.free, (.ok, []))

/-- FREE_SLOT (R47). -/
def execFreeSlot (f : Frame) (s : State) : Host.Outcome State Fault Refusal := finish (command 0x21 freeSlot f s)

/-- A port is the leader or a follower of a profile (R22). -/
def Profile.member (r : Profile) (p : Port) : Bool := r.leader == some p || r.followers.getLsbD p.val

/-- Steps 3 and 4 of R48: what a port may route to. -/
def State.routeRefusal (s : State) (p : Port) : Source → Option Status
  | .silent | .dry _ => none
  | .profile n =>
    if (s.profile n).state ≠ .bound then some .noSuch
    else if (s.profile n).member p then none else some .notLeader
  | .generator => if s.gen.claim = some p then none else some .notOwner

/-- ROUTE (R48). -/
def route (p : Port) (pl : List Word) (s : State) : State × Answer :=
  ownerCommand p pl s fun i =>
    match source? (arg pl 1) (arg pl 2) with
    | none => (s, refuse .badValue)
    | some src =>
      match s.routeRefusal p src with
      | some st => (s, refuse st)
      | none => (s.modSlot i fun t => { t with pending := some src }, (.ok, []))

/-- ROUTE (R48). -/
def execRoute (f : Frame) (s : State) : Host.Outcome State Fault Refusal := finish (command 0x22 route f s)

/-- MUTE (R49). -/
def mute (p : Port) (pl : List Word) (s : State) : State × Answer :=
  ownerCommand p pl s fun i =>
    match flag? (arg pl 1) with
    | none => (s, refuse .badValue)
    | some b => (s.modSlot i fun t => { t with mute := b }, (.ok, []))

/-- MUTE (R49). -/
def execMute (f : Frame) (s : State) : Host.Outcome State Fault Refusal := finish (command 0x23 mute f s)

/-- READ SLOT (R58). -/
def readSlot (p : Port) (pl : List Word) (s : State) : State × Answer :=
  slotCommand pl s fun i =>
    let t := s.slot i
    match flag? (arg pl 1) with
    | none => (s, refuse .badValue)
    | some false => (s, (.ok, slotWords t))
    | some true =>
      if t.owner = some p then (s.modSlot i fun t => { t with lateCount := 0 }, (.ok, slotWords t))
      else (s, refuse .notOwner)

/-- READ_SLOT (R58). -/
def execReadSlot (f : Frame) (s : State) : Host.Outcome State Fault Refusal := finish (command 0x24 readSlot f s)

/-! ### The slot map at block event k (R50 to R54) -/

/-- Steps 1 and 2 of R50: the pending source and the mute are taken. -/
def Slot.takePending (t : Slot) : Slot :=
  { t with
    outgoing := t.pending.map fun _ => t.source
    source := t.pending.getD t.source
    pending := none
    playingMuted := t.mute }

/-- The state of the entry a slot's source plays at block event k; NONE for a source that is no profile (R52). -/
def State.lookAt (s : State) (src : Source) (k : Block) : EntryState :=
  match src with
  | .profile n => (s.profile n).entryState (k - 2)
  | .silent | .dry _ | .generator => .none

/-- The slot has samples of its source to play at block event k (R54). -/
def State.hasSamples (s : State) (src : Source) (k : Block) : Bool :=
  match src with
  | .silent => false
  | .dry _ => atOrAfter (k - 2) s.lane.validFrom s.lane.blockCounter
  | .profile n => (s.profile n).entryState (k - 2) == .valid
  | .generator => s.gen.running

/-- The generation a PROFILE slot records (R54). -/
def State.playedGeneration (s : State) (src : Source) (k : Block) : Option Block :=
  match src with
  | .profile n => some ((s.profile n).ring.get (ringIndex (k - 2))).generation
  | .silent | .dry _ | .generator => none

/-- An entry that counts late: PENDING or EXPIRED (R52). -/
def EntryState.late : EntryState → Bool
  | .pending | .expired => true
  | .none | .valid => false

/-- The slot's record after block event k (R50, R53, R54). -/
def State.slotAfter (s : State) (k : Block) (t : Slot) : Slot :=
  let t := t.takePending
  let look := s.lookAt t.source k
  let played := !t.playingMuted && s.hasSamples t.source k
  { t with
    foundValid := look == .valid
    lateCount := if look.late then satInc t.lateCount else t.lateCount
    lastBlock := if played then some (k - 2) else t.lastBlock
    lastGeneration := if played then (s.playedGeneration t.source k).or t.lastGeneration else t.lastGeneration }

/-- The slot map treats slot i at block event k. -/
def slotEvent (k : Block) (s : State) (i : SlotId) : State :=
  let t := s.slotAfter k (s.slot i)
  let s' := s.modSlot i fun _ => t
  if (s.lookAt t.source k).late then s'.notifyOpt t.owner (.slotLate i) else s'

/-- The slot map takes block event k for the slots that are left, one after another (R50); R50 does not say in which order, and
number order is the model's DESIGN CHOICE for them (log 7). -/
def slotMapEvent (k : Block) (taken : List SlotId) (s : State) : State :=
  (allSlots.filter fun i => !taken.contains i).foldl (slotEvent k) s

/-! ### What a slot plays (R14) -/

/-- The sample slot t plays at position i of the period in progress (R14, R16). -/
def State.slotSample (s : State) (t : Slot) (i : Fin 32) : Sample :=
  if s.lane.zeroPeriod || t.playingMuted then 0 else
  match t.source with
  | .silent => 0
  | .dry c => match s.lane.ringRead c (s.lane.blockCounter - 2) i.val with
    | .sample x => x
    | .beforeV | .gone => 0
  | .generator => if s.gen.running then s.gen.current else 0
  | .profile n =>
    if t.foundValid then
      ((s.profile n).ring.get (ringIndex (s.lane.blockCounter - 2))).samples.getD i.val 0
    else 0

/-- The output frame that begins at the frame position in progress (R12). -/
def State.outputFrame (s : State) : OutFrame :=
  ⟨s.lane.position, vmap (fun t => s.slotSample t s.lane.position) s.slots⟩

/-! ### The generator's release (R56) -/

/-- The slot plays the generator or is about to. -/
def Slot.onGenerator (t : Slot) : Bool := t.source == .generator || t.pending == some .generator

/-- One slot at the release of the generator (R56). -/
def silenceSlot (s : State) (i : SlotId) : State :=
  if (s.slot i).onGenerator then
    (s.modSlot i fun t => { t with pending := some .silent }).notifyOpt (s.slot i).owner (.slotSilenced i)
  else s

/-- Every GENERATOR slot at the release (R56). -/
def silenceGeneratorSlots (s : State) : State := allSlots.foldl silenceSlot s

end Sys2Proof.Machine
end

