-- ==== Sys2Proof/Machine/Windows.lean ====
section
/-! DEFINITION. Window commands, direct word access and the move unit (06_work_memory_windows_and_moves). -/

namespace Sys2Proof.Machine

/-! ### Opening (R114) -/

/-- The kind of a window to open: PRIVATE 0, SHARED 1 (R189). -/
inductive WindowKind where
  | priv | shared
  deriving DecidableEq, Repr

def windowKind? (w : Word) : Option WindowKind :=
  if w = 0 then some .priv else if w = 1 then some .shared else none

/-- A base and a length in range (R114). -/
def windowRange? (base length : Word) : Option Window :=
  if base.toNat ≤ 32767 ∧ 1 ≤ length.toNat ∧ length.toNat ≤ 32768 ∧ base.toNat + length.toNat ≤ 32768 then
    some ⟨base.toNat, length.toNat⟩
  else none

def allNumbers8 : List (Fin 8) := [0, 1, 2, 3, 4, 5, 6, 7]

/-- The lowest-numbered closed window of a kind for port p. -/
def State.closedWindow (s : State) (p : Port) : WindowKind → Option WindowName
  | .priv => (allNumbers8.find? fun k => ((s.port p).windows.get k).isNone).map .priv
  | .shared => (allSlots.find? fun k => (s.shared.get k).isNone).map .shared

/-- The number of a window in its kind. -/
def WindowName.number : WindowName → Nat
  | .priv k => k.val
  | .shared k => k.val

/-- The table with a window opened by port p. -/
def State.openAt (s : State) (p : Port) (nm : WindowName) (w : Window) : State :=
  match nm with
  | .priv k => s.modPort p fun ps => { ps with windows := vset ps.windows k (some w) }
  | .shared k => { s with shared := vset s.shared k (some ⟨w, some p⟩) }

/-- OPEN WINDOW (R114). -/
def openWindow (p : Port) (pl : List Word) (s : State) : State × Answer :=
  match windowKind? (arg pl 0), windowRange? (arg pl 1) (arg pl 2) with
  | some kind, some w =>
    match s.closedWindow p kind with
    | none => (s, refuse .full)
    | some nm => (s.openAt p nm w, (.ok, [natWord nm.number]))
  | _, _ => (s, refuse .badValue)

/-- OPEN_WINDOW (R114). -/
def execOpenWindow (f : Frame) (s : State) : Host.Outcome State Fault Refusal := finish (command 0x30 openWindow f s)

/-! ### References and closing (R115, R116) -/

def allRecords : List (Fin 4) := [0, 1, 2, 3]

/-- A move record that is QUEUED or ACTIVE names the window. -/
def MoveRecord.references (m : MoveRecord) (p : Port) (id : WindowId) : Bool :=
  (m.state == .queued || m.state == .active)
    && (m.target.of p == id || match m.source with
        | .window nm _ => nm.of p == id
        | .ring .. | .generator .. => false)

/-- A job-queue entry names the window. -/
def QueueEntry.references (e : QueueEntry) (p : Port) (id : WindowId) : Bool :=
  match e.work with
  | .job j => j.windows.any fun nm => nm.of p == id
  | .context _ plc => plc.name.of p == id

/-- The record of a segment that a port reset has stopped: its words go by address, and it names no window (R117, R127). -/
def Mover.stoppedRecord (v : Mover) (p : Port) (r : Fin 4) : Bool :=
  match v.segment with
  | some g => g.port == p && g.record == r && g.stopped.isSome
  | none => false

/-- A port's moves or queue name the window. -/
def State.portReferences (s : State) (p : Port) (id : WindowId) : Bool :=
  (allRecords.any fun r => match (s.port p).moves.get r with
    | some m => !s.mover.stoppedRecord p r && m.references p id
    | none => false)
  || (s.port p).jobs.any fun e => e.references p id

/-- A profile that adapts names the window as its target; a private one is its leader's (R90, R115). -/
def Profile.references (r : Profile) (id : WindowId) : Bool :=
  r.adapt != .idle && match r.probeTarget with
    | .window t _ => t == some id
    | .generator _ => false

/-- The window is referenced (R115). -/
def State.referenced (s : State) (id : WindowId) : Bool :=
  (allPorts.any fun p => s.portReferences p id) || s.profiles.toList.any fun r => r.references id

/-- A shared window that another port created (R116, step 3). -/
def State.createdByOther (s : State) (p : Port) : WindowName → Bool
  | .priv _ => false
  | .shared k => match (s.shared.get k).bind (·.creator) with
    | some q => q != p
    | none => false

/-- The table with a window closed. -/
def State.closeAt (s : State) (p : Port) : WindowName → State
  | .priv k => s.modPort p fun ps => { ps with windows := vset ps.windows k none }
  | .shared k => { s with shared := vset s.shared k none }

/-- CLOSE WINDOW (R116). -/
def closeWindow (p : Port) (pl : List Word) (s : State) : State × Answer :=
  match windowName? (arg pl 0) with
  | none => (s, refuse .badValue)
  | some nm =>
    if (s.windowOf (nm.of p)).isNone then (s, refuse .noSuch)
    else if s.createdByOther p nm then (s, refuse .notOwner)
    else if s.referenced (nm.of p) then (s, refuse .inUse)
    else (s.closeAt p nm, (.ok, []))

/-- CLOSE_WINDOW (R116). -/
def execCloseWindow (f : Frame) (s : State) : Host.Outcome State Fault Refusal := finish (command 0x31 closeWindow f s)

/-! ### Direct access (R118, R119) -/

/-- WRITE WORDS (R118): reference, offset, count, values. -/
def writeWords (p : Port) (pl : List Word) (s : State) : State × Answer :=
  match windowName? (arg pl 0) with
  | none => (s, refuse .badValue)
  | some nm =>
    let n := (arg pl 2).toNat
    let off := (arg pl 1).toNat
    if n > 56 then (s, refuse .badValue)
    else match s.windowOf (nm.of p) with
      | none => (s, refuse .noSuch)
      | some w =>
        if n ≠ 0 ∧ off + n > w.length then (s, refuse .access)
        else (s.writeWords (nm.of p) off ((pl.drop 3).take n), (.ok, []))

/-- WRITE_WORDS (R118). -/
def execWriteWords (f : Frame) (s : State) : Host.Outcome State Fault Refusal := finish (command 0x32 writeWords f s)

/-- READ WORDS (R119): reference, offset, count. -/
def readWords (p : Port) (pl : List Word) (s : State) : State × Answer :=
  match windowName? (arg pl 0) with
  | none => (s, refuse .badValue)
  | some nm =>
    let n := (arg pl 2).toNat
    let off := (arg pl 1).toNat
    if n > 60 then (s, refuse .badValue)
    else match s.windowOf (nm.of p) with
      | none => (s, refuse .noSuch)
      | some w =>
        if n ≠ 0 ∧ off + n > w.length then (s, refuse .access)
        else (s, (.ok, (List.range n).map fun i => (s.readWord (nm.of p) (off + i)).getD 0))

/-- READ_WORDS (R119). -/
def execReadWords (f : Frame) (s : State) : Host.Outcome State Fault Refusal := finish (command 0x33 readWords f s)

/-! ### Moves (R120 to R127) -/

/-- The lowest-numbered free move record. -/
def PortState.freeRecord (ps : PortState) : Option (Fin 4) := allRecords.find? fun r => (ps.moves.get r).isNone

/-- The direction of a move (R123): DESCENDING when both are windows, their ranges overlap and the destination is above. -/
def moveDirection (source? : Option Nat) (target count : Nat) : Direction :=
  match source? with
  | some a => if a < target ∧ target < a + count then .descending else .ascending
  | none => .ascending

/-- The first work-memory address of a window source. -/
def State.sourceBase (s : State) (p : Port) : MoveSource → Option Nat
  | .window nm off => (s.windowOf (nm.of p)).map fun w => w.base + off
  | .ring .. | .generator .. => none

/-- Steps 3 and 4 of R120 for the source: its window is open, and its words lie inside. -/
def State.sourceRefusal (s : State) (p : Port) (count : Nat) : MoveSource → Bool × Bool
  | .window nm off => match s.windowOf (nm.of p) with
    | none => (true, false)
    | some w => (false, decide (off + count > w.length))
  | .ring .. | .generator .. => (false, false)

/-- MOVE (R120): source, destination, count. -/
def move (p : Port) (pl : List Word) (s : State) : State × Answer :=
  match moveSource? (arg pl 0) (arg pl 1) (arg pl 2) (arg pl 3), windowName? (arg pl 4) with
  | some src, some nm =>
    let off := (arg pl 5).toNat
    let count := (arg pl 6).toNat
    let bad := s.sourceRefusal p count src
    if count > Config.countLimit then (s, refuse .tooLong)
    else match s.windowOf (nm.of p) with
      | none => (s, refuse .noSuch)
      | some w =>
        if bad.1 then (s, refuse .noSuch)
        else if bad.2 ∨ off + count > w.length then (s, refuse .access)
        else match (s.port p).freeRecord with
          | none => (s, refuse .full)
          | some r =>
            let m : MoveRecord :=
              ⟨if count = 0 then .done else .queued, src, nm, off, count,
               moveDirection (s.sourceBase p src) (w.base + off) count, 0, count, false⟩
            let s := s.modPort p fun ps => { ps with
              moves := vset ps.moves r (some m)
              moveOrder := if count = 0 then ps.moveOrder else ps.moveOrder ++ [r] }
            (if count = 0 then s.notify p (.moveDone r) else s, (.accepted, [finWord r]))
  | _, _ => (s, refuse .badValue)

/-- MOVE (R120). -/
def execMove (f : Frame) (s : State) : Host.Outcome State Fault Refusal := finish (command 0x34 move f s)

/-- The offset a source starts at. -/
def MoveSource.start : MoveSource → Nat
  | .window _ off => off
  | .ring _ _ off => off
  | .generator _ off => off

/-- The boundary between copied and uncopied words, from an offset (R123). -/
def MoveRecord.position (m : MoveRecord) (off : Nat) : Nat :=
  match m.direction with
  | .ascending => off + m.moved
  | .descending => off + m.remaining

/-- The record as MOVE STATUS gives it (R126). -/
def moveWords (m : MoveRecord) : List Word :=
  [m.state.word] ++ moveSourceWords m.source ++ [m.target.word, natWord m.offset, natWord m.count, m.direction.word,
    natWord m.moved, natWord m.remaining, positionWord (m.position m.source.start), positionWord (m.position m.offset),
    if m.failure then 0 else 0xFFFF]

/-- MOVE STATUS (R126). -/
def moveStatus (p : Port) (pl : List Word) (s : State) : State × Answer :=
  match fin? 4 (arg pl 0), flag? (arg pl 1) with
  | some r, some collect =>
    match (s.port p).moves.get r with
    | none => (s, refuse .noSuch)
    | some m =>
      (if collect ∧ (m.state = .done ∨ m.state = .failed) then
          s.modPort p fun ps => { ps with moves := vset ps.moves r none }
        else s, (.ok, moveWords m))
  | _, _ => (s, refuse .badValue)

/-- MOVE_STATUS (R126). -/
def execMoveStatus (f : Frame) (s : State) : Host.Outcome State Fault Refusal := finish (command 0x35 moveStatus f s)

/-- The port the move unit serves next, and its oldest unfinished record (R122). -/
def State.nextMove (s : State) : Option (Port × Fin 4) :=
  allPorts.findSome? fun i =>
    let p := s.mover.pointer + i
    (s.port p).moveOrder.head?.map fun r => (p, r)

/-- MOVE_TURN (R122): the idle unit begins a segment. -/
def execMoveTurn (s : State) : Host.Outcome State Fault Refusal :=
  finish (match s.mover.segment, s.nextMove with
    | none, some (p, r) =>
      match (s.port p).moves.get r with
      | some m =>
        { s with mover := { s.mover with segment := some ⟨p, r, min Config.segmentWords m.remaining, none⟩ } }.modPort p
          fun ps => { ps with moves := vset ps.moves r (some { m with state := .active }) }
      | none => s
    | _, _ => s)

/-- The offset of the word copied next, from an offset: the lowest not yet copied, or the highest (R123). -/
def MoveRecord.nextOffset (m : MoveRecord) (off : Nat) : Nat :=
  match m.direction with
  | .ascending => off + m.moved
  | .descending => off + (m.remaining - 1)

/-- The work-memory address of a word of a segment: through the window, or through the base a stopped segment kept. -/
def State.segmentAddress (s : State) (id : WindowId) (stop : Option Nat) (off : Nat) : Option Nat :=
  match stop with
  | some base => addressAt base off
  | none => match s.resolve id off with
    | .address a => some a
    | .closed | .outside => none

/-- The next source word of a move, if it is held (R124). -/
def State.moveWord (s : State) (p : Port) (m : MoveRecord) (stop : Option StopBases) : Option Word :=
  match m.source with
  | .window nm off =>
    (s.segmentAddress (nm.of p) (stop.map (·.source)) (m.nextOffset off)).map (memRead s.mem)
  | .ring c b off =>
    match s.lane.ringRead c b (m.nextOffset off) with
    | .sample x => some x
    | .beforeV | .gone => none
  | .generator n off => s.gen.held (n + BitVec.ofNat 32 (m.nextOffset off))

/-- The unit is idle again and its pointer names the port after the one served (R122); a stopped record is freed (R127). -/
def endSegment (g : Segment) (s : State) : State :=
  let s := { s with mover := ⟨none, g.port + 1⟩ }
  if g.stopped.isSome then s.modPort g.port fun ps => { ps with moves := vset ps.moves g.record none } else s

/-- A record has ended, DONE or FAILED: it leaves the taken order with MOVE_DONE, unless a port reset stopped it. -/
def moveEnded (g : Segment) (m : MoveRecord) (s : State) : State :=
  let s := s.modPort g.port fun ps => { ps with moves := vset ps.moves g.record (some m) }
  if g.stopped.isSome then s
  else (s.modPort g.port fun ps => { ps with moveOrder := ps.moveOrder.filter fun r => r != g.record }).notify g.port
    (.moveDone g.record)

/-- One word of the segment is copied, or fails the move (R124, R125). -/
def copyWord (g : Segment) (m : MoveRecord) (s : State) : State :=
  let target := s.segmentAddress (m.target.of g.port) (g.stopped.map (·.target)) (m.nextOffset m.offset)
  match s.moveWord g.port m g.stopped, target with
  | some v, some a =>
    let m := { m with moved := m.moved + 1, remaining := m.remaining - 1 }
    let s := { s with mem := memWrite s.mem a v }
    if m.remaining = 0 then endSegment g (moveEnded g { m with state := .done } s)
    else
      let s := s.modPort g.port fun ps => { ps with moves := vset ps.moves g.record (some m) }
      if g.left ≤ 1 then endSegment g s
      else { s with mover := { s.mover with segment := some { g with left := g.left - 1 } } }
  | _, _ => endSegment g (moveEnded g { m with state := .failed, failure := true } s)

/-- MOVE_WORD_COPY (R124). -/
def execMoveWordCopy (s : State) : Host.Outcome State Fault Refusal :=
  finish (match s.mover.segment with
    | none => s
    | some g =>
      match (s.port g.port).moves.get g.record with
      | some m => copyWord g m s
      | none => { s with mover := ⟨none, g.port + 1⟩ })

/-! ### Port reset (R117, R127) -/

/-- The base address of a window, if it is open. -/
def State.baseOf (s : State) (id : WindowId) : Nat := ((s.windowOf id).map (·.base)).getD 0

/-- The addresses a segment's windows give at the reset (R127). -/
def State.stopBases (s : State) (p : Port) (m : MoveRecord) : StopBases :=
  ⟨match m.source with
    | .window nm _ => s.baseOf (nm.of p)
    | .ring .. | .generator .. => 0, s.baseOf (m.target.of p)⟩

/-- The record a segment of port p is copying, if there is one. -/
def State.segmentOf (s : State) (p : Port) : Option (Segment × MoveRecord) :=
  match s.mover.segment with
  | some g => if g.port = p then ((s.port p).moves.get g.record).map fun m => (g, m) else none
  | none => none

/-- A port reset stops the port's moves and frees its records; one whose segment is in progress is freed at the segment's
end (R127). -/
def stopMoves (p : Port) (s : State) : State :=
  match s.segmentOf p with
  | some (g, m) =>
    let g := { g with stopped := g.stopped.or (some (s.stopBases p m)) }
    { s with mover := { s.mover with segment := some g } }.modPort p fun ps => { ps with
      moves := vset (Vector.replicate 4 none) g.record (some m), moveOrder := [] }
  | none => s.modPort p fun ps => { ps with moves := Vector.replicate 4 none, moveOrder := [] }

/-- A port reset closes the port's private windows and makes its shared ones ownerless (R117). -/
def closeWindows (p : Port) (s : State) : State :=
  let disown (w : SharedWindow) : SharedWindow := if w.creator = some p then { w with creator := none } else w
  { s with shared := vmap (Option.map disown) s.shared }.modPort p fun ps => { ps with
    windows := Vector.replicate 8 none }

end Sys2Proof.Machine
end

