-- ==== Sys2Proof/Machine/Patterns.lean ====
section
/-! DEFINITION. The pattern generator and the line checkers (09_test_patterns_and_line_checkers). -/

namespace Sys2Proof.Machine

/-! ### The generator (R164 to R171) -/

/-- Seeds the sequence register and the user position (R167, R168). DESIGN CHOICE (log 27): with kind USER, which has no sequence,
the register stays as it is. -/
def Generator.seed (g : Generator) : Generator :=
  { g with
    register := match g.kind.sequence with
      | some q => seqSeed q
      | none => g.register
    userPosition := 0, oddRepetition := false }

/-- RUN while OFF (R169). -/
def Generator.start (g : Generator) : Generator := { g.seed with running := true, current := 0 }

/-- STOP while RUNNING, and the stop of a release (R169, R171). -/
def Generator.stop (g : Generator) : Generator := { g with running := false, current := 0 }

/-- The released generator: OFF and unclaimed (R171). -/
def Generator.release (g : Generator) : Generator := { g.stop with claim := none }

/-- A USER sample negated for an odd repetition; −32768 becomes 32767 (R168). -/
def negateSample (x : Sample) : Sample := if x = 0x8000 then 0x7FFF else -x

/-- The next sample of the generator's kind, and the generator with its position advanced (R167, R168). -/
def Generator.next (g : Generator) : Sample × Generator :=
  match g.kind.sequence with
  | some q =>
    let r := seqSample q g.register
    (r.1.sshiftRight g.level.val, { g with register := r.2 })
  | none =>
    let x := (g.pattern.get g.userPosition).sshiftRight g.level.val
    (if g.inversion && g.oddRepetition then negateSample x else x,
     { g with
       userPosition := g.userPosition + 1
       oddRepetition := if g.userPosition = 15 then !g.oddRepetition else g.oddRepetition })

/-- The history with a sample recorded under its number (R170). -/
def Generator.record (g : Generator) (number : Block) (x : Sample) : Generator :=
  { g with current := x, history := vset g.history (Fin.ofNat 512 number.toNat) ⟨some number, x⟩ }

/-- A frame event of a RUNNING generator: its next sample, numbered (R169). -/
def Generator.frame (g : Generator) (number : Block) : Generator :=
  if g.running then g.next.2.record number g.next.1 else g

/-- The history entry of a sample number withdrawn, if the history holds it (R170). -/
def Generator.withdraw (g : Generator) (number : Block) : Generator :=
  let i := Fin.ofNat 512 number.toNat
  if (g.history.get i).number = some number then
    { g with history := vset g.history i ⟨none, (g.history.get i).sample⟩ }
  else g

/-- CLAIM GENERATOR (R165). -/
def claimGenerator (p : Port) (_ : List Word) (s : State) : State × Answer :=
  match s.gen.claim with
  | none => ({ s with gen := { s.gen with claim := some p } }, (.ok, []))
  | some q => (s, if q = p then (.ok, []) else refuse .held)

/-- CLAIM_GENERATOR (R165). -/
def execClaimGenerator (f : Frame) (s : State) : Host.Outcome State Fault Refusal :=
  finish (command 0x60 claimGenerator f s)

/-- Sixteen samples of a user pattern. -/
def pattern? (ws : List Word) : Option (Vector Sample 16) :=
  if h : ws.length = 16 then some ⟨ws.toArray, by simp [h]⟩ else none

/-- Field i of SET GENERATOR: kind, level, user pattern, inversion, run (true for RUN, code 0; STOP is code 1). -/
def generatorField (i : Nat) (ws : List Word) (r : Generator × Option Bool) : Option (Generator × Option Bool) :=
  let w := ws.getD 0 0
  match i with
  | 0 => (patternKind? w).map fun v => ({ r.1 with kind := v }, r.2)
  | 1 => (fin? 16 w).map fun v => ({ r.1 with level := v }, r.2)
  | 2 => (pattern? ws).map fun v => ({ r.1 with pattern := v }, r.2)
  | 3 => (flag? w).map fun v => ({ r.1 with inversion := v }, r.2)
  | 4 => (flag? w).map fun v => (r.1, some !v)
  | _ => none

/-- The settings of a payload, then its run field (R166). -/
def generatorOf (pl : List Word) (g : Generator) : Option (Generator × Option Bool) :=
  applyFields generatorField (cutFields generatorFieldSize (selected 5 (arg pl 0).toNat) (pl.drop 1)) (g, none)

/-- The generator after its settings: a new kind while RUNNING restarts it from its seed; then the run field acts (R166). -/
def Generator.settle (old : Generator) (set : Generator) (run : Option Bool) : Generator :=
  let g := if old.running && set.kind != old.kind then set.seed else set
  match run with
  | some true => if g.running then g else g.start
  | some false => if g.running then g.stop else g
  | none => g

/-- SET GENERATOR (R166). -/
def setGenerator (p : Port) (pl : List Word) (s : State) : State × Answer :=
  if s.gen.claim ≠ some p then (s, refuse .notOwner)
  else match generatorOf pl s.gen with
    | none => (s, refuse .badValue)
    | some r =>
      let g := s.gen.settle r.1 r.2
      ({ s with gen := g }, (.ok, generatorWords g))

/-- SET_GENERATOR (R166). -/
def execSetGenerator (f : Frame) (s : State) : Host.Outcome State Fault Refusal := finish (command 0x61 setGenerator f s)

/-- The release of the generator and of the slots on it (R171, R56). -/
def dropGenerator (s : State) : State := silenceGeneratorSlots { s with gen := s.gen.release }

/-- RELEASE GENERATOR (R171). -/
def releaseGenerator (p : Port) (_ : List Word) (s : State) : State × Answer :=
  if s.gen.claim = some p then (dropGenerator s, (.ok, [])) else (s, refuse .notOwner)

/-- RELEASE_GENERATOR (R171). -/
def execReleaseGenerator (f : Frame) (s : State) : Host.Outcome State Fault Refusal :=
  finish (command 0x62 releaseGenerator f s)

/-! ### The line checkers (R172 to R175) -/

/-- The sequence and the polarity of a hypothesis (R189). -/
def hypSequence (h : Fin 8) : Fin 4 := Fin.ofNat 4 (h.val / 2)
def hypInverted (h : Fin 8) : Bool := h.val % 2 == 1

/-- Earlier samples a hypothesis needs to predict one (R173). -/
def hypNeeds (h : Fin 8) : Nat := if (hypSequence h).val = 3 then 2 else 1

/-- The bit stream a hypothesis sees: two earlier samples and this one, this one's last bit lowest. -/
def hypStream (h : Fin 8) (heard : List Sample) (x : Sample) : BitVec 48 :=
  let v : BitVec 48 := heard.getD 1 0 ++ heard.getD 0 0 ++ x
  if hypInverted h then ~~~v else v

/-- The hypothesis predicts every bit of the sample from the bits before it (R173). -/
def hypPredicts (h : Fin 8) (heard : List Sample) (x : Sample) : Bool :=
  let v := hypStream h heard x
  let n := seqDegree (hypSequence h)
  let d := seqLag (hypSequence h)
  decide (hypNeeds h ≤ heard.length)
    && (List.range 16).all (fun b => v.getLsbD b == (v.getLsbD (b + n) != v.getLsbD (b + d)))
    && (List.range n).any (fun b => v.getLsbD (16 + b))

def allHypotheses : List (Fin 8) := [0, 1, 2, 3, 4, 5, 6, 7]

/-- The runs after a sample (R173). -/
def Checker.runsAfter (c : Checker) (x : Sample) : Vector Nat 8 :=
  let run (h : Fin 8) : Nat := if hypPredicts h c.heard x then min 8 (c.runs.get h + 1) else 0
  #v[run 0, run 1, run 2, run 3, run 4, run 5, run 6, run 7]

/-- A SEARCHING checker takes a sample; true when it locks (R173). -/
def Checker.search (c : Checker) (x : Sample) : Checker × Bool :=
  let runs := c.runsAfter x
  let c' := { c with runs := runs, heard := (x :: c.heard).take 2 }
  match allHypotheses.find? fun h => runs.get h == 8 with
  | none => (c', false)
  | some h =>
    ({ c' with
       state := .locked, hypothesis := some h, errorRun := 0
       reference := seqKeep (hypSequence h) ((hypStream h c.heard x).setWidth 23) }, true)

/-- The checker after it loses lock (R174). -/
def Checker.loseLock (c : Checker) : Checker :=
  { c with state := .searching, hypothesis := none, heard := [], runs := Vector.replicate 8 0 }

/-- A LOCKED checker compares a sample with its own sequence; true when it loses lock (R174). -/
def Checker.check (c : Checker) (h : Fin 8) (x : Sample) : Checker × Bool :=
  let r := seqSample (hypSequence h) c.reference
  let bad := (if hypInverted h then ~~~x else x) != r.1
  let c := { c with reference := r.2, errorRun := if bad then c.errorRun + 1 else 0 }
  let c := if c.frozen then c
    else { c with checked := c.checked + 1, errors := if bad then satInc c.errors else c.errors }
  if c.errorRun ≥ 16 then (c.loseLock, true) else (c, false)

/-- One checker at a frame event: its channel's sample (R173, R174). -/
def checkerFrame (frame : LaneFrame) (s : State) (i : Fin 2) : State :=
  let c := s.checker i
  let x := frame.get c.channel
  match c.state, c.hypothesis with
  | .searching, _ =>
    let r := c.search x
    let s' := s.modChecker i fun _ => r.1
    if r.2 then s'.notifyOpt c.claim (.checkerLock i) else s'
  | .locked, some h =>
    let r := c.check h x
    let s' := s.modChecker i fun _ => r.1
    if r.2 then s'.notifyOpt c.claim (.checkerLost i) else s'
  | .locked, none | .idle, _ => s

/-- A checker attached anew (R172); its reference register is not among the fields the claim sets. -/
def Checker.attach (p : Port) (ch : Channel) (c : Checker) : Checker :=
  { Checker.initial with claim := some p, channel := ch, state := .searching, reference := c.reference }

/-- CLAIM CHECKER (R172). -/
def claimChecker (p : Port) (pl : List Word) (s : State) : State × Answer :=
  match fin? 2 (arg pl 0), fin? 16 (arg pl 1) with
  | some i, some ch =>
    match (s.checker i).claim with
    | none => (s.modChecker i (Checker.attach p ch), (.ok, []))
    | some q =>
      if q ≠ p then (s, refuse .held)
      else if (s.checker i).channel = ch then (s, (.ok, []))
      else (s.modChecker i (Checker.attach p ch), (.ok, []))
  | _, _ => (s, refuse .badValue)

/-- CLAIM_CHECKER (R172). -/
def execClaimChecker (f : Frame) (s : State) : Host.Outcome State Fault Refusal := finish (command 0x63 claimChecker f s)

/-- A command of a checker's holder alone (R172, R175). -/
def holderCommand (p : Port) (pl : List Word) (s : State) (k : Fin 2 → State × Answer) : State × Answer :=
  match fin? 2 (arg pl 0) with
  | none => (s, refuse .badValue)
  | some i => if (s.checker i).claim = some p then k i else (s, refuse .notOwner)

/-- A released checker keeps its channel, hypothesis and counters (R172). -/
def Checker.release (c : Checker) : Checker := { c with state := .idle, claim := none }

/-- RELEASE CHECKER (R172). -/
def releaseChecker (p : Port) (pl : List Word) (s : State) : State × Answer :=
  holderCommand p pl s fun i => (s.modChecker i Checker.release, (.ok, []))

/-- RELEASE_CHECKER (R172). -/
def execReleaseChecker (f : Frame) (s : State) : Host.Outcome State Fault Refusal :=
  finish (command 0x66 releaseChecker f s)

/-- READ CHECKER, from any port (R175). -/
def readChecker (_ : Port) (pl : List Word) (s : State) : State × Answer :=
  match fin? 2 (arg pl 0) with
  | none => (s, refuse .badValue)
  | some i => (s, (.ok, checkerWords (s.checker i)))

/-- READ_CHECKER (R175). -/
def execReadChecker (f : Frame) (s : State) : Host.Outcome State Fault Refusal := finish (command 0x64 readChecker f s)

/-- The three actions of CHECKER CONTROL, codes 0 to 2 (R175). -/
inductive CheckerAction where
  | freeze | unfreeze | clear
  deriving DecidableEq, Repr

def CheckerAction.code : CheckerAction → Word
  | .freeze => 0 | .unfreeze => 1 | .clear => 2

def CheckerAction.act (a : CheckerAction) (c : Checker) : Checker :=
  match a with
  | .freeze => { c with frozen := true }
  | .unfreeze => { c with frozen := false }
  | .clear => { c with checked := 0, errors := 0 }

/-- CHECKER CONTROL with an action (R175): checker number and action code, then the holder. -/
def checkerControl (a : CheckerAction) (p : Port) (pl : List Word) (s : State) : State × Answer :=
  if arg pl 1 ≠ a.code then (s, refuse .badValue)
  else holderCommand p pl s fun i =>
    (s.modChecker i a.act, (.ok, checkerCounts (a.act (s.checker i))))

/-- The frame's action word is another row's: the frame is that row's event, not this one's (log 2). -/
def otherAction (f : Frame) (a : CheckerAction) : Bool :=
  match checkFrame 0x65 f.body with
  | .accepted pl => arg pl 1 != a.code && decide ((arg pl 1).toNat ≤ 2)
  | .refused _ => false

def checkerRow (a : CheckerAction) (f : Frame) (s : State) : State :=
  if otherAction f a then s else command 0x65 (checkerControl a) f s

/-- CHECKER_FREEZE (R175). -/
def execCheckerFreeze (f : Frame) (s : State) : Host.Outcome State Fault Refusal := finish (checkerRow .freeze f s)

/-- CHECKER_UNFREEZE (R175). -/
def execCheckerUnfreeze (f : Frame) (s : State) : Host.Outcome State Fault Refusal := finish (checkerRow .unfreeze f s)

/-- CHECKER_CLEAR (R175). -/
def execCheckerClear (f : Frame) (s : State) : Host.Outcome State Fault Refusal := finish (checkerRow .clear f s)

end Sys2Proof.Machine
end

