-- ==== Sys2Proof/Machine/Lane.lean ====
section
/-! DEFINITION. The input lane, clock loss and return, and the output frame (01_sample_flow_and_playout). -/

namespace Sys2Proof.Machine

/-- The sample number of position i of block k (R3). -/
def sampleNumber (k : Block) (i : Nat) : Block := k * 32 + BitVec.ofNat 32 i

/-- The output frame of the frame sync just seen (R12). -/
def startOutput (s : State) : State :=
  { s with lane := { s.lane with output := some s.outputFrame, frameOpen := true, silentTicks := 0 } }

/-- FRAME_SYNC (R12, R2, R8): in RUNNING a frame sync sets the silent-tick count to 0 and starts an output frame at the
position in progress; an early one leaves that position to be filled again. -/
def execFrameSync (s : State) : Host.Outcome State Fault Refusal :=
  finish (if s.lane.state = .running then startOutput s else s)

/-- INTERFACE_START (R10). -/
def execInterfaceStart (s : State) : Host.Outcome State Fault Refusal :=
  finish (if s.lane.state = .waiting then
      startOutput { s with lane := { s.lane with state := .running, zeroPeriod := true } }
    else s)

/-- The lane at the clock-return event (R9). -/
def Lane.clockReturn (l : Lane) : Lane :=
  { l with state := .running, validFrom := l.blockCounter + 1, rings := zeroRings, zeroPeriod := true }

/-- CLOCK_RETURN (R9, R42, R83, R95). -/
def execClockReturn (s : State) : Host.Outcome State Fault Refusal :=
  finish (if s.lane.state = .lost then
      let s := { s with lane := s.lane.clockReturn, profiles := vmap Profile.clockReturn s.profiles }
      (startOutput (controllerClockReturn (removeRoutes s))).notifyAll .clockBack
    else s)

/-! ### Frames and blocks (R1, R3 to R6) -/

/-- The generator and the checkers take the frame event (R1, R169, R173, R174). -/
def frameEvent (frame : LaneFrame) (s : State) : State :=
  let number := sampleNumber (s.lane.blockCounter + 1) s.lane.position.val
  ([0, 1] : List (Fin 2)).foldl (checkerFrame frame) { s with gen := s.gen.frame number }

/-- The lane's own part of a block event, the thirty-two frames of the block given (R3, R5, R6). -/
def Lane.blockEvent (l : Lane) (frames : List LaneFrame) : Lane :=
  let k := l.blockCounter + 1
  { l with
    blockCounter := k
    rings := frames :: l.rings.take 7
    assembly := []
    position := 0
    zeroPeriod := false
    validFrom := if k + 1 - l.validFrom = 0x80000000 then k - 7 else l.validFrom }

/-! ### The housekeeping tick and clock loss (R8, R183) -/

/-- A running keep-alive countdown decreases (R183). -/
def PortState.tick (ps : PortState) : PortState :=
  if ps.keepPeriod ≠ 0 ∧ ps.countdown ≠ 0 then { ps with countdown := ps.countdown - 1 } else ps

/-- HOUSEKEEPING_TICK (R8, R183). -/
def execHousekeepingTick (s : State) : Host.Outcome State Fault Refusal :=
  finish { s with
    lane := { s.lane with silentTicks := if s.lane.silentTicks.val < Config.silentLimit then s.lane.silentTicks + 1
                                         else s.lane.silentTicks }
    ports := vmap PortState.tick s.ports }

/-- The generator withdraws the samples of the discarded frames (R170). -/
def withdrawBlock (l : Lane) (g : Generator) : Generator :=
  (List.range l.position.val).foldl (fun g i => g.withdraw (sampleNumber (l.blockCounter + 1) i)) g

/-- The lane at the clock-loss event (R8). -/
def Lane.clockLoss (l : Lane) : Lane :=
  { l with state := .lost, assembly := [], position := 0, frameOpen := false, output := none }

/-- CLOCK_LOSS (R8, R170): the silent-tick count has reached 4 in RUNNING. -/
def execClockLoss (s : State) : Host.Outcome State Fault Refusal :=
  finish (if s.lane.state = .running ∧ s.lane.silentTicks.val = Config.silentLimit then
      { s with lane := s.lane.clockLoss, gen := withdrawBlock s.lane s.gen }.notifyAll .clockLost
    else s)

end Sys2Proof.Machine
end

