-- ==== Sys2Proof/Machine/PortCommands.lean ====
section
/-! DEFINITION. Identification, notices, keep-alive, port reset and power-on reset (10_client_ports). -/

namespace Sys2Proof.Machine

/-- IDENTIFY (R188). -/
def execIdentify (f : Frame) (s : State) : Host.Outcome State Fault Refusal :=
  finish (command 0x70 (fun _ _ s => (s, (.ok, [0x4D52, 0x0416, 1]))) f s)

/-- READ DEVICE (R188). -/
def readDevice (_ : Port) (_ : List Word) (s : State) : State × Answer :=
  (s, (.ok, words32 s.lane.blockCounter ++ [boolWord s.clockPresent] ++ words32 s.lane.validFrom))

/-- READ_DEVICE (R188). -/
def execReadDevice (f : Frame) (s : State) : Host.Outcome State Fault Refusal := finish (command 0x74 readDevice f s)

/-- FETCH NOTICES (R182). -/
def fetchNotices (p : Port) (_ : List Word) (s : State) : State × Answer :=
  (s.modPort p fun ps => { ps with notices := .empty }, (.ok, noticeWords (s.port p).notices))

/-- FETCH_NOTICES (R182). -/
def execFetchNotices (f : Frame) (s : State) : Host.Outcome State Fault Refusal := finish (command 0x71 fetchNotices f s)

/-- A keep-alive period: 0, or 10 to 60000 (R183). -/
def periodAllowed (w : Word) : Bool := w == 0 || (decide (10 ≤ w.toNat) && decide (w.toNat ≤ 60000))

/-- SET KEEPALIVE (R183). -/
def setKeepalive (p : Port) (pl : List Word) (s : State) : State × Answer :=
  if periodAllowed (arg pl 0) then
    (s.modPort p fun ps => { ps with keepPeriod := arg pl 0, countdown := arg pl 0 }, (.ok, []))
  else (s, refuse .badValue)

/-- SET_KEEPALIVE (R183). -/
def execSetKeepalive (f : Frame) (s : State) : Host.Outcome State Fault Refusal := finish (command 0x72 setKeepalive f s)

/-! ### Port reset (R185) -/

/-- Step 1: the reply queue and the notice sets. -/
def resetReplies (p : Port) (s : State) : State :=
  s.modPort p fun ps => { ps with replies := [], notices := .empty }

/-- Step 2: the job queue, the job pass and the context (R148). -/
def resetJobs (p : Port) (s : State) : State :=
  { s with engine := discardPass p s.engine }.modPort p fun ps => { ps with jobs := [], ctxRun := none, ctx := .initial }

/-- Step 5 on one profile: the port leaves the followers, and gives up the lead with loss of leader (R26, R110). -/
def leaveProfile (p : Port) (s : State) (n : ProfileId) : State :=
  let s := s.modProfile n fun r => { r with followers := eraseBit r.followers p.val }
  let r := s.profile n
  if r.state = .bound ∧ r.leader = some p then
    lossOfLeader n ((s.modProfile n fun r => { r with leader := none }).notifySet r.followers (.leaderless n))
  else s

/-- Step 5: memberships and leaderships. -/
def leaveProfiles (p : Port) (s : State) : State := allProfiles.foldl (leaveProfile p) s

/-- Step 5: the owned slots (R57). -/
def freeSlots (p : Port) (s : State) : State :=
  { s with slots := vmap (fun t => if t.owner = some p then t.free else t) s.slots }

/-- Step 6: the generator and checker claims (R171, R172). -/
def releaseClaims (p : Port) (s : State) : State :=
  let s := if s.gen.claim = some p then dropGenerator s else s
  { s with checkers := vmap (fun c => if c.claim = some p then c.release else c) s.checkers }

/-- Step 7: keep-alive off, reset-occurred set. -/
def resetFlags (p : Port) (s : State) : State :=
  s.modPort p fun ps => { ps with keepPeriod := 0, countdown := 0, resetOccurred := true }

/-- A port reset, in the order of R185. -/
def portReset (p : Port) (s : State) : State :=
  resetFlags p (releaseClaims p (freeSlots p (leaveProfiles p (closeWindows p (stopMoves p (resetJobs p
    (resetReplies p s)))))))

/-- PORT_RESET (R184): its reply is the one reply left in the queue. -/
def execPortReset (f : Frame) (s : State) : Host.Outcome State Fault Refusal :=
  finish (command 0x73 (fun p _ s => (portReset p s, (.ok, []))) f s)

/-- A transaction in progress at a port reset: its outbound words from here on are padding (R176), and the reset-occurred
just set is shown by a later status word (R179). -/
def Transaction.cut (t : Transaction) (wordsOut : Nat) : Transaction :=
  ⟨t.outbound.take wordsOut, false, t.showedOverrun && decide (0 < wordsOut), false⟩

/-- The countdown of a port has run out (R183). -/
def PortState.expired (ps : PortState) : Bool := ps.keepPeriod != 0 && ps.countdown == 0

/-- KEEPALIVE_EXPIRY (R183): a port reset with no reply. -/
def execKeepaliveExpiry (p : Port) (wordsOut : Nat) (s : State) : Host.Outcome State Fault Refusal :=
  finish (if (s.port p).expired then
      (portReset p s).modPort p fun ps => { ps with spi := ps.spi.map fun t => t.cut wordsOut }
    else s)

/-- POWER_ON_RESET (R17, R18, R45, R85, R112, R113, R128, R150, R164, R172, R186): every field as State.reset has it, but
for the queue and the count of free choices, which are the model's own.
A port whose chip-select is low at the release ignores that transaction (R186). -/
def execPowerOnReset (low : BitVec 4) (s : State) : Host.Outcome State Fault Refusal :=
  finish (allPorts.foldl
    (fun s (p : Port) => if low.getLsbD p.val then s.modPort p fun ps => { ps with ignoring := true } else s)
    { State.reset with choices := s.choices, pending := s.pending })

end Sys2Proof.Machine
end

