-- ==== Sys2Proof/Machine/BlockEvent.lean ====
section
/-! DEFINITION. FRAME_TAKEN and the block event: its parts, and what falls between them (R1, R3, R4, R50, R51, R55). -/

namespace Sys2Proof.Machine

/-! ### What falls between the parts of a block event -/

/-- The meaning of a frame by the code of its header (10.3, R177): code 0 is a poll, and CHECKER CONTROL is told by its action
word. -/
def execFrame (code : Byte) (f : Frame) (s : State) : Host.Outcome State Fault Refusal :=
  match code.toNat with
  | 0x00 => execPoll f s
  | 0x10 => execCreate f s
  | 0x11 => execDelete f s
  | 0x12 => execLead f s
  | 0x13 => execRelease f s
  | 0x14 => execFollow f s
  | 0x15 => execUnfollow f s
  | 0x16 => execReadProfile f s
  | 0x17 => execWriteCandidate f s
  | 0x18 => execCommit f s
  | 0x19 => execSetFields f s
  | 0x1A => execAdapt f s
  | 0x1B => execAbortAdapt f s
  | 0x1C => execFreeze f s
  | 0x1D => execClearFlags f s
  | 0x20 => execClaimSlot f s
  | 0x21 => execFreeSlot f s
  | 0x22 => execRoute f s
  | 0x23 => execMute f s
  | 0x24 => execReadSlot f s
  | 0x30 => execOpenWindow f s
  | 0x31 => execCloseWindow f s
  | 0x32 => execWriteWords f s
  | 0x33 => execReadWords f s
  | 0x34 => execMove f s
  | 0x35 => execMoveStatus f s
  | 0x40 => execDot f s
  | 0x41 => execEnergy f s
  | 0x42 => execPeak f s
  | 0x43 => execSweep f s
  | 0x44 => execPush f s
  | 0x45 => execDrop f s
  | 0x46 => execScale f s
  | 0x47 => execStore f s
  | 0x50 => execSave f s
  | 0x51 => execSaveNow f s
  | 0x52 => execSaveEnv f s
  | 0x53 => execRestore f s
  | 0x54 => execRestoreEnv f s
  | 0x55 => execClearExceptions f s
  | 0x56 => execSetControl f s
  | 0x57 => execReadContextStatus f s
  | 0x60 => execClaimGenerator f s
  | 0x61 => execSetGenerator f s
  | 0x62 => execReleaseGenerator f s
  | 0x63 => execClaimChecker f s
  | 0x64 => execReadChecker f s
  | 0x65 => match f.actionWord.toNat with
    | 1 => execCheckerUnfreeze f s
    | 2 => execCheckerClear f s
    | _ => execCheckerFreeze f s
  | 0x66 => execReleaseChecker f s
  | 0x70 => execIdentify f s
  | 0x71 => execFetchNotices f s
  | 0x72 => execSetKeepalive f s
  | 0x73 => execPortReset f s
  | 0x74 => execReadDevice f s
  | _ => execUnknownCommand code f s

/-- The meaning of what falls within a block event: that of its own row. -/
def execInner (e : Inner) (s : State) : Host.Outcome State Fault Refusal :=
  match e with
  | .arbiterStart => execArbiterStart s
  | .macStepEnd => execMacStepEnd s
  | .passSuspended => execPassSuspended s
  | .stepDrained => execStepDrained s
  | .routePassComplete => execRoutePassComplete s
  | .probePassComplete => execProbePassComplete s
  | .jobPassEnd => execJobPassEnd s
  | .commitCopy n => execCommitCopy n s
  | .profileFreed n => execProfileFreed n s
  | .moveTurn => execMoveTurn s
  | .moveWordCopy => execMoveWordCopy s
  | .contextOpStart p => execContextOpStart p s
  | .contextWordTransfer p => execContextWordTransfer p s
  | .housekeepingTick => execHousekeepingTick s
  | .keepaliveExpiry p n => execKeepaliveExpiry p n s
  | .transactionStart p => execTransactionStart p s
  | .transactionOfNoWholeWord p => execTransactionOfNoWholeWord p s
  | .frame code f => execFrame code f s

/-- The state a meaning leaves; no meaning of the part stops it. -/
def stateAfter (o : Host.Outcome State Fault Refusal) (s : State) : State :=
  match o with
  | .next t => t
  | .fault _ | .refused _ => s

/-! ### The parts of a block event (R4) -/

/-- A block event in progress: the state, how many turns the engine has had, the profiles the controller has treated, those that
have flipped, and the slots for which the slot map has taken the event. -/
structure EventRun where
  state   : State
  engine  : Nat
  treated : List ProfileId
  flipped : List ProfileId
  slots   : List SlotId
  deriving DecidableEq, Repr

/-- The slot map takes block event k for slot i, once (R50). -/
def EventRun.takeSlot (k : Block) (r : EventRun) (i : SlotId) : EventRun :=
  if r.slots.contains i then r else { r with state := slotEvent k r.state i, slots := i :: r.slots }

/-- One moment of block event k. Each profile has one turn of the controller and each slot one of the slot map, and a flip that is
not due does nothing. -/
def EventRun.take (k : Block) (r : EventRun) (m : Moment) : EventRun :=
  match m with
  | .engine => { r with state := engineTurn k r.slots r.engine r.state, engine := r.engine + 1 }
  | .controller n =>
    if r.treated.contains n then r
    else { r with state := controllerEvent k r.flipped r.state n, treated := n :: r.treated }
  | .flip n => { r with
      state := bankFlip k r.state n
      flipped := if (r.state.profile n).flipsAt k then n :: r.flipped else r.flipped }
  | .slot i => r.takeSlot k i
  | .inner e => { r with state := stateAfter (execInner e r.state) r.state }

/-- What is left of block event k after the moments the world gave: the engine, the controller, the bank flips, the slots. -/
def EventRun.finish (k : Block) (r : EventRun) : State :=
  slotMapEvent k r.slots (bankFlips k (controllerBlockEvent k r.treated r.flipped (engineRest k r.slots r.engine r.state)))

/-- The other blocks take block event k in the order the world gives (R4). -/
def blockEventTaken (k : Block) (within : List Moment) (s : State) : State :=
  (within.foldl (EventRun.take k) ⟨s, 0, [], [], []⟩).finish k

/-! ### FRAME_TAKEN (R1, R3) -/

/-- The frame enters the assembly buffer; the thirty-second completes the block (R1, R3). -/
def takeFrame (frame : LaneFrame) (within : List Moment) (s : State) : State :=
  let l := { s.lane with frameOpen := false, output := none }
  if l.position = 31 then
    let l := l.blockEvent (l.assembly ++ [frame])
    blockEventTaken l.blockCounter within { s with lane := l }
  else { s with lane := { l with assembly := l.assembly ++ [frame], position := l.position + 1 } }

/-- FRAME_TAKEN (R1): the 256th bit of the frame in progress. Before position 31 there is no block event, and the order says
nothing. -/
def execFrameTaken (frame : TakenFrame) (s : State) : Host.Outcome State Fault Refusal :=
  finish (if s.lane.state = .running ∧ s.lane.frameOpen then
    takeFrame frame.samples frame.within (frameEvent frame.samples s) else s)

end Sys2Proof.Machine
end

