-- ==== Sys2Proof/Machine/Dispatch.lean ====
section
/-! DEFINITION. The command or event of every row to its meaning. -/

namespace Sys2Proof.Machine

/-- The effect of one command or event on everything but the queue. -/
def exec (i : Instr) (s : State) : Host.Outcome State Fault Refusal :=
  match i with
  | .powerOnReset low => Sys2Proof.Machine.execPowerOnReset low s
  | .frameSync => Sys2Proof.Machine.execFrameSync s
  | .interfaceStart => Sys2Proof.Machine.execInterfaceStart s
  | .clockReturn => Sys2Proof.Machine.execClockReturn s
  | .frameTaken frame => Sys2Proof.Machine.execFrameTaken frame s
  | .housekeepingTick => Sys2Proof.Machine.execHousekeepingTick s
  | .clockLoss => Sys2Proof.Machine.execClockLoss s
  | .keepaliveExpiry p n => Sys2Proof.Machine.execKeepaliveExpiry p n s
  | .arbiterStart => Sys2Proof.Machine.execArbiterStart s
  | .macStepEnd => Sys2Proof.Machine.execMacStepEnd s
  | .passSuspended => Sys2Proof.Machine.execPassSuspended s
  | .stepDrained => Sys2Proof.Machine.execStepDrained s
  | .routePassComplete => Sys2Proof.Machine.execRoutePassComplete s
  | .probePassComplete => Sys2Proof.Machine.execProbePassComplete s
  | .jobPassEnd => Sys2Proof.Machine.execJobPassEnd s
  | .commitCopy n => Sys2Proof.Machine.execCommitCopy n s
  | .profileFreed n => Sys2Proof.Machine.execProfileFreed n s
  | .moveTurn => Sys2Proof.Machine.execMoveTurn s
  | .moveWordCopy => Sys2Proof.Machine.execMoveWordCopy s
  | .contextOpStart p => Sys2Proof.Machine.execContextOpStart p s
  | .contextWordTransfer p => Sys2Proof.Machine.execContextWordTransfer p s
  | .transactionStart p => Sys2Proof.Machine.execTransactionStart p s
  | .poll f => Sys2Proof.Machine.execPoll f s
  | .unknownCommand c f => Sys2Proof.Machine.execUnknownCommand c f s
  | .create f => Sys2Proof.Machine.execCreate f s
  | .delete f => Sys2Proof.Machine.execDelete f s
  | .lead f => Sys2Proof.Machine.execLead f s
  | .release f => Sys2Proof.Machine.execRelease f s
  | .follow f => Sys2Proof.Machine.execFollow f s
  | .unfollow f => Sys2Proof.Machine.execUnfollow f s
  | .readProfile f => Sys2Proof.Machine.execReadProfile f s
  | .writeCandidate f => Sys2Proof.Machine.execWriteCandidate f s
  | .commit f => Sys2Proof.Machine.execCommit f s
  | .setFields f => Sys2Proof.Machine.execSetFields f s
  | .adapt f => Sys2Proof.Machine.execAdapt f s
  | .abortAdapt f => Sys2Proof.Machine.execAbortAdapt f s
  | .freeze f => Sys2Proof.Machine.execFreeze f s
  | .clearFlags f => Sys2Proof.Machine.execClearFlags f s
  | .claimSlot f => Sys2Proof.Machine.execClaimSlot f s
  | .freeSlot f => Sys2Proof.Machine.execFreeSlot f s
  | .route f => Sys2Proof.Machine.execRoute f s
  | .mute f => Sys2Proof.Machine.execMute f s
  | .readSlot f => Sys2Proof.Machine.execReadSlot f s
  | .openWindow f => Sys2Proof.Machine.execOpenWindow f s
  | .closeWindow f => Sys2Proof.Machine.execCloseWindow f s
  | .writeWords f => Sys2Proof.Machine.execWriteWords f s
  | .readWords f => Sys2Proof.Machine.execReadWords f s
  | .move f => Sys2Proof.Machine.execMove f s
  | .moveStatus f => Sys2Proof.Machine.execMoveStatus f s
  | .dot f => Sys2Proof.Machine.execDot f s
  | .energy f => Sys2Proof.Machine.execEnergy f s
  | .peak f => Sys2Proof.Machine.execPeak f s
  | .sweep f => Sys2Proof.Machine.execSweep f s
  | .push f => Sys2Proof.Machine.execPush f s
  | .drop f => Sys2Proof.Machine.execDrop f s
  | .scale f => Sys2Proof.Machine.execScale f s
  | .store f => Sys2Proof.Machine.execStore f s
  | .save f => Sys2Proof.Machine.execSave f s
  | .saveNow f => Sys2Proof.Machine.execSaveNow f s
  | .saveEnv f => Sys2Proof.Machine.execSaveEnv f s
  | .restore f => Sys2Proof.Machine.execRestore f s
  | .restoreEnv f => Sys2Proof.Machine.execRestoreEnv f s
  | .clearExceptions f => Sys2Proof.Machine.execClearExceptions f s
  | .setControl f => Sys2Proof.Machine.execSetControl f s
  | .readContextStatus f => Sys2Proof.Machine.execReadContextStatus f s
  | .claimGenerator f => Sys2Proof.Machine.execClaimGenerator f s
  | .setGenerator f => Sys2Proof.Machine.execSetGenerator f s
  | .releaseGenerator f => Sys2Proof.Machine.execReleaseGenerator f s
  | .claimChecker f => Sys2Proof.Machine.execClaimChecker f s
  | .releaseChecker f => Sys2Proof.Machine.execReleaseChecker f s
  | .readChecker f => Sys2Proof.Machine.execReadChecker f s
  | .checkerFreeze f => Sys2Proof.Machine.execCheckerFreeze f s
  | .checkerUnfreeze f => Sys2Proof.Machine.execCheckerUnfreeze f s
  | .checkerClear f => Sys2Proof.Machine.execCheckerClear f s
  | .identify f => Sys2Proof.Machine.execIdentify f s
  | .fetchNotices f => Sys2Proof.Machine.execFetchNotices f s
  | .setKeepalive f => Sys2Proof.Machine.execSetKeepalive f s
  | .portReset f => Sys2Proof.Machine.execPortReset f s
  | .readDevice f => Sys2Proof.Machine.execReadDevice f s
  | .transactionOfNoWholeWord p => Sys2Proof.Machine.execTransactionOfNoWholeWord p s

end Sys2Proof.Machine
end

