-- ==== Sys2Proof/Machine/Step.lean ====
section
/-! DEFINITION. One step of the part: the command or event at the front of the queue (log 1). -/

namespace Sys2Proof.Machine

/-- Takes the front of the queue; an empty queue leaves the part as it is. -/
def step (s : State) : Host.Outcome State Fault Refusal :=
  match s.pending with
  | [] => .next s
  | c :: rest => exec c { s with pending := rest }

/-- The state after a console has clocked these whole words in one transaction on a port: the row they spell waits last (R177). -/
def State.withTransaction (s : State) (p : Port) (words : List Word) : State :=
  { s with pending := s.pending ++ [.ofTransaction p words] }

/-- The state with the command a table word spells put in front of its queue; with none it is unchanged. -/
def State.withFetchWord (s : State) (nbits w : Nat) : State :=
  match decodeTableWord nbits w with
  | some c => { s with pending := c :: s.pending }
  | none => s

end Sys2Proof.Machine
end

