-- ==== Sys2Proof/WellFormed.lean ====
section
/-! DEFINITION. Well-formed commands: a command row's frame is one that R177 lets through to the row's own command. -/

namespace Sys2Proof

open Machine

/-- The command code of a row's frame and the frame (10.3); none for a row that is no client command. -/
def Instr.command? : Instr → Option (Byte × Frame)
  | .create f => some (0x10, f)
  | .delete f => some (0x11, f)
  | .lead f => some (0x12, f)
  | .release f => some (0x13, f)
  | .follow f => some (0x14, f)
  | .unfollow f => some (0x15, f)
  | .readProfile f => some (0x16, f)
  | .writeCandidate f => some (0x17, f)
  | .commit f => some (0x18, f)
  | .setFields f => some (0x19, f)
  | .adapt f => some (0x1A, f)
  | .abortAdapt f => some (0x1B, f)
  | .freeze f => some (0x1C, f)
  | .clearFlags f => some (0x1D, f)
  | .claimSlot f => some (0x20, f)
  | .freeSlot f => some (0x21, f)
  | .route f => some (0x22, f)
  | .mute f => some (0x23, f)
  | .readSlot f => some (0x24, f)
  | .openWindow f => some (0x30, f)
  | .closeWindow f => some (0x31, f)
  | .writeWords f => some (0x32, f)
  | .readWords f => some (0x33, f)
  | .move f => some (0x34, f)
  | .moveStatus f => some (0x35, f)
  | .dot f => some (0x40, f)
  | .energy f => some (0x41, f)
  | .peak f => some (0x42, f)
  | .sweep f => some (0x43, f)
  | .push f => some (0x44, f)
  | .drop f => some (0x45, f)
  | .scale f => some (0x46, f)
  | .store f => some (0x47, f)
  | .save f => some (0x50, f)
  | .saveNow f => some (0x51, f)
  | .saveEnv f => some (0x52, f)
  | .restore f => some (0x53, f)
  | .restoreEnv f => some (0x54, f)
  | .clearExceptions f => some (0x55, f)
  | .setControl f => some (0x56, f)
  | .readContextStatus f => some (0x57, f)
  | .claimGenerator f => some (0x60, f)
  | .setGenerator f => some (0x61, f)
  | .releaseGenerator f => some (0x62, f)
  | .claimChecker f => some (0x63, f)
  | .releaseChecker f => some (0x66, f)
  | .readChecker f => some (0x64, f)
  | .checkerFreeze f => some (0x65, f)
  | .checkerUnfreeze f => some (0x65, f)
  | .checkerClear f => some (0x65, f)
  | .identify f => some (0x70, f)
  | .fetchNotices f => some (0x71, f)
  | .setKeepalive f => some (0x72, f)
  | .portReset f => some (0x73, f)
  | .readDevice f => some (0x74, f)
  | .powerOnReset _ | .frameSync | .interfaceStart | .clockReturn | .frameTaken _ | .housekeepingTick
  | .clockLoss | .keepaliveExpiry _ _ | .arbiterStart | .macStepEnd | .passSuspended | .stepDrained
  | .routePassComplete | .probePassComplete | .jobPassEnd | .commitCopy _ | .profileFreed _ | .moveTurn
  | .moveWordCopy | .contextOpStart _ | .contextWordTransfer _ | .transactionStart _ | .poll _
  | .unknownCommand _ _ | .transactionOfNoWholeWord _ => none

/-- The payload of a frame that passes the frame check of a command code. -/
def Frame.payload? (f : Frame) (code : Byte) : Option (List Word) :=
  match checkFrame code f.body with
  | .accepted pl => some pl
  | .refused _ => none

/-- The three rows of CHECKER CONTROL are told apart by their action word (R175). -/
def Instr.action? : Instr → Option CheckerAction
  | .checkerFreeze _ => some .freeze
  | .checkerUnfreeze _ => some .unfreeze
  | .checkerClear _ => some .clear
  | _ => none

/-- A frame refused by R177 that is not a poll. -/
def Frame.refused (f : Frame) (code : Byte) : Bool := code != 0 && (f.payload? code).isNone

/-- A well-formed command or event. -/
def Instr.wf (i : Instr) : Bool :=
  match i.command?, i with
  | some (code, f), _ => match f.payload? code, i.action? with
    | some pl, some a => arg pl 1 == a.code
    | some _, none => true
    | none, _ => false
  | none, .unknownCommand code f => f.refused code
  | none, _ => true

end Sys2Proof
end

