-- ==== Sys2Proof/Safety.lean ====
section
/-! DEFINITION. What safe means for the part, when a frame's command is taken, and the invariants every step keeps. -/

namespace Sys2Proof

/-- The frame carries a payload: its length word, the payload, and padding of zeros (R177). -/
def Frame.Carries (f : Frame) (pl : List Word) : Prop :=
  pl.length ≤ 62 ∧ ∃ k, f.body = Machine.natWord pl.length :: (pl ++ List.replicate k 0)

end Sys2Proof

namespace Sys2Proof.Machine

/-- A step is safe when it goes on: neither a fault nor a refusal. -/
def State.Safe (s : State) : Prop := ∃ t, step s = .next t

/-- The command of a frame with this payload is taken when the frame arrives (R177, R178): the port does not ignore the
transaction, and after the rise of chip-select its reply queue has a place. -/
def State.Takes (s : State) (f : Frame) (pl : List Word) : Prop :=
  f.Carries pl ∧ (s.port f.port).ignoring = false
    ∧ ((receive f s).port f.port).replies.length < Config.replyLimit

/-- What becomes of a job command whose operands are in range (R130): it is queued at the tail, WAITING, and ACCEPTED with the
number of entries; or refused TOO_LONG, NO_SUCH or FULL, in that order. `out` is what exec answers. -/
def State.QueuesJob (s : State) (f : Frame) (code : Byte) (job : Job) (out : Host.Outcome State Fault Refusal) : Prop :=
  let r := receive f s
  let opened : Prop := ∀ nm ∈ job.windows, (s.windowOf (nm.of f.port)).isSome = true
  let refused (st : Status) : Prop := out = .next (r.reply f.port code f.tag (st, []))
  (job.count ≤ Config.countLimit → opened → (s.port f.port).jobs.length < Config.jobLimit →
      out = .next ((r.modPort f.port fun ps => { ps with jobs := ps.jobs ++ [⟨.job job, .waiting⟩] }).reply f.port code
        f.tag (.accepted, [natWord ((s.port f.port).jobs.length + 1)])))
    ∧ (Config.countLimit < job.count → refused .tooLong)
    ∧ (job.count ≤ Config.countLimit → ¬ opened → refused .noSuch)
    ∧ (job.count ≤ Config.countLimit → opened → Config.jobLimit ≤ (s.port f.port).jobs.length → refused .full)

/-- What becomes of a queued context command that names a window and an offset up to 32767 (R152): it is queued, or refused
NO_SUCH, ACCESS, PENDING or FULL, in that order. -/
def State.QueuesContext (s : State) (f : Frame) (code : Byte) (op : ContextOp) (plc : Place)
    (out : Host.Outcome State Fault Refusal) : Prop :=
  let r := receive f s
  let ps := s.port f.port
  let refused (st : Status) : Prop := out = .next (r.reply f.port code f.tag (st, []))
  let held : Prop := op = .save ∧ ps.ctx.errorPending = true ∧ ps.jobs = []
  (s.windowOf (plc.name.of f.port) = none → refused .noSuch)
    ∧ ∀ w, s.windowOf (plc.name.of f.port) = some w →
      (w.length < plc.offset + op.words → refused .access)
      ∧ (plc.offset + op.words ≤ w.length →
        (held → refused .pending)
        ∧ (¬ held → Config.jobLimit ≤ ps.jobs.length → refused .full)
        ∧ (¬ held → ps.jobs.length < Config.jobLimit →
          out = .next ((r.modPort f.port fun ps => { ps with jobs := ps.jobs ++ [⟨.context op plc, .waiting⟩] }).reply
            f.port code f.tag (.accepted, [natWord (ps.jobs.length + 1)]))))

/-! ### What the adaptation controller does next -/

/-- The two records agree in what the controller writes (5.1). -/
def Profile.SameAdaptation (p r : Profile) : Prop :=
  p.adapt = r.adapt ∧ p.search = r.search ∧ p.candidate = r.candidate ∧ p.lastOutcome = r.lastOutcome
    ∧ p.restartRun = r.restartRun ∧ p.probesRun = r.probesRun ∧ p.probeRef = r.probeRef

/-- The leader and every follower of the record have ADAPT_DONE for profile n. -/
def State.ToldDone (t : State) (n : ProfileId) (p : Profile) : Prop :=
  ∀ q : Port, (p.leader = some q ∨ p.followers.getLsbD q.val = true) → (t.port q).notices.adaptDone.getLsbD n.val = true

/-- In state t the adaptation of profile n, from record p, has failed with this outcome (R103). -/
def State.Fails (t : State) (n : ProfileId) (p : Profile) (o : Outcome) : Prop :=
  (t.profile n).SameAdaptation { p with
      candidate := p.liveSet, lastOutcome := o, adapt := .idle, probeRef := false
      search := { p.search with phase := .none, window := none } }
    ∧ (∀ x ∈ t.engine.probes, x.profile ≠ n) ∧ t.ToldDone n p

/-- In state t the adaptation of profile n, from record p, has succeeded and started its commit (R101). -/
def State.Succeeds (t : State) (n : ProfileId) (p : Profile) (origin : CommitOrigin) : Prop :=
  let q := t.profile n
  q.SameAdaptation { p with
      adapt := .committing, search := { p.search with origin := origin, continueAfter := true } }
    ∧ (∀ x ∈ t.engine.probes, x.profile ≠ n)
    ∧ q.bank p.live = p.bank p.live
    ∧ (p.refs p.spare ≠ 0 → q.stage = .waitingSpare ∧ q.bank p.spare = p.bank p.spare)
    ∧ (p.refs p.spare = 0 → q.stage = .waitingFlip ∧ q.flipEvent = some (t.lane.blockCounter + 1)
        ∧ q.bank p.spare = ⟨p.candidate, p.generation + 1⟩)

/-- The record needs the evaluation of this trial set by this selection (R92, R97, R99, R105). -/
def Profile.Needs (p : Profile) (trial : CoeffSet) (sel : SelectionKind) : Prop :=
  let q := p.search
  let weighted (ws : Vector (Fin 32) 5) : CoeffSet := { p.candidate with weights := vset ws q.tap q.trial }
  ((p.adapt = .searchShape ∨ p.adapt = .searchReshape) ∧ sel = .shaping
      ∧ trial = { p.candidate with emphasis := Fin.ofNat 16 q.trial.val })
    ∨ (p.adapt = .searchTrim ∧ sel = .trim ∧ trial = weighted p.candidate.weights)
    ∨ (p.adapt = .tracking ∧ q.phase = .round ∧ sel = .trim
      ∧ ((q.currentFom = none ∧ trial = p.candidate) ∨ (q.currentFom ≠ none ∧ trial = weighted q.roundWeights)))

/-- The window of a probe of this record that ends at block b (R92): the trial sets of a record have its candidate's taps. -/
def Profile.windowTo (p : Profile) (b : Block) : ProbeWindow :=
  ⟨b, b - BitVec.ofNat 32 ((p.config.probeLength.samples + max p.candidate.tapCount.val 1 + 31) / 32) + 1⟩

/-- In state t the controller has made the attempt of R92 at the evaluation that record p of profile n needs: with a generator
target and the generator OFF the adaptation has ended NO_TARGET; else the probe is queued when clock and history allow it, and the
evaluation waits when they do not. -/
def State.Attempts (t : State) (n : ProfileId) (p : Profile) : Prop :=
  ∃ trial sel, p.Needs trial sel ∧
    let w := p.windowTo t.lane.blockCounter
    let able : Prop := (∀ lag, p.config.target ≠ .generator lag) ∨ t.gen.running = true
    let allowed : Prop := t.lane.state = .running ∧ atOrAfter w.oldest t.lane.validFrom t.lane.blockCounter = true
    let e : ProbeEntry := ⟨n, trial, sel, p.config.probeLength, w, p.probeTarget, .waiting,
      .start (Vector.replicate 5 0), 0, 0, 0⟩
    (¬ able → t.Fails n p .noTarget)
      ∧ (able → ¬ allowed → (t.profile n).SameAdaptation p ∧ ∀ x ∈ t.engine.probes, x.profile ≠ n)
      ∧ (able → allowed →
        (t.profile n).SameAdaptation { p with probeRef := true, search := { p.search with window := some w } }
          ∧ e ∈ t.engine.probes ∧ ∀ x ∈ t.engine.probes, x.profile = n → x = e)

/-- In state t the tracking round of profile n has gone on from record p (R105, R106): to the lowest weight of the next tap, from
`first` on, whose range is not empty; or, with no such tap, to its decision. -/
def State.RoundGoesOn (t : State) (n : ProfileId) (p : Profile) (first : Nat) : Prop :=
  let q := p.search
  let w (j : Fin 5) : Nat := (p.candidate.weights.get j).val
  let b (j : Fin 5) : Nat := (q.basePoint.get j).val
  let lo (j : Fin 5) : Nat := max (w j - p.config.lookAhead.val) (b j - p.config.allowableChange.val)
  let hi (j : Fin 5) : Nat :=
    min (min (w j + p.config.lookAhead.val) (b j + p.config.allowableChange.val)) p.config.trimCeiling.val
  let commits : Prop := q.roundWeights ≠ p.candidate.weights ∧ ∃ l c, q.lastFom = some l ∧ q.currentFom = some c
    ∧ (p.config.hysteresis.val : Int) ≤ l - c
  (∀ j : Fin 5, first ≤ j.val → (∀ i : Fin 5, first ≤ i.val → i < j → hi i < lo i) → lo j ≤ hi j →
      t.Attempts n { p with search := { q with
        tap := j, trial := Fin.ofNat 32 (lo j), rangeTop := Fin.ofNat 32 (hi j), bestFom := none } })
    ∧ ((∀ j : Fin 5, first ≤ j.val → hi j < lo j) →
      (commits → t.Succeeds n { p with candidate := { p.candidate with weights := q.roundWeights } } .round)
      ∧ (¬ commits → (∀ x ∈ t.engine.probes, x.profile ≠ n) ∧ (t.profile n).SameAdaptation { p with
          adapt := if p.config.continuous = true then .tracking else .idle
          search := { q with phase := .none, countdown := p.config.trackInterval } }))

/-- From s to t the probe of profile n has overrun (R94, R95): its restart run is one more, and it is restarted in a window that
ends at block b, its step in progress thrown away; at a restart run of 8 it is withdrawn and the adaptation has ended STARVED. -/
def State.Overruns (s t : State) (n : ProfileId) (b : Block) : Prop :=
  let p := s.profile n
  let r := { p with restartRun := p.restartRun + 1 }
  (∀ x ∈ s.engine.probes, x.profile = n →
      (x.condition = .running → t.engine.mac = .draining)
      ∧ (p.restartRun < 7 → { x with
          window := p.windowTo b, condition := .waiting, progress := .start (Vector.replicate 5 0)
          sumTarget := 0, sumError := 0, peak := 0 } ∈ t.engine.probes))
    ∧ (p.restartRun < 7 →
        (t.profile n).SameAdaptation { r with search := { p.search with window := some (p.windowTo b) } })
    ∧ (7 ≤ p.restartRun → t.Fails n r .starved)

/-! ### Invariants -/

/-- The work memory is in canonical form (log 8). -/
def State.MemoryCanonical (s : State) : Prop := Memory.wf s.mem = true

/-- A window lies inside the work memory (R114). -/
def Window.Inside (w : Window) : Prop := 1 ≤ w.length ∧ w.base + w.length ≤ Config.memoryWords

/-- Every open window lies inside the work memory. -/
def State.WindowsInside (s : State) : Prop := ∀ id w, s.windowOf id = some w → w.Inside

/-- No port holds more than eight replies or more than eight queue entries (R129, R178). -/
def State.QueuesBounded (s : State) : Prop :=
  ∀ p, (s.port p).replies.length ≤ Config.replyLimit ∧ (s.port p).jobs.length ≤ Config.jobLimit

/-- Only a BOUND profile has a leader or followers, and the leader is not among the followers (R22). -/
def State.MembersSound (s : State) : Prop :=
  ∀ n, ((s.profile n).state ≠ .bound → (s.profile n).leader = none ∧ (s.profile n).followers = 0)
    ∧ ∀ p, (s.profile n).leader = some p → (s.profile n).followers.getLsbD p.val = false

/-- A slot's source and pending source name no profile or a BOUND one (R59). -/
def State.SlotsNameBound (s : State) : Prop :=
  ∀ i n, ((s.slot i).source = .profile n ∨ (s.slot i).pending = some (.profile n)) → (s.profile n).state = .bound

/-- The entries of every result stack that are not EMPTY form one run from TOP (R134). -/
def State.StacksContiguous (s : State) : Prop :=
  ∀ p, tagsContiguous (s.port p).ctx.tags (s.port p).ctx.top = true

/-- No commit waits for a spare bank that nothing references (R33). -/
def State.NoCopyOverdue (s : State) : Prop :=
  ∀ n, (s.profile n).stage = .waitingSpare → (s.profile n).refs (s.profile n).spare ≠ 0

/-- The route entries of a profile that read a bank. -/
def Engine.readers (e : Engine) (n : ProfileId) (b : BankId) : Nat :=
  (e.routes.filter fun r => r.profile == n && r.bank == b).length

/-- A bank's references count the route passes queued or running that read it (R31). -/
def State.ReferencesCounted (s : State) : Prop :=
  ∀ n b, (s.profile n).refs b = s.engine.readers n b

/-- A profile has at most one probe in the queue, its probe reference says whether it has one, and its search position has a
probe window just then (R68, R92, R93). -/
def State.ProbesCounted (s : State) : Prop :=
  ∀ n, (s.engine.probes.filter fun x => x.profile == n).length = boolNat (s.profile n).probeRef
    ∧ (s.profile n).search.window.isSome = (s.profile n).probeRef

/-- A record that is QUEUED or ACTIVE, with words left to copy. -/
def MoveRecord.Unfinished (m : MoveRecord) : Prop := (m.state = .queued ∨ m.state = .active) ∧ 0 < m.remaining

/-- Words moved and words remaining make up the count of every move, at most 2048 (R120); the records in a taken order are
unfinished, and the segment in progress has no more words left than its record (R122). -/
def State.MovesConsistent (s : State) : Prop :=
  (∀ p r m, (s.port p).moves.get r = some m → m.moved + m.remaining = m.count ∧ m.count ≤ Config.countLimit)
    ∧ (∀ p, ∀ r ∈ (s.port p).moveOrder, ∃ m, (s.port p).moves.get r = some m ∧ m.Unfinished)
    ∧ (∀ g, s.mover.segment = some g → 0 < g.left ∧ (g.stopped.isSome → g.record ∉ (s.port g.port).moveOrder) ∧
        ∃ m, (s.port g.port).moves.get g.record = some m ∧ m.state = .active ∧ g.left ≤ m.remaining)

end Sys2Proof.Machine
end

