-- ==== Sys2Proof/Certificates/Slice0/Obligations.lean ====
section
/-! DEFINITION. The statements for the provers. -/

open Sys2Proof Sys2Proof.Machine

/-! ### The queue and the values at reset -/

/-- A step runs the command at the front of the queue; with no command waiting the part stays as it is (log 1). -/
def Obligations.StepTakesFrontCommand : Prop :=
  (∀ (c : Instr) (rest : List Instr) (s : State), s.pending = c :: rest → step s = exec c { s with pending := rest })
    ∧ ∀ s : State, s.pending = [] → step s = .next s

/-- No command and no event stops the part or touches the queue, so every step goes on, and takes one command from the queue and
adds none.
The model's own readings and choices it rests on: log 1, 2. -/
def Obligations.EveryStepGoesOn : Prop :=
  (∀ (i : Instr) (s : State), ∃ t, exec i s = .next t ∧ t.pending = s.pending)
    ∧ ∀ s : State, ∃ t, step s = .next t ∧ t.pending = s.pending.tail

/-- What reset leaves, block by block, the cleared profile record with the default coefficient set, the configuration defaults and
the cleared search position, and the slot record among it (R18, R27, R38, R45, R87); and POWER_ON_RESET leaves the same from any
state, with the transactions of the ports whose chip-select is low ignored, the queue and the count of free choices being the
model's own (logs 1, 7, 24; the values the manual gives no reset value for, logs 9 and 20). -/
def Obligations.ResetStateValues : Prop :=
  let r := State.reset
  let plain : CoeffSet := {
    emphasis := 0, tapCount := 0, taps := Vector.replicate 64 0, weights := Vector.replicate 5 0
    polarities := Vector.replicate 5 false, gain := 0 }
  (r.lane.state = .waiting ∧ r.lane.blockCounter = 0 ∧ r.lane.position = 0 ∧ r.lane.silentTicks = 0
      ∧ r.lane.assembly = [] ∧ r.lane.validFrom = 1 ∧ r.lane.output = none ∧ r.lane.rings.length = 8
      ∧ ∀ b ∈ r.lane.rings, b.length = 32 ∧ ∀ f ∈ b, ∀ c : Channel, f.get c = 0)
    ∧ (∀ n, r.profile n = .cleared) ∧ (∀ i, r.slot i = .initial)
    ∧ (let p := Profile.cleared
      p.state = .free ∧ p.channel = 0 ∧ p.leader = none ∧ p.followers = 0 ∧ p.bank0 = ⟨plain, 0⟩ ∧ p.bank1 = ⟨plain, 0⟩
      ∧ p.candidate = plain ∧ p.generation = 0 ∧ p.live = .bank0 ∧ p.refs0 = 0 ∧ p.refs1 = 0 ∧ p.probeRef = false
      ∧ p.stage = .none ∧ p.flipEvent = none
      ∧ p.config = {
        mode := 2, shapingFom := .both, trimFom := .both, fomA := 64, fomB := 0, fomC := 0, shapingMinimum := 200
        acceptance := 150, startPolarities := Vector.replicate 5 false, trimCeiling := 31, probeLength := .w64
        target := .generator 0, continuous := false, trackInterval := 16, lookAhead := 2, allowableChange := 4
        hysteresis := 8 }
      ∧ p.adapt = .idle ∧ p.restartRun = 0 ∧ p.probesRun = 0 ∧ p.lastOutcome = .none
      ∧ (let q := p.search
        q.phase = .none ∧ q.secondPass = false ∧ q.tap = 0 ∧ q.trial = 0 ∧ q.bestFom = none ∧ q.bestTrial = 0 ∧ q.run = 0
        ∧ q.basePoint = Vector.replicate 5 0 ∧ q.countdown = 0 ∧ q.currentFom = none
        ∧ q.roundWeights = Vector.replicate 5 0 ∧ q.lastFom = none ∧ q.window = none ∧ q.origin = .search
        ∧ q.continueAfter = false)
      ∧ p.dynamicSat = false ∧ p.staticSat = false ∧ p.wrap = false ∧ p.expiredCount = 0
      ∧ p.trim = Vector.replicate 5 0 ∧ p.trimBlock = none ∧ p.deletingPort = none
      ∧ ∀ e : Fin 4, (p.ring.get e).state = .none ∧ (p.ring.get e).block = none)
    ∧ (let t := Slot.initial
      t.owner = none ∧ t.source = .silent ∧ t.pending = none ∧ t.mute = false ∧ t.playingMuted = false
      ∧ t.outgoing = none ∧ t.lateCount = 0 ∧ t.lastBlock = none ∧ t.lastGeneration = none)
    ∧ (r.engine.mac = .free ∧ r.engine.routes = [] ∧ r.engine.probes = [] ∧ r.engine.jobPass = none
      ∧ r.engine.turn = .probe ∧ r.engine.pointer = 0)
    ∧ (∀ a, memRead r.mem a = 0) ∧ (∀ id, r.windowOf id = none) ∧ r.mover = ⟨none, 0⟩
    ∧ (∀ p, (r.port p).spi = none ∧ (r.port p).replies = [] ∧ (r.port p).notices = .empty ∧ (r.port p).overrun = false
      ∧ (r.port p).resetOccurred = true ∧ (r.port p).keepPeriod = 0 ∧ (r.port p).jobs = []
      ∧ (r.port p).ctx.controlWord = 0x001F ∧ (r.port p).ctx.statusWord = 0 ∧ (r.port p).ctx.tagsWord = 0
      ∧ (∀ m, (r.port p).moves.get m = none) ∧ r.interrupt p = false)
    ∧ (r.gen.claim = none ∧ r.gen.running = false ∧ r.gen.kind = .n7 ∧ r.gen.current = 0 ∧ ∀ k, r.gen.held k = none)
    ∧ (∀ c, (r.checker c).claim = none ∧ (r.checker c).state = .idle ∧ (r.checker c).checked = 0
      ∧ (r.checker c).errors = 0 ∧ (r.checker c).frozen = false)
    ∧ ∀ (low : BitVec 4) (s : State), ∃ t, exec (.powerOnReset low) s = .next t
      ∧ (∀ p, t.port p = { r.port p with ignoring := low.getLsbD p.val })
      ∧ ({ t with ports := r.ports, choices := 0, pending := [] } : State) = r

/-! ### The lane and the block event -/

/-- FRAME_SYNC starts an output frame at the position in progress, each slot playing its source; INTERFACE_START and the
period before the first block event play zero (R12 to R14, R16).
The model's own readings and choices it rests on: log 20. -/
def Obligations.FrameSyncPlaysSlots : Prop :=
  (∀ s : State, s.lane.state = .running → ∃ o : OutFrame,
      exec .frameSync s
        = .next { s with lane := { s.lane with silentTicks := 0, frameOpen := true, output := some o } }
      ∧ o.position = s.lane.position
      ∧ ∀ i : SlotId, let t := s.slot i; let x := o.samples.get i
        (s.lane.zeroPeriod = true ∨ t.playingMuted = true → x = 0)
        ∧ (s.lane.zeroPeriod = false → t.playingMuted = false →
            (t.source = .silent → x = 0)
            ∧ (t.source = .generator → x = if s.gen.running then s.gen.current else 0)
            ∧ (∀ c, t.source = .dry c → x = s.lane.passSample c (s.lane.blockCounter - 2) s.lane.position.val)
            ∧ ∀ n, t.source = .profile n → x = if t.foundValid then
                ((s.profile n).ring.get (ringIndex (s.lane.blockCounter - 2))).samples.getD s.lane.position.val 0
              else 0))
    ∧ ∀ s : State, s.lane.state = .waiting → ∃ o : OutFrame,
      exec .interfaceStart s = .next { s with lane := { s.lane with
        state := .running, zeroPeriod := true, silentTicks := 0, frameOpen := true, output := some o } }
      ∧ o.position = s.lane.position ∧ ∀ i : SlotId, o.samples.get i = 0

/-- FRAME_TAKEN before position 31 puts the frame in the assembly buffer, where no reader sees it yet, and there is no block event;
at position 31, with nothing else falling within the block event, it completes the block: B advances, the block enters the rings in
the place of the oldest, the assembly buffer empties, and v moves only when B + 1 − v reaches 2^31. A running generator makes
its next sample, which becomes the current output and enters the history under number 32·(B + 1) + p, its position advanced. Ports
change in their notices alone, and no word of memory, window or move changes (R1,
R3, R5, R6, R169, R170).
The model's own readings and choices it rests on: log 7. -/
def Obligations.FrameTakenFillsBlock : Prop :=
  ∀ (s : State) (frame : LaneFrame) (within : List Moment), s.lane.state = .running → s.lane.frameOpen = true →
    (s.lane.position = 31 → within = []) →
    ∃ t, exec (.frameTaken ⟨frame, within⟩) s = .next t
      ∧ (s.gen.running = true →
          let number : Block := (s.lane.blockCounter + 1) * 32 + BitVec.ofNat 32 s.lane.position.val
          t.gen = { s.gen.next.2 with current := s.gen.next.1, history := t.gen.history }
          ∧ t.gen.held number = some s.gen.next.1
          ∧ ∀ m : Block, m.toNat % 512 ≠ number.toNat % 512 → t.gen.held m = s.gen.held m)
      ∧ (s.gen.running = false → t.gen = s.gen)
      ∧ t.mem = s.mem ∧ t.shared = s.shared ∧ t.mover = s.mover
      ∧ (∀ p, { t.port p with notices := (s.port p).notices } = s.port p)
      ∧ (s.lane.position.val < 31 →
          t.lane = { s.lane with
            assembly := s.lane.assembly ++ [frame], position := s.lane.position + 1, frameOpen := false, output := none }
          ∧ t.profiles = s.profiles ∧ t.slots = s.slots ∧ t.engine = s.engine)
      ∧ (s.lane.position = 31 →
          t.lane = { s.lane with
            blockCounter := s.lane.blockCounter + 1, position := 0, assembly := [], frameOpen := false, output := none
            zeroPeriod := false
            rings := (s.lane.assembly ++ [frame]) :: s.lane.rings.take 7
            validFrom := if s.lane.blockCounter + 2 - s.lane.validFrom = 0x80000000 then s.lane.blockCounter - 6
              else s.lane.validFrom }
          ∧ t.engine.jobPass = s.engine.jobPass ∧ t.engine.turn = s.engine.turn ∧ t.engine.pointer = s.engine.pointer)

/-- The engine at block event k, before or after the slot map takes it, and before or after the bank flips: no WAITING entry with
deadline k is left, every running entry stays, and each BOUND profile in use gets one entry for block k on the bank of block k, with
deadline k + 2 and its ring entry PENDING (R32, R37, R51, R64, R65). The profile of an entry that expires has its ring entry EXPIRED
when it was PENDING, its expired count one more up to 65535, one reference of the entry's bank less, and its trim history and flags
kept; a commit that waits for the spare bank copies when this was the spare's last reference, with flip event k + 1, and a RETIRING
profile that nothing else reads becomes FREE with PROFILE_GONE to the deleting port (R21, R33, R36, R41).
The model's own readings and choices it rests on: log 5, 7, 9 (the ring entries of a freed record). -/
def Obligations.BlockEventQueuesRoutePasses : Prop :=
  ∀ (s : State) (frame : LaneFrame) (within : List Moment), s.lane.state = .running → s.lane.frameOpen = true →
    s.lane.position = 31 → (∃ order : List SlotId, within = order.map .slot) ∨ within = allProfiles.map .flip →
    let k := s.lane.blockCounter + 1
    ∃ t, exec (.frameTaken ⟨frame, within⟩) s = .next t
      ∧ (∀ e ∈ t.engine.routes, e.running = false → e.deadline ≠ k)
      ∧ (∀ e ∈ s.engine.routes, e.running = true → e ∈ t.engine.routes)
      ∧ (∀ e ∈ t.engine.routes, e ∈ s.engine.routes
          ∨ ((s.profile e.profile).state = .bound ∧ s.profileInUse e.profile = true ∧ e.block = k))
      ∧ (∀ n, (s.profile n).state = .bound → s.profileInUse n = true →
          (t.profile n).entryState k = .pending
          ∧ ∃ e ∈ t.engine.routes, e.profile = n ∧ e.block = k ∧ e.bank = (s.profile n).bankFor k
              ∧ e.deadline = k + 2 ∧ e.running = false)
      ∧ ∀ e : RouteEntry, e.deadline = k → e.block = k - 2 →
          (s.engine.routes.filter fun x => x.profile == e.profile && !x.running && x.deadline == k) = [e] →
          let n := e.profile
          let p := s.profile n
          let q := t.profile n
          let left (b : BankId) : Nat := if b = e.bank then p.refs b - 1 else p.refs b
          let queued : Prop := p.state = .bound ∧ s.profileInUse n = true
          let freed : Prop := p.state = .retiring ∧ left .bank0 = 0 ∧ left .bank1 = 0
          p.state = .bound ∨ (p.state = .retiring ∧ p.adapt = .idle ∧ p.probeRef = false) →
          (freed → q = .cleared ∧ ∀ d, p.deletingPort = some d → (t.port d).notices.profileGone.getLsbD n.val = true)
          ∧ (¬ freed → q.state = p.state ∧ q.expiredCount.toNat = min 65535 (p.expiredCount.toNat + 1)
            ∧ (∀ b, (queued → b = p.bankFor k → q.refs b = left b + 1)
              ∧ (¬ (queued ∧ b = p.bankFor k) → q.refs b = left b))
            ∧ (p.entryState (k - 2) = .pending →
                q.ring.get (ringIndex (k - 2)) = { p.ring.get (ringIndex (k - 2)) with state := .expired })
            ∧ (p.entryState (k - 2) ≠ .pending → q.ring.get (ringIndex (k - 2)) = p.ring.get (ringIndex (k - 2)))
            ∧ q.trim = p.trim ∧ q.trimBlock = p.trimBlock
            ∧ q.dynamicSat = p.dynamicSat ∧ q.staticSat = p.staticSat ∧ q.wrap = p.wrap
            ∧ (p.stage = .waitingSpare → left p.spare = 0 → q.stage = .waitingFlip ∧ q.flipEvent = some (k + 1)
                ∧ q.bank p.spare = ⟨p.candidate, p.generation + 1⟩)
            ∧ (p.stage = .waitingSpare → left p.spare ≠ 0 →
                q.stage = .waitingSpare ∧ q.bank p.spare = p.bank p.spare))

/-- The slot map at block event k, before or after the engine's part: the pending source and the mute are taken, a slot whose
profile entry of block k − 2 is PENDING or EXPIRED counts late and tells its owner, one whose entry is VALID plays it, and a slot
that is not muted and has samples to play records k − 2, and the entry's generation, as last played (R50, R52 to R54). A ROUTE that
falls between the engine's question and the slot map is applied at k with no route pass for block k, and before the question with
one (R51); a route pass that completes between two slots of its profile leaves the earlier one late and the later one playing (R55).
The slots may be treated in any order.
The model's own readings and choices it rests on: log 7, 20. -/
def Obligations.SlotMapTakesBlockEvent : Prop :=
  (∀ (s : State) (frame : LaneFrame) (within : List Moment), s.lane.state = .running → s.lane.frameOpen = true →
      s.lane.position = 31 → within = []
        ∨ (s.SlotsNameBound ∧ ∃ order : List SlotId, within = order.map .slot ∧ order.Nodup ∧ ∀ i, i ∈ order) →
      let k := s.lane.blockCounter + 1
      ∃ t, exec (.frameTaken ⟨frame, within⟩) s = .next t ∧ ∀ i : SlotId,
        let u := s.slot i
        let v := t.slot i
        let late (n : ProfileId) : Prop :=
          (t.profile n).entryState (k - 2) = .pending ∨ (t.profile n).entryState (k - 2) = .expired
        let valid (n : ProfileId) : Prop := (t.profile n).entryState (k - 2) = .valid
        let plays : Prop := u.mute = false
          ∧ ((∃ c, v.source = .dry c ∧ atOrAfter (k - 2) t.lane.validFrom t.lane.blockCounter = true)
            ∨ (∃ n, v.source = .profile n ∧ valid n) ∨ (v.source = .generator ∧ s.gen.running = true))
        v.source = u.pending.getD u.source ∧ v.pending = none ∧ v.playingMuted = u.mute ∧ v.mute = u.mute
          ∧ v.owner = u.owner ∧ v.outgoing = u.pending.map (fun _ => u.source)
          ∧ ((∀ n, v.source ≠ .profile n) → v.lateCount = u.lateCount ∧ v.foundValid = false)
          ∧ (∀ n, v.source = .profile n →
            (late n → v.lateCount = satInc u.lateCount
                ∧ ∀ p, v.owner = some p → (t.port p).notices.slotLate.getLsbD i.val = true)
              ∧ (¬ late n → v.lateCount = u.lateCount)
              ∧ (valid n → v.foundValid = true) ∧ (¬ valid n → v.foundValid = false))
          ∧ (plays → v.lastBlock = some (k - 2)
            ∧ (∀ n, v.source = .profile n →
                v.lastGeneration = some ((t.profile n).ring.get (ringIndex (k - 2))).generation)
            ∧ ((∀ n, v.source ≠ .profile n) → v.lastGeneration = u.lastGeneration))
          ∧ (¬ plays → v.lastBlock = u.lastBlock ∧ v.lastGeneration = u.lastGeneration))
    ∧ (∀ (s : State) (frame : LaneFrame) (f : Frame) (i : SlotId) (n : ProfileId), s.lane.state = .running →
      s.lane.frameOpen = true → s.lane.position = 31 → s.Takes f (finWord i :: sourceWords (.profile n)) →
      (s.slot i).owner = some f.port → (s.profile n).state = .bound →
      ((s.profile n).leader = some f.port ∨ (s.profile n).followers.getLsbD f.port.val = true) →
      s.profileInUse n = false →
      let k := s.lane.blockCounter + 1
      let routed (t : State) : Prop := (t.slot i).source = .profile n ∧ (t.slot i).outgoing = some (s.slot i).source
        ∧ (t.slot i).pending = none
      (∃ t, exec (.frameTaken ⟨frame, List.replicate 33 .engine ++ [.inner (.frame 0x22 f)]⟩) s = .next t ∧ routed t
          ∧ (∀ e ∈ t.engine.routes, e.profile = n → e ∈ s.engine.routes)
          ∧ ((s.profile n).entryState k = .none → (t.profile n).entryState k = .none))
        ∧ ∃ t, exec (.frameTaken ⟨frame, [.inner (.frame 0x22 f)]⟩) s = .next t ∧ routed t
          ∧ (t.profile n).entryState k = .pending ∧ ∃ e ∈ t.engine.routes, e.profile = n ∧ e.block = k)
    ∧ ∀ (s : State) (frame : LaneFrame) (pre post : List RouteEntry) (e : RouteEntry) (i j : SlotId),
      s.lane.state = .running → s.lane.frameOpen = true → s.lane.position = 31 → s.engine.mac = .running .route →
      s.engine.routes = pre ++ e :: post → (∀ x ∈ pre, x.running = false) → e.running = true → e.isLast s = true →
      (s.profile e.profile).state = .bound → e.block = s.lane.blockCounter - 1 →
      (s.profile e.profile).entryState e.block = .pending → i ≠ j →
      (s.slot i).pending.getD (s.slot i).source = .profile e.profile →
      (s.slot j).pending.getD (s.slot j).source = .profile e.profile →
      ∃ t, exec (.frameTaken ⟨frame, [.slot i, .inner .routePassComplete]⟩) s = .next t
        ∧ (t.slot i).foundValid = false ∧ (t.slot i).lateCount = satInc (s.slot i).lateCount
        ∧ (t.slot j).foundValid = true ∧ (t.slot j).lateCount = (s.slot j).lateCount
        ∧ (t.profile e.profile).entryState e.block = .valid

/-- A due commit flips at its block event: the live bank toggles, the generation advances by one, the stage and the flip event are
none, and COMMITTED goes to the leader and every follower (R34). The controller at its block event: the flip of a COMMITTING profile
(R102), the tracking countdown and the start of a round (R104), the restart of a probe whose oldest block leaves the rings, or its
end STARVED (R94), and the attempt at an evaluation that waits (R92). The flip may come before the controller's turn or after it,
and holds the countdown it loads (R102). A probe that the controller queues before the engine's question, and that the arbiter
starts, is asked to suspend when the first route entry is appended (R4, R69, R78, R80).
The model's own readings and choices it rests on: log 7, 20, 21. -/
def Obligations.BankFlipAtBlockEvent : Prop :=
  (∀ (s : State) (frame : LaneFrame) (n : ProfileId) (within : List Moment),
      s.lane.state = .running → s.lane.frameOpen = true → s.lane.position = 31 → within = [] ∨ within = [.flip n] →
      (s.profile n).state = .bound → (s.profile n).stage = .waitingFlip →
      (s.profile n).flipEvent = some (s.lane.blockCounter + 1) →
      (s.profile n).adapt = .idle ∨ (s.profile n).adapt = .committing → (s.profile n).probeRef = false →
      let p := s.profile n
      ∃ t, exec (.frameTaken ⟨frame, within⟩) s = .next t
        ∧ (t.profile n).live = p.live.other ∧ (t.profile n).generation = p.generation + 1
        ∧ (t.profile n).stage = .none ∧ (t.profile n).flipEvent = none
        ∧ (t.profile n).bank0 = p.bank0 ∧ (t.profile n).bank1 = p.bank1
        ∧ (∀ q, (p.leader = some q ∨ p.followers.getLsbD q.val = true) →
            (t.port q).notices.committed.getLsbD n.val = true)
        ∧ (p.adapt = .idle → (t.profile n).SameAdaptation p)
        ∧ (p.adapt = .committing → ∀ r : Profile,
            (p.search.origin = .search → r = { p with
              lastOutcome := .done, search := { p.search with basePoint := (p.bank p.live.other).set.weights } }) →
            (p.search.origin = .round → r = p) →
            (p.search.continueAfter = true → p.config.continuous = true → p.config.mode = 2 ∨ p.config.mode = 3 →
              (t.profile n).SameAdaptation { r with
                adapt := .tracking, search := { r.search with phase := .none, countdown := p.config.trackInterval } })
            ∧ (¬ (p.search.continueAfter = true ∧ p.config.continuous = true
                ∧ (p.config.mode = 2 ∨ p.config.mode = 3)) → (t.profile n).SameAdaptation { r with adapt := .idle })
            ∧ (p.search.origin = .search → t.ToldDone n p)
            ∧ (p.search.origin = .round → ∀ q, (t.port q).notices.adaptDone.getLsbD n.val
                = (s.port q).notices.adaptDone.getLsbD n.val)))
    ∧ (∀ (s : State) (frame : LaneFrame) (n : ProfileId) (within : List Moment),
      s.lane.state = .running → s.lane.frameOpen = true → s.lane.position = 31 →
      within = [] ∨ within = [.controller n] → (s.profile n).state = .bound →
      (s.profile n).stage = .none → s.ProbesCounted →
      let k := s.lane.blockCounter + 1
      let p := s.profile n
      ∃ t, exec (.frameTaken ⟨frame, within⟩) s = .next t
        ∧ (p.probeRef = false → p.adapt = .tracking → p.search.phase ≠ .round →
          (2 ≤ p.search.countdown.val → (t.profile n).SameAdaptation { p with
              search := { p.search with countdown := p.search.countdown - 1 } })
          ∧ (p.search.countdown = 1 → t.Attempts n { p with search := { p.search with
              phase := .round, countdown := 0, roundWeights := p.candidate.weights, currentFom := none
              lastFom := none, tap := 0 } }))
        ∧ (p.probeRef = false → (∃ trial sel, p.Needs trial sel) → t.Attempts n p)
        ∧ ∀ w, p.search.window = some w → (k = w.oldest + 8 → State.Overruns s t n k)
          ∧ (k ≠ w.oldest + 8 → (t.profile n).SameAdaptation p))
    ∧ ∀ (s : State) (frame : LaneFrame) (n m : ProfileId) (trial : CoeffSet) (sel : SelectionKind),
      s.lane.state = .running → s.lane.frameOpen = true → s.lane.position = 31 →
      s.lane.blockCounter + 2 - s.lane.validFrom ≠ 0x80000000 →
      (s.profile n).state = .bound → s.ProbesCounted → (s.profile n).Needs trial sel →
      let k := s.lane.blockCounter + 1
      let p := s.profile n
      (∀ lag, p.config.target ≠ .generator lag) ∨ s.gen.running = true →
      atOrAfter (p.windowTo k).oldest s.lane.validFrom k = true →
      s.engine.mac = .free → s.engine.routes = [] → s.engine.probes = [] → s.engine.turn = .probe →
      (s.profile m).state = .bound → s.profileInUse m = true →
      ∃ t x xs, exec (.frameTaken ⟨frame, [.controller n, .inner .arbiterStart]⟩) s = .next t
        ∧ t.engine.mac = .running .probe ∧ t.engine.suspendAsked = true ∧ t.engine.turn = .job
        ∧ t.engine.probes = x :: xs ∧ x.profile = n ∧ x.trial = trial ∧ x.condition = .running
        ∧ ∃ e ∈ t.engine.routes, e.profile = m ∧ e.block = k ∧ e.running = false

/-- Each housekeeping tick adds one to the silent-tick count, up to 4, and decreases every running keep-alive countdown by one.
CLOCK_LOSS at four silent ticks: the block in progress is discarded, B, v and the rings are kept, its generator samples are
withdrawn, and every port gets CLOCK_LOST; before that it does nothing (R8, R170, R183).
The model's own readings and choices it rests on: log 2, 6. -/
def Obligations.TickAndClockLoss : Prop :=
  (∀ s : State, ∃ t, exec .housekeepingTick s = .next t
      ∧ t.lane.silentTicks.val = min 4 (s.lane.silentTicks.val + 1)
      ∧ (∀ p, t.port p = if (s.port p).keepPeriod ≠ 0 ∧ (s.port p).countdown ≠ 0 then
            { s.port p with countdown := (s.port p).countdown - 1 } else s.port p)
      ∧ ({ t with lane := { t.lane with silentTicks := s.lane.silentTicks }, ports := s.ports } : State) = s)
    ∧ (∀ s : State, s.lane.state = .running → s.lane.silentTicks.val = 4 → ∃ t, exec .clockLoss s = .next t
      ∧ t.lane = { s.lane with state := .lost, assembly := [], position := 0, frameOpen := false, output := none }
      ∧ (∀ p, t.port p = { s.port p with notices := { (s.port p).notices with clockLost := true } })
      ∧ (∀ i, i < s.lane.position.val →
          t.gen.held ((s.lane.blockCounter + 1) * 32 + BitVec.ofNat 32 i) = none)
      ∧ ({ t.gen with history := s.gen.history } : Generator) = s.gen
      ∧ ({ t with lane := s.lane, gen := s.gen, ports := s.ports } : State) = s)
    ∧ ∀ s : State, s.lane.silentTicks.val < 4 → exec .clockLoss s = .next s

/-- CLOCK_RETURN: v becomes B + 1 with B kept, every ring sample zero, every output ring entry NONE, every trim history five zeros
with block none, no WAITING route entry left, a zero output frame begun, and CLOCK_BACK at every port (R9, R16, R42, R83); every
probe is restarted, or its adaptation ends STARVED at the eighth restart, and an adaptation with no probe stays as it is (R95).
The model's own readings and choices it rests on: log 19, 20. -/
def Obligations.ClockReturnFlushesHistory : Prop :=
  ∀ s : State, s.lane.state = .lost → ∃ t, exec .clockReturn s = .next t
    ∧ t.lane.state = .running ∧ t.lane.blockCounter = s.lane.blockCounter
    ∧ t.lane.validFrom = s.lane.blockCounter + 1 ∧ t.lane.silentTicks = 0
    ∧ t.lane.rings = List.replicate 8 (List.replicate 32 (Vector.replicate 16 0))
    ∧ t.lane.assembly = s.lane.assembly ∧ t.lane.position = s.lane.position
    ∧ t.lane.zeroPeriod = true ∧ t.lane.frameOpen = true
    ∧ (∃ o : OutFrame, t.lane.output = some o ∧ o.position = s.lane.position ∧ ∀ i : SlotId, o.samples.get i = 0)
    ∧ (∀ n j, (t.profile n).entryState j = .none)
    ∧ (∀ n, (t.profile n).trim = Vector.replicate 5 0 ∧ (t.profile n).trimBlock = none)
    ∧ t.engine.routes = s.engine.routes.filter (fun e => e.running)
    ∧ (∀ p, (t.port p).notices.clockBack = true)
    ∧ t.slots = s.slots ∧ t.mem = s.mem ∧ t.gen = s.gen ∧ t.checkers = s.checkers
    ∧ ∀ n, (s.profile n).state = .bound → s.ProbesCounted →
      ((s.profile n).probeRef = true → State.Overruns s t n s.lane.blockCounter)
      ∧ ((s.profile n).probeRef = false → (t.profile n).SameAdaptation (s.profile n)
          ∧ ∀ x ∈ t.engine.probes, x.profile ≠ n)

/-- The three answers of an input ring: BEFORE_V for a block that precedes v, the stored sample for a held block at or after v,
GONE for any other (R7). -/
def Obligations.InputRingAnswers : Prop :=
  ∀ (l : Lane) (c : Channel) (j : Block) (o : Nat),
    let b := j + BitVec.ofNat 32 (o / 32)
    let fromV := (b - l.validFrom).toNat ≤ (l.blockCounter + 1 - l.validFrom).toNat
    (¬ fromV → l.ringRead c j o = .beforeV)
      ∧ (fromV → (l.blockCounter - b).toNat < 8 → l.ringRead c j o
          = .sample (((l.rings.getD (l.blockCounter - b).toNat []).getD (o % 32) zeroFrame).get c))
      ∧ (fromV → 8 ≤ (l.blockCounter - b).toNat → l.ringRead c j o = .gone)

/-! ### The pass engine -/

/-- The arbiter with the unit FREE: the oldest WAITING route entry first, then the class the turn marker names, then the other
class, after which the marker names the class not served; a job by round robin from the pointer; and with nothing runnable the unit
stays FREE. A job of no step ends at once, after its turn. With the unit not FREE no decision is taken (R66, R75, R78, R79).
The model's own readings and choices it rests on: log 10 (a pass's first operands are read when it starts), 12. -/
def Obligations.ArbiterServesWork : Prop :=
  let noJob (s : State) : Prop := (∀ j, s.engine.jobPass = some j → (s.port j.port).ctx.errorPending = true)
    ∧ (s.engine.jobPass = none → ∀ p, (s.port p).ctx.errorPending = true
      ∨ ∀ job rest, (s.port p).jobs ≠ ⟨.job job, .waiting⟩ :: rest)
  (∀ (s : State) (pre post : List RouteEntry) (e : RouteEntry), s.engine.mac = .free →
      s.engine.routes = pre ++ e :: post → (∀ x ∈ pre, x.running = true) → e.running = false →
      exec .arbiterStart s = .next { s with engine := { s.engine with
        mac := .running .route, routes := pre ++ e.start s :: post } })
    ∧ (∀ (s : State) (e : ProbeEntry) (es : List ProbeEntry), s.engine.mac = .free →
      (∀ x ∈ s.engine.routes, x.running = true) → s.engine.turn = .probe ∨ noJob s → s.engine.probes = e :: es →
      exec .arbiterStart s = .next { s with engine := { s.engine with
        mac := .running .probe, turn := .job
        probes := { e with condition := .running }.beginStep s :: es } })
    ∧ (∀ (s : State) (j : JobPass), s.engine.mac = .free → (∀ x ∈ s.engine.routes, x.running = true) →
      s.engine.turn = .job ∨ s.engine.probes = [] → s.engine.jobPass = some j →
      (s.port j.port).ctx.errorPending = false →
      exec .arbiterStart s = .next { s with engine := { s.engine with
        mac := .running .job, turn := .probe, pointer := j.port + 1
        jobPass := some ({ j with suspended := false }.beginStep s) } })
    ∧ (∀ (s : State) (i : Port) (job : Job) (rest : List QueueEntry), s.engine.mac = .free →
      (∀ x ∈ s.engine.routes, x.running = true) → s.engine.turn = .job ∨ s.engine.probes = [] →
      s.engine.jobPass = none → (∀ j < i, (s.port (s.engine.pointer + j)).runnableJob = none) →
      (s.port (s.engine.pointer + i)).ctx.errorPending = false →
      (s.port (s.engine.pointer + i)).jobs = ⟨.job job, .waiting⟩ :: rest →
      let p := s.engine.pointer + i
      ∃ t, exec .arbiterStart s = .next t ∧ (∀ q, q ≠ p → t.port q = s.port q) ∧ t.mem = s.mem
        ∧ (0 < job.steps → (t.port p).jobs = ⟨.job job, .inPass⟩ :: rest
          ∧ let fresh : JobPass := {
              port := p, job := job, suspended := false, lag := 0, index := 0, acc := 0, best := 0, bestLag := 0
              peak := 0, peakIndex := 0, read := .nothing }
            t.engine = { s.engine with
              mac := .running .job, turn := .probe, pointer := p + 1, jobPass := some (fresh.beginStep s) })
        ∧ (job.steps = 0 → (t.port p).jobs = rest ∧ (rest = [] → (t.port p).notices.jobsIdle = true)
          ∧ t.engine = { s.engine with turn := .probe, pointer := p + 1 }
          ∧ (let c := (s.port p).ctx
            let ended (d : Context) : Context := { d with
              c1 := false, lastKind := job.code, lastWindow := job.place.1, lastOffset := job.place.2 }
            let zero (d : Context) : Context := { d with
              top := d.top - 1, tags := vset d.tags (d.top - 1) .valid, stack := vset d.stack (d.top - 1) 0
              c0 := false, c3 := true }
            (∀ a b n, job = .dot a b n true → (t.port p).ctx = ended c)
            ∧ (∀ a n, job = .energy a n true → (t.port p).ctx = ended c)
            ∧ (c.depth < 8 → (∀ a b n, job = .dot a b n false → (t.port p).ctx = ended (zero c))
              ∧ ∀ a n, job = .energy a n false → (t.port p).ctx = ended (zero c))
            ∧ (c.depth < 7 → (∀ a n, job = .peak a n → (t.port p).ctx = ended (zero (zero c)))
              ∧ ∀ a b n l, job = .sweep a b n l → (t.port p).ctx = ended (zero (zero c))))))
    ∧ (∀ s : State, s.engine.mac = .free → (∀ x ∈ s.engine.routes, x.running = true) → s.engine.probes = [] → noJob s →
      exec .arbiterStart s = .next s)
    ∧ ∀ s : State, s.engine.mac ≠ .free → exec .arbiterStart s = .next s

/-- The boundaries of a step that is not its pass's last: the pass goes on, or, when a suspension was asked for, a probe or job
pass becomes SUSPENDED with the step's result kept and the unit FREE; a drained step frees the unit (R60, R61, R80). A job step
reads word i of its spans, the WINDOW word at offset + i·stride or the RING sample at offset + i, span b of a SWEEP advanced by the
lag, and raises ACCESS when one is not there (R132, R133); a step that has read adds one product, compares one magnitude or ends a
lag (R140 to R142).
The model's own readings and choices it rests on: log 10, 12. -/
def Obligations.StepBoundaries : Prop :=
  (∀ s : State, s.engine.mac = .draining →
      exec .stepDrained s = .next { s with engine := { s.engine with mac := .free } })
    ∧ (∀ (s : State) (pre post : List RouteEntry) (e : RouteEntry), s.engine.mac = .running .route →
      s.engine.suspendAsked = false → s.engine.routes = pre ++ e :: post → (∀ x ∈ pre, x.running = false) →
      e.running = true → e.isLast s = false →
      exec .macStepEnd s = .next { s with engine := { s.engine with
        routes := pre ++ (e.endStep s).beginStep s :: post } })
    ∧ (∀ (s : State) (e : ProbeEntry) (es : List ProbeEntry), s.engine.mac = .running .probe →
      s.engine.probes = e :: es → e.condition = .running → e.isLast = false →
      (s.engine.suspendAsked = false → exec .macStepEnd s = .next { s with engine := { s.engine with
          probes := (e.endStep s).beginStep s :: es } })
      ∧ (s.engine.suspendAsked = true → exec .passSuspended s = .next { s with engine := { s.engine with
          mac := .free, suspendAsked := false, probes := { e.endStep s with condition := .suspended } :: es } }))
    ∧ (∀ (s : State) (j : JobPass), s.engine.mac = .running .job → s.engine.jobPass = some j → j.isLast = false →
      (s.engine.suspendAsked = false → exec .macStepEnd s = .next { s with engine := { s.engine with
          jobPass := some (j.endStep.beginStep s) } })
      ∧ (s.engine.suspendAsked = true → exec .passSuspended s = .next { s with engine := { s.engine with
          mac := .free, suspendAsked := false, jobPass := some { j.endStep with suspended := true } } }))
    ∧ (∀ (s : State) (j : JobPass),
      let word (sp : Span) (i : Nat) : Option Sample := match sp with
        | .window nm off stride => match s.resolve (nm.of j.port) (off + i * stride) with
          | .address a => some (memRead s.mem a)
          | .closed | .outside => none
        | .ring c b off => match s.lane.ringRead c b (off + i) with
          | .sample x => some x
          | .beforeV | .gone => none
      let reads (v : StepRead) : Prop := j.beginStep s = { j with read := v }
      let readsBoth (x y : Option Sample) : Prop :=
        (∀ u v, x = some u → y = some v → reads (.words u v)) ∧ (x = none ∨ y = none → reads .access)
      (∀ a b n acc, j.job = .dot a b n acc → readsBoth (word a j.index) (word b j.index))
        ∧ (∀ a n acc, j.job = .energy a n acc → readsBoth (word a j.index) (word a j.index))
        ∧ (∀ a n, j.job = .peak a n → readsBoth (word a j.index) (some 0))
        ∧ (∀ a b n l, j.job = .sweep a b n l → readsBoth (word a j.index) (word b (j.lag + j.index)))
        ∧ ((∃ v, j.job = .push v) ∨ j.job = .drop ∨ j.job = .scale ∨ (∃ nm o st w k pop, j.job = .store nm o st w k pop) →
          reads .nothing))
    ∧ ∀ (j : JobPass) (x y : Sample), j.read = .words x y →
      let sum : Acc := BitVec.ofInt 48 (j.acc.toInt + x.toInt * y.toInt)
      ((∃ a b n acc, j.job = .dot a b n acc) ∨ (∃ a n acc, j.job = .energy a n acc) →
          j.endStep = { j with acc := sum, index := j.index + 1 })
        ∧ (∀ a n, j.job = .peak a n →
          (x.toInt.natAbs ≤ j.peak → j.endStep = { j with index := j.index + 1 })
          ∧ (j.peak < x.toInt.natAbs → j.endStep = { j with
              peak := x.toInt.natAbs, peakIndex := j.index, index := j.index + 1 }))
        ∧ (∀ a b n l, j.job = .sweep a b n l →
          (j.index + 1 < n → j.endStep = { j with acc := sum, index := j.index + 1 })
          ∧ (n ≤ j.index + 1 → j.lag = 0 ∨ j.best.toInt < sum.toInt →
            j.endStep = { j with best := sum, bestLag := j.lag, lag := j.lag + 1, index := 0, acc := 0 })
          ∧ (n ≤ j.index + 1 → 0 < j.lag → sum.toInt ≤ j.best.toInt →
            j.endStep = { j with lag := j.lag + 1, index := 0, acc := 0 }))

/-- The arithmetic of a pass, step by step (R27 to R29, R61, R62). A history term is formed and marks nothing. One output sample
takes max(T, 1) + 7 steps, of which the last hands it over: emphasis, main filter, five trim products, rounding and gain, each sum
kept modulo 2^48; saturation is marked at the emphasis and at the gain. A step whose sum leaves the 48 bits marks the wrap. With the
default coefficient set the sample handed over is the input sample, after eight steps, and nothing is marked. A step reads its input
sample from the ring of the profile's channel, a history term the samples before the first of the pass, and what the ring does not
hold reads as zero; a route pass for block k starts from the trim history when its block is k − 1 and else from zeros; a probe reads
zero before its oldest block, and at the end of each of its samples takes the target sample and adds to its sums and its peak (R29,
R61, R66, R72, R90, R91).
The model's own readings and choices it rests on: log 10, 11 (the moment a target sample is read). -/
def Obligations.DefaultSetPassesInput : Prop :=
  let clamp (v : Int) : Int := max (-32768) (min 32767 v)
  let outside (v : Int) : Prop := v < -32768 ∨ 32767 < v
  let wraps (v : Int) : Prop := v < -(2 ^ 47) ∨ 2 ^ 47 ≤ v
  let term (c : CoeffSet) (pr : FilterProgress) : Int :=
    pr.x.toInt + (c.emphasis.val : Int) * (pr.x.toInt - pr.xBefore.toInt) / 16
  let taps (c : CoeffSet) : Nat := max c.tapCount.val 1
  let product (c : CoeffSet) (es : List Sample) (i : Nat) : Int :=
    (if c.tapCount.val = 0 then 16384 else (c.taps.toList.getD i 0).toInt) * (es.getD i 0).toInt
  let trims (c : CoeffSet) (ys : Vector Sample 5) (j : Fin 5) : Int :=
    (if c.polarities.get j then -1 else 1) * ((c.weights.get j).val : Int) * (ys.get j).toInt
  (∀ pr : FilterProgress, pr.sub = 0 →
      let after := (fun q : FilterProgress => (q.endStep .default).1)^[7] pr
      (after.endStep .default).2 = some pr.x
        ∧ (after.endStep .default).1.saturated = pr.saturated ∧ (after.endStep .default).1.wrapped = pr.wrapped
        ∧ (after.endStep .default).1.sample = pr.sample + 1 ∧ (after.endStep .default).1.sub = 0)
    ∧ (∀ (c : CoeffSet) (pr : FilterProgress), pr.history < c.tapCount.val - 1 →
      pr.endStep c = ({ pr with es := BitVec.ofInt 16 (clamp (term c pr)) :: pr.es, history := pr.history + 1 }, none))
    ∧ (∀ (c : CoeffSet) (pr : FilterProgress), c.tapCount.val - 1 ≤ pr.history →
      (∀ i, pr.sub = i + 1 → i < taps c → let v := pr.acc.toInt + product c pr.es i
        ∃ b, pr.endStep c = ({ pr with acc := BitVec.ofInt 48 v, wrapped := b, sub := pr.sub + 1 }, none)
          ∧ (b = true ↔ pr.wrapped = true ∨ wraps v))
      ∧ (pr.sub = taps c + 1 → let v := (pr.acc.toInt + 8192) / 16384 * 1024
        ∃ b, pr.endStep c = ({ pr with acc := BitVec.ofInt 48 v, wrapped := b, sub := pr.sub + 1 }, none)
          ∧ (b = true ↔ pr.wrapped = true ∨ wraps v))
      ∧ (∀ j : Fin 5, pr.sub = taps c + 2 + j.val → let v := pr.acc.toInt - trims c pr.ys j
        (j.val < 4 → ∃ b, pr.endStep c = ({ pr with acc := BitVec.ofInt 48 v, wrapped := b, sub := pr.sub + 1 }, none)
          ∧ (b = true ↔ pr.wrapped = true ∨ wraps v))
        ∧ (j = 4 → let u := (BitVec.ofInt 48 v).toInt + 512
          (pr.endStep c).1.wrapped = true ↔ pr.wrapped = true ∨ wraps v ∨ wraps u)))
    ∧ (∀ (c : CoeffSet) (pr : FilterProgress), c.tapCount.val - 1 ≤ pr.history → pr.sub = 0 →
      let after := (fun q : FilterProgress => (q.endStep c).1)^[taps c + 6] pr
      let e : Sample := BitVec.ofInt 16 (clamp (term c pr))
      let es := (e :: pr.es).take (taps c)
      let main : Acc := BitVec.ofInt 48 ((List.range (taps c)).map (product c es)).sum
      let f : Int := (main.toInt + 8192) / 16384
      let trim : Acc := BitVec.ofInt 48 (f * 1024 - ((List.finRange 5).map (trims c pr.ys)).sum + 512)
      let g : Int := trim.toInt / 1024
      let y : Sample := BitVec.ofInt 16 (clamp (g * 2 ^ c.gain.val))
      let r := after.endStep c
      r.2 = some y ∧ r.1.sample = pr.sample + 1 ∧ r.1.sub = 0 ∧ r.1.es = es ∧ r.1.history = pr.history
        ∧ r.1.ys = #v[y, pr.ys.get 0, pr.ys.get 1, pr.ys.get 2, pr.ys.get 3]
        ∧ (r.1.saturated = true ↔ pr.saturated = true ∨ outside (term c pr) ∨ outside (g * 2 ^ c.gain.val)))
    ∧ (let begins (c : CoeffSet) (first : Nat) (input : Nat → Sample) (pr q : FilterProgress) : Prop :=
        let history : Nat := c.tapCount.val - 1
        let reads (o : Nat) : Prop := q = { pr with
          x := input o, xBefore := if pr.history = 0 ∧ pr.sample = 0 then input (o - 1) else pr.x }
        (pr.history < history → reads (first - history + pr.history))
          ∧ (history ≤ pr.history → pr.sub = 0 → reads (first + pr.sample))
          ∧ (history ≤ pr.history → pr.sub ≠ 0 → q = pr)
      let ring (s : State) (n : ProfileId) (b : Block) (o : Nat) : Sample :=
        match s.lane.ringRead (s.profile n).channel b o with
        | .sample x => x
        | .beforeV | .gone => 0
      (∀ (s : State) (e : RouteEntry),
        let p := s.profile e.profile
        let c := (p.bank e.bank).set
        let fresh : FilterProgress := {
          history := 0, sample := 0, sub := 0, x := 0, xBefore := 0, es := [], acc := 0
          ys := if p.trimBlock = some (e.block - 1) then p.trim else Vector.replicate 5 0
          saturated := false, wrapped := false }
        e.start s = RouteEntry.beginStep { e with running := true, outputs := [], progress := fresh } s
          ∧ (∃ q, e.beginStep s = { e with progress := q } ∧ begins c 64 (ring s e.profile (e.block - 2)) e.progress q)
          ∧ let r := e.progress.endStep c
            e.endStep s = { e with progress := r.1, outputs := e.outputs ++ r.2.toList })
      ∧ ∀ (s : State) (e : ProbeEntry),
        let w : Nat := match e.length with | .w32 => 32 | .w64 => 64 | .w128 => 128
        let base : Block := e.window.endBlock - 5
        let input (o : Nat) : Sample :=
          if (base + BitVec.ofNat 32 (o / 32) - e.window.oldest).toNat < 2 ^ 31 then ring s e.profile base o else 0
        let i := e.progress.sample
        let target : Sample := match e.target with
          | .window (some id) off => (match s.resolve id (off.val + i) with
            | .address a => memRead s.mem a
            | .closed | .outside => 0)
          | .window none _ => 0
          | .generator lag => (s.gen.held (e.window.endBlock * 32 + 32 - BitVec.ofNat 32 w + BitVec.ofNat 32 i
              - BitVec.ofNat 32 lag.val)).getD 0
        let r := e.progress.endStep e.trial
        (∃ q, e.beginStep s = { e with progress := q } ∧ begins e.trial (192 - w) input e.progress q)
          ∧ (r.2 = none → e.endStep s = { e with progress := r.1 })
          ∧ ∀ y, r.2 = some y → e.endStep s = { e with
              progress := r.1, sumTarget := e.sumTarget + target.toInt.natAbs
              sumError := e.sumError + (target.toInt - y.toInt).natAbs, peak := max e.peak y.toInt.natAbs })

/-- The last step of a route pass: the entry leaves the queue, the unit is FREE, the bank reference drops, and the ring entry, the
trim history and the flags are those of R36 and R40. A commit that waits for the spare bank copies when this was the spare's last
reference (R33); a RETIRING profile that nothing else reads becomes FREE with PROFILE_GONE to the deleting port (R21).
The model's own readings and choices it rests on: log 5, 9 (the ring entries of a freed record), 10. -/
def Obligations.RoutePassCompletes : Prop :=
  ∀ (s : State) (pre post : List RouteEntry) (e : RouteEntry), s.engine.mac = .running .route →
    s.engine.routes = pre ++ e :: post → (∀ x ∈ pre, x.running = false) → e.running = true → e.isLast s = true →
    let n := e.profile
    let p := s.profile n
    let d := e.endStep s
    let left (b : BankId) : Nat := if b = e.bank then p.refs b - 1 else p.refs b
    let freed : Prop := p.state = .retiring ∧ left .bank0 = 0 ∧ left .bank1 = 0 ∧ p.probeRef = false
    ∃ t, exec .routePassComplete s = .next t
      ∧ t.engine = { s.engine with mac := .free, routes := pre ++ post }
      ∧ (∀ m, m ≠ n → t.profile m = s.profile m)
      ∧ t.lane = s.lane ∧ t.slots = s.slots ∧ t.mem = s.mem
      ∧ (∀ q, { t.port q with notices := (s.port q).notices } = s.port q)
      ∧ (freed → t.profile n = .cleared
        ∧ ∀ q, p.deletingPort = some q → (t.port q).notices.profileGone.getLsbD n.val = true)
      ∧ (¬ freed → t.ports = s.ports ∧ (t.profile n).state = p.state
        ∧ (∀ b, (t.profile n).refs b = left b)
        ∧ (p.entryState e.block = .pending →
            (t.profile n).ring.get (ringIndex e.block)
              = ⟨some e.block, .valid, (p.bank e.bank).generation, d.progress.saturated, d.outputs⟩
            ∧ (t.profile n).trim = lastFive d.outputs ∧ (t.profile n).trimBlock = some e.block)
        ∧ (p.entryState e.block ≠ .pending → (t.profile n).ring = p.ring
            ∧ (t.profile n).trim = p.trim ∧ (t.profile n).trimBlock = p.trimBlock)
        ∧ (t.profile n).dynamicSat = d.progress.saturated
        ∧ (t.profile n).staticSat = (p.staticSat || d.progress.saturated)
        ∧ (t.profile n).wrap = (p.wrap || d.progress.wrapped)
        ∧ (t.profile n).SameAdaptation p ∧ (t.profile n).live = p.live ∧ (t.profile n).generation = p.generation
        ∧ (t.profile n).bank p.live = p.bank p.live
        ∧ (p.stage = .waitingSpare → left p.spare = 0 → (t.profile n).stage = .waitingFlip
            ∧ (t.profile n).flipEvent = some (s.lane.blockCounter + 1)
            ∧ (t.profile n).bank p.spare = ⟨p.candidate, p.generation + 1⟩)
        ∧ (p.stage ≠ .waitingSpare ∨ left p.spare ≠ 0 → (t.profile n).stage = p.stage
            ∧ (t.profile n).flipEvent = p.flipEvent ∧ (t.profile n).bank p.spare = p.bank p.spare))

/-- The last step of a probe: its entry leaves the queue and the unit is FREE; the restart run is 0, and probes run counts one more
unless the window precedes v, when the scores are discarded and the same evaluation is attempted again (R73, R93). The FoM goes to
the evaluation in hand. Shaping keeps the better FoM, goes on to the next emphasis, and ends at 15 or at the shaping minimum of mode
3 (R97, R98). The trim search updates best and run, ends a tap at a run of 2 or the ceiling, and after tap 5 is accepted, goes to
its second polarity pass, or fails LOW_MERIT (R99, R100, R101, R103). A round takes the current set first, then every weight of each
tap's range, prefers the candidate's own weight among equals, and decides at its end (R105, R106).
The model's own readings and choices it rests on: log 10, 11, 20, 21. -/
def Obligations.ProbePassCompletes : Prop :=
  ∀ (s : State) (e : ProbeEntry) (es : List ProbeEntry) (w : ProbeWindow), s.engine.mac = .running .probe →
    s.engine.probes = e :: es → e.condition = .running → e.isLast = true → (∀ x ∈ es, x.profile ≠ e.profile) →
    (s.profile e.profile).state = .bound → (s.profile e.profile).search.window = some w →
    let n := e.profile
    let p := s.profile n
    let q := p.search
    let fom := p.fomOf (e.endStep s)
    let current := atOrAfter w.oldest s.lane.validFrom s.lane.blockCounter
    let counted : Profile := { p with
      probeRef := false, restartRun := 0, probesRun := satInc p.probesRun, search := { q with window := none } }
    ∃ t new, exec .probePassComplete s = .next t
      ∧ (∀ m, m ≠ n → t.profile m = s.profile m) ∧ t.lane = s.lane ∧ t.slots = s.slots ∧ t.mem = s.mem
      ∧ t.gen = s.gen ∧ t.engine.routes = s.engine.routes ∧ t.engine.jobPass = s.engine.jobPass
      ∧ (∀ p, { t.port p with notices := (s.port p).notices } = s.port p)
      ∧ t.engine.mac = .free ∧ t.engine.probes = es ++ new
      ∧ (∀ x ∈ new, x.profile = n ∧ x.condition = .waiting) ∧ new.length ≤ 1
      ∧ (t.profile n).restartRun = 0
      ∧ (t.profile n).probesRun = (if current then satInc p.probesRun else p.probesRun)
      ∧ (let r := t.profile n
        { r with
          adapt := p.adapt, search := p.search, candidate := p.candidate, lastOutcome := p.lastOutcome
          restartRun := p.restartRun, probesRun := p.probesRun, probeRef := p.probeRef, stage := p.stage
          flipEvent := p.flipEvent, bank0 := p.bank0, bank1 := p.bank1 } = p)
      ∧ (current = false → (∃ trial sel, p.Needs trial sel) → t.Attempts n { counted with probesRun := p.probesRun })
      ∧ (current = true → p.adapt = .searchShape → p.config.mode ≠ 3 → q.trial.val < 15 →
          (t.profile n).search.trial = q.trial + 1
          ∧ ((∀ b, q.bestFom = some b → b < fom) →
              (t.profile n).search.bestFom = some fom ∧ (t.profile n).search.bestTrial = q.trial)
          ∧ ∀ b, q.bestFom = some b → fom ≤ b →
              (t.profile n).search.bestFom = some b ∧ (t.profile n).search.bestTrial = q.bestTrial)
      ∧ (current = true → ∀ (best : Int) (chosen : Fin 32),
          ((∀ b, q.bestFom = some b → b < fom) → best = fom ∧ chosen = q.trial) →
          (∀ b, q.bestFom = some b → fom ≤ b → best = b ∧ chosen = q.bestTrial) →
          let found : SearchPosition := { q with window := none, bestFom := some best, bestTrial := chosen }
          (p.adapt = .searchShape ∨ p.adapt = .searchReshape →
            let stops : Prop := p.adapt = .searchShape ∧ p.config.mode = 3 ∧ p.config.shapingMinimum ≤ fom
            (¬ stops → q.trial.val < 15 → t.Attempts n { counted with search := { found with trial := q.trial + 1 } })
            ∧ ∀ at_ : Fin 32, (stops → at_ = q.trial) → (¬ stops → at_ = chosen) → (stops ∨ 15 ≤ q.trial.val) →
              let shaped : Profile := { counted with
                candidate := { p.candidate with emphasis := Fin.ofNat 16 at_.val }, search := found }
              (p.adapt = .searchReshape → t.Succeeds n shaped .search)
              ∧ (p.adapt = .searchShape → p.config.mode = 1 →
                (p.config.acceptance ≤ best → t.Succeeds n shaped .search)
                ∧ (best < p.config.acceptance → t.Fails n shaped .lowMerit))
              ∧ (p.adapt = .searchShape → p.config.mode = 2 ∨ p.config.mode = 3 → t.Attempts n { shaped with
                  adapt := .searchTrim
                  search := { found with
                    phase := .trim, secondPass := false, tap := 0, trial := 0, bestFom := none, run := 0 } }))
          ∧ (p.adapt = .searchTrim → ∀ run : Fin 3,
            ((∀ b, q.bestFom = some b → b ≤ fom) → run = 0) →
            (∀ b, q.bestFom = some b → fom < b → run = q.run + 1) →
            let ends : Prop := run = 2 ∨ q.trial = p.config.trimCeiling
            let chose : CoeffSet := { p.candidate with weights := vset p.candidate.weights q.tap chosen }
            let tapEnded : Profile := { counted with candidate := chose, search := { found with run := run } }
            (¬ ends → t.Attempts n { counted with search := { found with run := run, trial := q.trial + 1 } })
            ∧ (ends → q.tap.val < 4 → t.Attempts n { tapEnded with search := { found with
                tap := q.tap + 1, trial := 0, bestFom := none, run := 0 } })
            ∧ (ends → q.tap = 4 → p.config.acceptance ≤ best →
              (p.config.mode = 2 → t.Succeeds n tapEnded .search)
              ∧ (p.config.mode = 3 → t.Attempts n { tapEnded with
                  adapt := .searchReshape
                  search := { found with run := run, phase := .reshape, trial := 0, bestFom := none } }))
            ∧ (ends → q.tap = 4 → best < p.config.acceptance →
              (q.secondPass = false → t.Attempts n { counted with
                  candidate := { p.candidate with
                    weights := Vector.replicate 5 0, polarities := p.candidate.polarities.map (fun b => !b) }
                  search := { found with
                    phase := .trim, secondPass := true, tap := 0, trial := 0, bestFom := none, run := 0 } })
              ∧ (q.secondPass = true → t.Fails n tapEnded .lowMerit))))
      ∧ (current = true → p.adapt = .tracking → q.phase = .round →
          (q.currentFom = none →
            t.RoundGoesOn n { counted with search := { q with window := none, currentFom := some fom } } 0)
          ∧ (q.currentFom ≠ none → ∀ (best : Int) (chosen : Fin 32),
            let own : Prop := q.trial = p.candidate.weights.get q.tap
            ((∀ b, q.bestFom = some b → b < fom ∨ (b = fom ∧ own)) → best = fom ∧ chosen = q.trial) →
            (∀ b, q.bestFom = some b → fom < b ∨ (b = fom ∧ ¬ own) → best = b ∧ chosen = q.bestTrial) →
            let found : SearchPosition := { q with window := none, bestFom := some best, bestTrial := chosen }
            (q.trial.val < q.rangeTop.val →
              t.Attempts n { counted with search := { found with trial := q.trial + 1 } })
            ∧ (q.rangeTop.val ≤ q.trial.val → t.RoundGoesOn n { counted with search := { found with
                roundWeights := vset q.roundWeights q.tap chosen, lastFom := some best } } (q.tap.val + 1))))

/-- The scores of a probe and its figure of merit by each selection; −510 for a wrapped probe, and always from −510 to 510 (R88,
R89). The figure of merit of a completed probe takes its three sums, its indications, and the profile's shaping selection for a
SHAPING probe and its trim selection for a TRIM probe (R73). -/
def Obligations.FigureOfMeritOfScores : Prop :=
  (∀ et ee : Nat, residualScore et ee = (if et = 0 ∨ et ≤ ee then 0 else 255 * (et - ee) / et)
      ∧ residualScore et ee ≤ 255)
    ∧ (∀ peak : Nat, headroomScore peak true = 0 ∧ headroomScore peak false = 255 - min 255 (peak / 128))
    ∧ (∀ (c : AdaptConfig) (rs hs : Nat), figureOfMerit c .residual rs hs false = rs
      ∧ figureOfMerit c .headroom rs hs false = hs ∧ figureOfMerit c .both rs hs false = rs + hs
      ∧ figureOfMerit c .weighted rs hs false
          = (2 * ((rs : Int) - c.fomB.val) * c.fomA.val).tdiv 128
            + (2 * ((hs : Int) - c.fomC.val) * (128 - c.fomA.val)).tdiv 128
      ∧ ∀ sel, figureOfMerit c sel rs hs true = -510)
    ∧ (∀ (c : AdaptConfig) (sel : FomSelection) (rs hs : Nat) (wrapped : Bool), rs ≤ 255 → hs ≤ 255 →
      -510 ≤ figureOfMerit c sel rs hs wrapped ∧ figureOfMerit c sel rs hs wrapped ≤ 510)
    ∧ ∀ (p : Profile) (e : ProbeEntry),
      let merit (sel : FomSelection) : Int := figureOfMerit p.config sel (residualScore e.sumTarget e.sumError)
        (headroomScore e.peak e.progress.saturated) e.progress.wrapped
      (e.selection = .shaping → p.fomOf e = merit p.config.shapingFom)
        ∧ (e.selection = .trim → p.fomOf e = merit p.config.trimFom)

/-! ### The end of a job -/

/-- JOB_PASS_END of a job pass in its last step: the unit is FREE, the job leaves the head with JOBS_IDLE if the queue is then
empty, and the last-job record is written; no other port changes. A step that raised ACCESS pushes and stores nothing and sets the
flag; unmasked it also sets error-pending and JOB_STOPPED (R137 to R139, R147).
The model's own readings and choices it rests on: log 12. -/
def Obligations.JobPassEnds : Prop :=
  ∀ (s : State) (j : JobPass) (h : QueueEntry) (rest : List QueueEntry), s.engine.mac = .running .job →
    s.engine.jobPass = some j → j.isLast = true → (s.port j.port).jobs = h :: rest →
    let c := (s.port j.port).ctx
    ∃ t, exec .jobPassEnd s = .next t
      ∧ t.engine = { s.engine with mac := .free, suspendAsked := false, jobPass := none }
      ∧ (t.port j.port).jobs = rest
      ∧ (rest = [] → (t.port j.port).notices.jobsIdle = true)
      ∧ (t.port j.port).ctx.lastKind = j.job.code
      ∧ (t.port j.port).ctx.lastWindow = j.job.place.1 ∧ (t.port j.port).ctx.lastOffset = j.job.place.2
      ∧ (t.port j.port).replies = (s.port j.port).replies ∧ (t.port j.port).moves = (s.port j.port).moves
      ∧ (t.port j.port).windows = (s.port j.port).windows
      ∧ (∀ q, q ≠ j.port → t.port q = s.port q)
      ∧ t.lane = s.lane ∧ t.profiles = s.profiles ∧ t.slots = s.slots ∧ t.shared = s.shared ∧ t.mover = s.mover
      ∧ t.gen = s.gen ∧ t.checkers = s.checkers
      ∧ ((∀ nm o st w k p, j.job ≠ .store nm o st w k p) → t.mem = s.mem)
      ∧ (j.read = .access → c.masks.getLsbD 4 = true →
          (t.port j.port).ctx = { c with
            flags := c.flags ||| 0b10000, c1 := false
            lastKind := j.job.code, lastWindow := j.job.place.1, lastOffset := j.job.place.2 } ∧ t.mem = s.mem)
      ∧ (j.read = .access → c.masks.getLsbD 4 = false →
          (t.port j.port).ctx = { c with
            flags := c.flags ||| 0b10000, c1 := false, errorPending := true
            lastKind := j.job.code, lastWindow := j.job.place.1, lastOffset := j.job.place.2 }
          ∧ (t.port j.port).notices.jobStopped = true ∧ t.mem = s.mem)

/-- What the end of each job does to the context of its port and to memory. PUSH, DOT, ENERGY, PEAK and SWEEP push their values
VALID; DOT and ENERGY with accumulate add into the top; DROP pops; SCALE shifts the top by the second value; STORE fits the shifted
top to its width, writes its words and no other word, and pops when asked. A push onto a full stack, a missing operand, an
accumulate or a left shift past 48 bits, a count out of range, a value that does not fit and a word outside the window raise their
exceptions: masked, the job goes on as its rule says; unmasked, it stops with the flag and error-pending set, JOB_STOPPED told, and
nothing pushed, popped or stored. C0 and C3 follow the value written last, C1 an overflow, C2 the SCALE (R134 to R146).
The model's own readings and choices it rests on: log 12. -/
def Obligations.JobResultsReachStack : Prop :=
  ∀ (s : State) (j : JobPass) (h : QueueEntry) (rest : List QueueEntry), s.engine.mac = .running .job →
    s.engine.jobPass = some j → j.isLast = true → (s.port j.port).jobs = h :: rest → j.read ≠ .access →
    let c := (s.port j.port).ctx
    let ended (d : Context) : Context := { d with
      lastKind := j.job.code, lastWindow := j.job.place.1, lastOffset := j.job.place.2 }
    let kept (d : Context) : Context := ended { d with c1 := false }
    let wrote (d : Context) (v : Acc) : Context := { d with c0 := decide (v.toInt < 0), c3 := decide (v = 0) }
    let onto (d : Context) (v : Acc) : Context := wrote { d with
      top := d.top - 1, tags := vset d.tags (d.top - 1) .valid, stack := vset d.stack (d.top - 1) v } v
    let atTop (d : Context) (v : Acc) (tag : Tag) : Context := wrote { d with
      stack := vset d.stack d.top v, tags := vset d.tags d.top tag } v
    let flagged (k : Nat) : Context := { c with flags := c.flags ||| (1#5 <<< k) }
    let out (v : Int) : Prop := v < -(2 ^ 47) ∨ 2 ^ 47 ≤ v
    ∃ t, exec .jobPassEnd s = .next t ∧
      let now := (t.port j.port).ctx
      let stops (d : Context) : Prop := now = ended { d with errorPending := true }
        ∧ (t.port j.port).notices.jobStopped = true ∧ t.mem = s.mem
      let pushes (v : Acc) : Prop :=
        (c.depth < 8 → now = kept (onto c v))
        ∧ (c.depth = 8 → c.masks.getLsbD 0 = true → now = ended { onto (flagged 0) v with c1 := true })
        ∧ (c.depth = 8 → c.masks.getLsbD 0 = false → stops { flagged 0 with c1 := true })
      let pushesTwo (v u : Acc) : Prop :=
        (c.depth < 7 → now = kept (onto (onto c v) u))
        ∧ (7 ≤ c.depth → c.masks.getLsbD 0 = true → tagsContiguous c.tags c.top = true →
            now = ended { onto (onto (flagged 0) v) u with c1 := true })
        ∧ (7 ≤ c.depth → c.masks.getLsbD 0 = false → stops { flagged 0 with c1 := true })
      let adds (v : Acc) : Prop :=
        let sum : Int := (c.stack.get c.top).toInt + v.toInt
        (0 < c.depth → ¬ out sum → now = kept (atTop c (BitVec.ofInt 48 sum) (c.tags.get c.top)))
        ∧ (0 < c.depth → out sum → c.masks.getLsbD 1 = true →
            now = kept (atTop (flagged 1) (BitVec.ofInt 48 sum) .wrapped))
        ∧ (0 < c.depth → out sum → c.masks.getLsbD 1 = false → stops { flagged 1 with c1 := false })
        ∧ (c.depth = 0 → c.masks.getLsbD 0 = true → now = kept (onto (flagged 0) v))
        ∧ (c.depth = 0 → c.masks.getLsbD 0 = false → stops { flagged 0 with c1 := false })
      let dot (x y : Sample) : Acc := BitVec.ofInt 48 (j.acc.toInt + x.toInt * y.toInt)
      (∀ v, j.job = .push v → pushes (v.signExtend 48))
      ∧ (∀ a b n x y, j.job = .dot a b n false → j.read = .words x y → pushes (dot x y))
      ∧ (∀ a n x y, j.job = .energy a n false → j.read = .words x y → pushes (dot x y))
      ∧ (∀ a b n x y, j.job = .dot a b n true → 0 < n → j.read = .words x y →
          (0 < c.depth → c.tags.get c.top ≠ .empty) → adds (dot x y))
      ∧ (∀ a n x y, j.job = .energy a n true → 0 < n → j.read = .words x y →
          (0 < c.depth → c.tags.get c.top ≠ .empty) → adds (dot x y))
      ∧ (∀ a n x y, j.job = .peak a n → j.read = .words x y →
          (x.toInt.natAbs ≤ j.peak → pushesTwo (BitVec.ofNat 48 j.peak) (BitVec.ofNat 48 j.peakIndex))
          ∧ (j.peak < x.toInt.natAbs → pushesTwo (BitVec.ofNat 48 x.toInt.natAbs) (BitVec.ofNat 48 j.index)))
      ∧ (∀ a b n l x y, j.job = .sweep a b n l → j.read = .words x y → j.index + 1 = n →
          (j.lag = 0 → pushesTwo (dot x y) 0)
          ∧ (0 < j.lag → (dot x y).toInt ≤ j.best.toInt → pushesTwo j.best (BitVec.ofNat 48 j.bestLag))
          ∧ (0 < j.lag → j.best.toInt < (dot x y).toInt → pushesTwo (dot x y) (BitVec.ofNat 48 j.lag)))
      ∧ (j.job = .drop →
          (0 < c.depth → now = kept { c with tags := vset c.tags c.top .empty, top := c.top + 1 })
          ∧ (c.depth = 0 → c.masks.getLsbD 0 = true → now = kept (flagged 0))
          ∧ (c.depth = 0 → c.masks.getLsbD 0 = false → stops { flagged 0 with c1 := false }))
      ∧ (j.job = .scale →
          let k := (c.stack.get (c.top + 1)).toInt
          let v := (c.stack.get c.top).toInt
          let right : Acc := BitVec.ofInt 48 (shiftRight c.rounding v (-k).toNat)
          let left : Int := v * 2 ^ k.toNat
          (2 ≤ c.depth →
            (k < -47 ∨ 47 < k → (c.masks.getLsbD 3 = true → now = kept { flagged 3 with c2 := true })
              ∧ (c.masks.getLsbD 3 = false → stops { flagged 3 with c1 := false, c2 := true }))
            ∧ (-47 ≤ k → k ≤ 0 → now = kept { atTop c right (c.tags.get c.top) with c2 := false })
            ∧ (0 < k → k ≤ 47 →
              (¬ out left → now = kept { atTop c (BitVec.ofInt 48 left) (c.tags.get c.top) with c2 := false })
              ∧ (out left → c.masks.getLsbD 1 = true →
                now = kept { atTop (flagged 1) (BitVec.ofInt 48 left) .wrapped with c2 := false })
              ∧ (out left → c.masks.getLsbD 1 = false → stops { flagged 1 with c1 := false })))
          ∧ (c.depth ≤ 1 → c.masks.getLsbD 0 = false → stops { flagged 0 with c1 := false })
          ∧ (c.depth = 1 → c.masks.getLsbD 0 = true →
            now = kept { wrote (flagged 0) (c.stack.get c.top) with c2 := false })
          ∧ (c.depth = 0 → c.masks.getLsbD 0 = true → now = kept { onto (flagged 0) 0 with c2 := false }))
      ∧ (∀ nm off stride width k pop, j.job = .store nm off stride width k pop →
          let bits : Nat := match width with | .w16 => 16 | .w32 => 32
          let places : List Nat := match width with | .w16 => [off] | .w32 => [off, off + stride]
          let v := shiftRight c.rounding (if c.depth = 0 then 0 else (c.stack.get c.top).toInt) k
          let sat : Prop := v < -(2 ^ (bits - 1)) ∨ 2 ^ (bits - 1) ≤ v
          let fit : BitVec 32 := BitVec.ofInt 32 (max (-(2 ^ (bits - 1))) (min (2 ^ (bits - 1) - 1) v))
          let missing : Prop := ∃ o ∈ places, ∀ a, s.resolve (nm.of j.port) o ≠ .address a
          (c.depth = 0 → c.masks.getLsbD 0 = false → stops { flagged 0 with c1 := false })
          ∧ (sat → c.masks.getLsbD 2 = false → stops { flagged 2 with c1 := false })
          ∧ ((c.depth = 0 → c.masks.getLsbD 0 = true) → (sat → c.masks.getLsbD 2 = true) →
            ∀ d : Context, (c.depth = 0 → d = flagged 0) → (sat → d = flagged 2) → (0 < c.depth → ¬ sat → d = c) →
              (missing → let e : Context := { d with flags := d.flags ||| 0b10000, c1 := false }
                (c.masks.getLsbD 4 = true → now = ended e ∧ t.mem = s.mem)
                ∧ (c.masks.getLsbD 4 = false → stops e))
              ∧ (¬ missing →
                (pop = true → 0 < c.depth →
                  now = kept { d with tags := vset d.tags d.top .empty, top := d.top + 1 })
                ∧ (pop = false ∨ c.depth = 0 → now = kept d)
                ∧ (s.MemoryCanonical → ∀ a1, s.resolve (nm.of j.port) off = .address a1 →
                  (width = .w16 →
                    ∀ b, memRead t.mem b = if b = a1 then fit.extractLsb' 0 16 else memRead s.mem b)
                  ∧ (width = .w32 → ∀ a2, s.resolve (nm.of j.port) (off + stride) = .address a2 →
                    ∀ b, memRead t.mem b = if b = a2 then fit.extractLsb' 16 16
                      else if b = a1 then fit.extractLsb' 0 16 else memRead s.mem b)))))

/-- The right shift in its three rounding modes, and SCALE on a stack of two or more values with every exception masked: out of −47
to 47 it raises RANGE and keeps the top; a left shift that does not fit raises WRAP and keeps the wrapped value tagged WRAPPED; any
other count writes the shifted value (R144, R145). -/
def Obligations.ScaleShiftsTop : Prop :=
  (∀ (m : Rounding) (v : Int), shiftRight m v 0 = v)
    ∧ (∀ (v : Int) (k : Nat), 0 < k →
      shiftRight .nearest v k = (v + 2 ^ (k - 1)) / 2 ^ k ∧ shiftRight .towardZero v k = v.tdiv (2 ^ k)
      ∧ shiftRight .down v k = v / 2 ^ k)
    ∧ ([Rounding.nearest, .towardZero, .down].map fun m =>
        [shiftRight m (-5) 1, shiftRight m 5 1, shiftRight m (-6) 2]) = [[-2, 3, -1], [-2, 2, -1], [-3, 2, -2]]
    ∧ ∀ c : Context, 2 ≤ c.depth → c.masks = 0b11111 →
      let k := (c.stack.get (c.top + 1)).toInt
      let v := (c.stack.get c.top).toInt
      let r := scaleEnd c
      (k < -47 ∨ 47 < k → r.ctx = { c with flags := c.flags ||| 0b01000 } ∧ r.c2 = some true ∧ r.written = none)
        ∧ (-47 ≤ k → k ≤ 0 → r.c2 = some false
            ∧ r.ctx = { c with stack := vset c.stack c.top (BitVec.ofInt 48 (shiftRight c.rounding v (-k).toNat)) })
        ∧ (0 < k → k ≤ 47 → r.c2 = some false
            ∧ (-(2 ^ 47) ≤ v * 2 ^ k.toNat ∧ v * 2 ^ k.toNat < 2 ^ 47 →
                r.ctx = { c with stack := vset c.stack c.top (BitVec.ofInt 48 (v * 2 ^ k.toNat)) })
            ∧ (v * 2 ^ k.toNat < -(2 ^ 47) ∨ 2 ^ 47 ≤ v * 2 ^ k.toNat →
                r.ctx = { c with
                  flags := c.flags ||| 0b00010, tags := vset c.tags c.top .wrapped
                  stack := vset c.stack c.top (BitVec.ofInt 48 (v * 2 ^ k.toNat)) }))
        ∧ r.stopped = false

/-! ### The profile table -/

/-- The checks that come first: an operand out of range is refused BAD_VALUE; a profile command on a profile that is not BOUND is
refused NO_SUCH, and a leader-only one from another port NOT_LEADER; and each refusal changes nothing else (2.2, 3.1, R22, R114,
R116, R119, R126, R152, R172, R175).
The model's own readings and choices it rests on: log 2 (the row of an action word above 2), log 14 (the kind and action codes), log
15. -/
def Obligations.OperandsAndRightsChecked : Prop :=
  ∀ (s : State) (f : Frame) (pl : List Word), s.Takes f pl →
    let refused (c : Frame → Instr) (code : Byte) (st : Status) : Prop :=
      exec (c f) s = .next ((receive f s).reply f.port code f.tag (st, []))
    let member : List ((Frame → Instr) × Byte) := [(.lead, 0x12), (.follow, 0x14), (.unfollow, 0x15)]
    let led : List ((Frame → Instr) × Byte) := [(.delete, 0x11), (.release, 0x13), (.commit, 0x18), (.adapt, 0x1A),
      (.abortAdapt, 0x1B), (.freeze, 0x1C), (.clearFlags, 0x1D)]
    (∀ w, pl = [w] →
        (31 < w.toNat → ∀ x ∈ member ++ led, refused x.1 x.2 .badValue)
        ∧ (∀ n : ProfileId, w = finWord n →
            ((s.profile n).state ≠ .bound → ∀ x ∈ member ++ led, refused x.1 x.2 .noSuch)
            ∧ ((s.profile n).state = .bound → (s.profile n).leader ≠ some f.port →
                ∀ x ∈ led, refused x.1 x.2 .notLeader))
        ∧ (15 < w.toNat → refused .claimSlot 0x20 .badValue ∧ refused .freeSlot 0x21 .badValue)
        ∧ (1 < w.toNat → refused .readChecker 0x64 .badValue ∧ refused .releaseChecker 0x66 .badValue)
        ∧ (windowName? w = none → refused .closeWindow 0x31 .badValue))
      ∧ (∀ w v, pl = [w, v] →
        (15 < w.toNat → refused .mute 0x23 .badValue ∧ refused .readSlot 0x24 .badValue)
        ∧ (∀ i : SlotId, w = finWord i → 1 < v.toNat → refused .readSlot 0x24 .badValue
            ∧ ((s.slot i).owner = some f.port → refused .mute 0x23 .badValue))
        ∧ (1 < w.toNat ∨ 15 < v.toNat → refused .claimChecker 0x63 .badValue)
        ∧ (1 < w.toNat → v = 0 → refused .checkerFreeze 0x65 .badValue)
        ∧ (1 < w.toNat → v = 1 → refused .checkerUnfreeze 0x65 .badValue)
        ∧ (1 < w.toNat → v = 2 → refused .checkerClear 0x65 .badValue)
        ∧ (2 < v.toNat → refused .checkerFreeze 0x65 .badValue)
        ∧ (3 < w.toNat ∨ 1 < v.toNat → refused .moveStatus 0x35 .badValue)
        ∧ (windowName? w = none ∨ 32767 < v.toNat → refused .save 0x50 .badValue ∧ refused .saveNow 0x51 .badValue
            ∧ refused .saveEnv 0x52 .badValue ∧ refused .restore 0x53 .badValue ∧ refused .restoreEnv 0x54 .badValue))
      ∧ ∀ w v u, pl = [w, v, u] →
        (15 < w.toNat → refused .route 0x22 .badValue)
        ∧ (31 < w.toNat → refused .readProfile 0x16 .badValue)
        ∧ (1 < w.toNat → refused .openWindow 0x30 .badValue)
        ∧ (windowName? w = none → refused .readWords 0x33 .badValue)

/-- CREATE: the lowest FREE record becomes a BOUND profile of that channel led by the port, with no followers; with none FREE it
is refused FULL, and a channel above 15 is refused BAD_VALUE first (R19). -/
def Obligations.CreateBindsLowestFreeRecord : Prop :=
  ∀ (s : State) (f : Frame) (w : Word), s.Takes f [w] →
    let r := receive f s
    (15 < w.toNat → exec (.create f) s = .next (r.reply f.port 0x10 f.tag (.badValue, [])))
      ∧ (∀ (c : Channel), w = finWord c →
        ((∀ n, (s.profile n).state ≠ .free) → exec (.create f) s = .next (r.reply f.port 0x10 f.tag (.full, [])))
        ∧ ∀ n, (s.profile n).state = .free → (∀ m, m < n → (s.profile m).state ≠ .free) →
          exec (.create f) s = .next ((r.modProfile n fun q => { q with
            state := .bound, channel := c, leader := some f.port, followers := 0 }).reply f.port 0x10 f.tag
              (.ok, [finWord n])))

/-- DELETE of a BOUND profile by its leader that no slot names: the five steps of R20, of which the first ends an adaptation ABORTED
with its probe withdrawn and no ADAPT_DONE (R71, R111), and the second cancels a commit with no COMMITTED; after them the profile is
RETIRING while a route pass still reads a bank, and else its record is cleared with PROFILE_GONE to the port (R21). A profile a slot
names is refused IN_USE. PROFILE_FREED does the same for a RETIRING profile that nothing reads.
The model's own readings and choices it rests on: log 5, 9 (the ring entries of a cleared record). -/
def Obligations.DeleteRetiresProfile : Prop :=
  (∀ (s : State) (f : Frame) (n : ProfileId), s.Takes f [finWord n] → (s.profile n).state = .bound →
      (s.profile n).leader = some f.port → s.profileInUse n = true →
      exec (.delete f) s = .next ((receive f s).reply f.port 0x11 f.tag (.inUse, [])))
    ∧ (∀ (s : State) (f : Frame) (n : ProfileId), s.Takes f [finWord n] → (s.profile n).state = .bound →
      (s.profile n).leader = some f.port → s.profileInUse n = false → s.ProbesCounted →
      ((s.profile n).adapt = .idle → (s.profile n).probeRef = false) →
      ∃ t, exec (.delete f) s = .next t
        ∧ (t.port f.port).replies
            = ((receive f s).port f.port).replies ++ [⟨0x11, f.tag, .accepted, []⟩]
        ∧ (∀ p, (s.profile n).followers.getLsbD p.val = true → (t.port p).notices.profileGone.getLsbD n.val = true)
        ∧ ((s.profile n).refs0 + (s.profile n).refs1 = 0 → t.profile n = .cleared
            ∧ (t.port f.port).notices.profileGone.getLsbD n.val = true)
        ∧ (0 < (s.profile n).refs0 + (s.profile n).refs1 → (t.profile n).state = .retiring
            ∧ (t.profile n).leader = none ∧ (t.profile n).followers = 0 ∧ (t.profile n).deletingPort = some f.port
            ∧ (t.profile n).stage = .none ∧ (t.profile n).flipEvent = none ∧ (t.profile n).adapt = .idle
            ∧ (t.profile n).live = (s.profile n).live ∧ (t.profile n).generation = (s.profile n).generation
            ∧ (t.profile n).candidate = (s.profile n).candidate ∧ (t.profile n).probeRef = false
            ∧ ((s.profile n).adapt = .idle → (t.profile n).SameAdaptation (s.profile n))
            ∧ ((s.profile n).adapt ≠ .idle → (t.profile n).lastOutcome = .aborted
              ∧ (t.profile n).search = { (s.profile n).search with phase := .none, window := none }))
        ∧ (∀ x, x ∈ t.engine.probes ↔ x ∈ s.engine.probes ∧ x.profile ≠ n)
        ∧ (∀ x ∈ s.engine.probes, x.profile = n → x.condition = .running → t.engine.mac = .draining)
        ∧ ((∀ x ∈ s.engine.probes, x.profile = n → x.condition ≠ .running) → t.engine.mac = s.engine.mac)
        ∧ (∀ q, (t.port q).notices.adaptDone = (s.port q).notices.adaptDone
          ∧ (t.port q).notices.committed = (s.port q).notices.committed)
        ∧ (∀ q, q ≠ f.port → { t.port q with notices := (s.port q).notices } = s.port q)
        ∧ (∀ m, m ≠ n → t.profile m = s.profile m) ∧ t.slots = s.slots ∧ t.engine.routes = s.engine.routes
        ∧ t.lane = s.lane ∧ t.mem = s.mem ∧ t.gen = s.gen)
    ∧ ∀ (s : State) (n : ProfileId) (p : Port), (s.profile n).state = .retiring → (s.profile n).refs0 = 0 →
      (s.profile n).refs1 = 0 → (s.profile n).probeRef = false → (s.profile n).deletingPort = some p →
      exec (.profileFreed n) s = .next ((s.notify p (.profileGone n)).modProfile n fun _ => .cleared)

/-- LEAD, RELEASE, FOLLOW and UNFOLLOW of a BOUND profile (R23 to R25); RELEASE is refused ADAPTING and BUSY in that order. -/
def Obligations.LeaderAndFollowers : Prop :=
  ∀ (s : State) (f : Frame) (n : ProfileId), s.Takes f [finWord n] → (s.profile n).state = .bound →
    let r := receive f s
    let q := s.profile n
    let ok (t : State) (code : Byte) : State := t.reply f.port code f.tag (.ok, [])
    (q.leader = none → exec (.lead f) s = .next (ok (r.modProfile n fun x => { x with
        leader := some f.port, followers := x.followers &&& ~~~(1#4 <<< f.port.val) }) 0x12))
      ∧ (q.leader = some f.port → exec (.lead f) s = .next (ok r 0x12))
      ∧ (∀ p, q.leader = some p → p ≠ f.port →
          exec (.lead f) s = .next (r.reply f.port 0x12 f.tag (.held, [])))
      ∧ (q.leader = some f.port → q.adapt ≠ .idle →
          exec (.release f) s = .next (r.reply f.port 0x13 f.tag (.adapting, [])))
      ∧ (q.leader = some f.port → q.adapt = .idle → q.stage ≠ .none →
          exec (.release f) s = .next (r.reply f.port 0x13 f.tag (.busy, [])))
      ∧ (q.leader = some f.port → q.adapt = .idle → q.stage = .none →
          exec (.release f) s = .next (ok ((r.notifySet q.followers (.leaderless n)).modProfile n fun x => { x with
            leader := none, followers := x.followers ||| (1#4 <<< f.port.val) }) 0x13))
      ∧ (q.leader ≠ some f.port →
          exec (.release f) s = .next (r.reply f.port 0x13 f.tag (.notLeader, []))
          ∧ exec (.follow f) s = .next (ok (r.modProfile n fun x => { x with
              followers := x.followers ||| (1#4 <<< f.port.val) }) 0x14))
      ∧ (q.leader = some f.port → exec (.follow f) s = .next (ok r 0x14))
      ∧ (q.followers.getLsbD f.port.val = false → exec (.unfollow f) s = .next (ok r 0x15))
      ∧ (q.followers.getLsbD f.port.val = true →
          (s.portUses f.port n = true → exec (.unfollow f) s = .next (r.reply f.port 0x15 f.tag (.inUse, [])))
          ∧ (s.portUses f.port n = false → exec (.unfollow f) s = .next (ok (r.modProfile n fun x => { x with
              followers := x.followers &&& ~~~(1#4 <<< f.port.val) }) 0x15)))

/-- READ PROFILE answers any port on a profile in any state, changes nothing, and gives the part named (R44); a part code above 4,
or a start index above 63 for a set part, is refused BAD_VALUE. The words of each part are those of R189.
The model's own readings and choices it rests on: log 14, 26 (the reference word of a generator target). -/
def Obligations.ReadProfileGivesPart : Prop :=
  ∀ (s : State) (f : Frame) (n : ProfileId) (part start : Word), s.Takes f [finWord n, part, start] →
    let q := s.profile n
    let answer (a : Answer) : Prop := exec (.readProfile f) s = .next ((receive f s).reply f.port 0x16 f.tag a)
    let taps (c : CoeffSet) : List Word := (c.taps.toList.drop start.toNat).take 56
    let entry (i : Fin 4) : List Word :=
      let e := q.ring.get i
      optWords32 e.block ++ [match e.state with | .none => 0 | .pending => 1 | .valid => 2 | .expired => 3]
        ++ words32 e.generation ++ [boolWord e.saturated]
    let summary : List Word :=
      [match q.state with | .free => 0 | .bound => 1 | .retiring => 2, finWord q.channel, portWord q.leader,
        q.followers.setWidth 16, match q.live with | .bank0 => 0 | .bank1 => 1] ++ words32 q.generation
      ++ [natWord q.refs0, natWord q.refs1, boolWord q.probeRef,
        match q.stage with | .none => 0 | .waitingSpare => 1 | .waitingFlip => 2] ++ optWords32 q.flipEvent
      ++ [match q.adapt with
          | .idle => 0 | .searchShape => 1 | .searchTrim => 2 | .searchReshape => 3 | .committing => 4 | .tracking => 5,
        match q.lastOutcome with
          | .none => 0 | .done => 1 | .lowMerit => 2 | .starved => 3 | .noTarget => 4 | .aborted => 5,
        q.probesRun, natWord q.restartRun, boolWord q.dynamicSat, boolWord q.staticSat, boolWord q.wrap, q.expiredCount]
      ++ entry 0 ++ entry 1 ++ entry 2 ++ entry 3
    let selection (x : FomSelection) : Word := match x with
      | .residual => 0 | .headroom => 1 | .both => 2 | .weighted => 3
    let c := q.config
    let polarity (j : Fin 5) : Word := boolWord (c.startPolarities.get j)
    let config : List Word :=
      [finWord c.mode, selection c.shapingFom, selection c.trimFom, finWord c.fomA, finWord c.fomB, finWord c.fomC,
        BitVec.ofInt 16 c.shapingMinimum, BitVec.ofInt 16 c.acceptance, polarity 0, polarity 1, polarity 2, polarity 3,
        polarity 4, finWord c.trimCeiling, match c.probeLength with | .w32 => 32 | .w64 => 64 | .w128 => 128]
      ++ (match c.target with
        | .window nm off => [0, nm.word, finWord off]
        | .generator lag => [1, 0, finWord lag])
      ++ [boolWord c.continuous, finWord c.trackInterval, finWord c.lookAhead, finWord c.allowableChange,
        finWord c.hysteresis]
    let head (d : CoeffSet) : List Word :=
      let w (j : Fin 5) : Nat := (d.weights.get j).val
      let b (j : Fin 5) : Nat := if d.polarities.get j then 1 else 0
      [natWord (d.emphasis.val + 16 * d.gain.val + 64 * b 0 + 128 * b 1 + 256 * b 2 + 512 * b 3 + 1024 * b 4),
        finWord d.tapCount, natWord (w 0 + 32 * w 1 + 1024 * w 2), natWord (w 3 + 32 * w 4)]
    (part = 0 → answer (.ok, summary)) ∧ (part = 1 → answer (.ok, config))
      ∧ (start.toNat ≤ 63 →
          (part = 2 → answer (.ok, head q.liveSet ++ words32 (q.bank q.live).generation ++ taps q.liveSet))
          ∧ (part = 3 → answer (.ok, head (q.bank q.spare).set ++ words32 (q.bank q.spare).generation
              ++ taps (q.bank q.spare).set))
          ∧ (part = 4 → answer (.ok, head q.candidate ++ taps q.candidate)))
      ∧ (63 < start.toNat → 2 ≤ part.toNat → answer (.badValue, []))
      ∧ (4 < part.toNat → answer (.badValue, []))

/-- WRITE CANDIDATE from the leader, with the profile not adapting and no commit waiting for the spare: the listed fields are set
together, or BAD_VALUE changes none. It is refused NO_SUCH, NOT_LEADER, ADAPTING and BUSY in that order. A field that is not
selected is kept, and a field selected alone takes its value words when they are in range, and else is refused, a weight above 31
and a polarity code above 1 among them (R27, R30, R189).
The model's own readings and choices it rests on: log 14. -/
def Obligations.WriteCandidateSetsFields : Prop :=
  (∀ (s : State) (f : Frame) (pl : List Word), s.Takes f pl → writeCandidateVerdict pl = .fits →
      let r := receive f s
      let refused (st : Status) : Prop := exec (.writeCandidate f) s = .next (r.reply f.port 0x17 f.tag (st, []))
      (31 < (arg pl 0).toNat → refused .badValue)
      ∧ ∀ n : ProfileId, arg pl 0 = finWord n →
        ((s.profile n).state ≠ .bound → refused .noSuch)
        ∧ ((s.profile n).state = .bound → (s.profile n).leader ≠ some f.port → refused .notLeader)
        ∧ ((s.profile n).state = .bound → (s.profile n).leader = some f.port →
          ((s.profile n).adapt ≠ .idle → refused .adapting)
          ∧ ((s.profile n).adapt = .idle →
            ((s.profile n).stage = .waitingSpare → refused .busy)
            ∧ ((s.profile n).stage ≠ .waitingSpare →
              (candidateOf pl (s.profile n).candidate = none → refused .badValue)
              ∧ ∀ c, candidateOf pl (s.profile n).candidate = some c →
                exec (.writeCandidate f) s = .next ((r.modProfile n fun q => { q with candidate := c }).reply f.port 0x17
                  f.tag (.ok, []))))))
    ∧ (∀ (pl : List Word) (c d : CoeffSet), candidateOf pl c = some d →
      let sel := (arg pl 1).toNat
      (sel.testBit 0 = false → d.emphasis = c.emphasis) ∧ (sel.testBit 1 = false → d.tapCount = c.tapCount)
        ∧ (sel.testBit 2 = false → d.taps = c.taps) ∧ (sel.testBit 3 = false → d.weights = c.weights)
        ∧ (sel.testBit 4 = false → d.polarities = c.polarities) ∧ (sel.testBit 5 = false → d.gain = c.gain))
    ∧ (∀ (n w : Word) (c : CoeffSet),
      candidateOf [n, 1, w] c = (if h : w.toNat < 16 then some { c with emphasis := ⟨w.toNat, h⟩ } else none)
      ∧ candidateOf [n, 2, w] c = (if h : w.toNat < 65 then some { c with tapCount := ⟨w.toNat, h⟩ } else none)
      ∧ candidateOf [n, 32, w] c = (if h : w.toNat < 3 then some { c with gain := ⟨w.toNat, h⟩ } else none))
    ∧ (∀ (n start : Word) (vs : List Word) (c : CoeffSet), vs.length ≤ 56 →
      (1 ≤ vs.length ∧ start.toNat + vs.length ≤ 64 →
        ∃ d, candidateOf ([n, 4, start, natWord vs.length] ++ vs) c = some d
          ∧ ∀ i : Fin 64, d.taps.get i
              = if start.toNat ≤ i.val ∧ i.val < start.toNat + vs.length then vs.getD (i.val - start.toNat) 0
                else c.taps.get i)
      ∧ (vs.length = 0 ∨ 64 < start.toNat + vs.length →
        candidateOf ([n, 4, start, natWord vs.length] ++ vs) c = none))
    ∧ (∀ (n : Word) (w : Vector (Fin 32) 5) (c : CoeffSet),
      candidateOf ([n, 8] ++ w.toList.map finWord) c = some { c with weights := w })
    ∧ (∀ (n : Word) (ws : List Word) (c : CoeffSet), ws.length = 5 →
      ((∃ w ∈ ws, 31 < w.toNat) → candidateOf ([n, 8] ++ ws) c = none)
      ∧ ((∃ w ∈ ws, 1 < w.toNat) → candidateOf ([n, 16] ++ ws) c = none))
    ∧ ∀ (n : Word) (b : Vector Bool 5) (c : CoeffSet),
      candidateOf ([n, 16] ++ b.toList.map boolWord) c = some { c with polarities := b }

/-- COMMIT from the leader of a profile that neither adapts nor commits is ACCEPTED: with the spare bank unreferenced the candidate
is copied there at once, at the committed generation plus one, to flip at B + 1; else it waits for the spare. It is refused NO_SUCH,
NOT_LEADER, ADAPTING and BUSY in that order. COMMIT_COPY makes the copy of a waiting commit (R33).
The model's own readings and choices it rests on: log 5. -/
def Obligations.CommitCopiesToSpare : Prop :=
  (∀ (s : State) (f : Frame) (n : ProfileId), s.Takes f [finWord n] →
      let q := s.profile n
      let refused (st : Status) : Prop := exec (.commit f) s = .next ((receive f s).reply f.port 0x18 f.tag (st, []))
      (q.state ≠ .bound → refused .noSuch)
        ∧ (q.state = .bound → q.leader ≠ some f.port → refused .notLeader)
        ∧ (q.state = .bound → q.leader = some f.port → q.adapt ≠ .idle → refused .adapting)
        ∧ (q.state = .bound → q.leader = some f.port → q.adapt = .idle → q.stage ≠ .none → refused .busy)) ∧
  (∀ (s : State) (f : Frame) (n : ProfileId), s.Takes f [finWord n] → (s.profile n).state = .bound →
      (s.profile n).leader = some f.port → (s.profile n).adapt = .idle → (s.profile n).stage = .none →
      let q := s.profile n
      ∃ t, exec (.commit f) s = .next (((receive f s).modProfile n fun _ => t).reply f.port 0x18 f.tag (.accepted, []))
        ∧ (0 < q.refs q.spare → t = { q with stage := .waitingSpare })
        ∧ (q.refs q.spare = 0 → q.live = .bank0 → t = { q with
            bank1 := ⟨q.candidate, q.generation + 1⟩, stage := .waitingFlip
            flipEvent := some (s.lane.blockCounter + 1) })
        ∧ (q.refs q.spare = 0 → q.live = .bank1 → t = { q with
            bank0 := ⟨q.candidate, q.generation + 1⟩, stage := .waitingFlip
            flipEvent := some (s.lane.blockCounter + 1) }))
    ∧ (∀ (s : State) (n : ProfileId), (s.profile n).stage = .waitingSpare →
      (s.profile n).refs (s.profile n).spare = 0 →
      ((s.profile n).live = .bank0 → exec (.commitCopy n) s = .next (s.modProfile n fun q => { q with
        bank1 := ⟨q.candidate, q.generation + 1⟩, stage := .waitingFlip, flipEvent := some (s.lane.blockCounter + 1) }))
      ∧ ((s.profile n).live = .bank1 → exec (.commitCopy n) s = .next (s.modProfile n fun q => { q with
        bank0 := ⟨q.candidate, q.generation + 1⟩, stage := .waitingFlip, flipEvent := some (s.lane.blockCounter + 1) })))
    ∧ ∀ (s : State) (n : ProfileId), ((s.profile n).stage ≠ .waitingSpare ∨
      0 < (s.profile n).refs (s.profile n).spare) → ∃ t, exec (.commitCopy n) s = .next t ∧ t.profile n = s.profile n
        ∧ t.lane = s.lane ∧ t.engine = s.engine ∧ t.ports = s.ports

/-- SET FIELDS: a value out of range refuses the whole command; else each profile of the mask that is BOUND, led by the port and
IDLE, or TRACKING with tracking fields alone, takes every listed field, every other one keeps its record, and the reply gives the
applied and the skipped mask, which together make up the mask requested (R39, R107). A field that is not listed is kept, and a field
listed alone takes its value words within the ranges of R38 and else is refused.
The model's own readings and choices it rests on: log 14. -/
def Obligations.SetFieldsOnLedProfiles : Prop :=
  (∀ (a b lo hi : Word) (vs : List Word) (c d : AdaptConfig), configOf ([a, b, lo, hi] ++ vs) c = some d →
      let kept (i : Nat) : Prop := (hi ++ lo : BitVec 32).getLsbD i = false
      (kept 0 → d.mode = c.mode) ∧ (kept 1 → d.shapingFom = c.shapingFom) ∧ (kept 2 → d.trimFom = c.trimFom)
        ∧ (kept 3 → d.fomA = c.fomA) ∧ (kept 4 → d.fomB = c.fomB) ∧ (kept 5 → d.fomC = c.fomC)
        ∧ (kept 6 → d.shapingMinimum = c.shapingMinimum) ∧ (kept 7 → d.acceptance = c.acceptance)
        ∧ (kept 8 → d.startPolarities = c.startPolarities) ∧ (kept 9 → d.trimCeiling = c.trimCeiling)
        ∧ (kept 10 → d.probeLength = c.probeLength) ∧ (kept 11 → d.target = c.target)
        ∧ (kept 12 → d.continuous = c.continuous) ∧ (kept 13 → d.trackInterval = c.trackInterval)
        ∧ (kept 14 → d.lookAhead = c.lookAhead) ∧ (kept 15 → d.allowableChange = c.allowableChange)
        ∧ (kept 16 → d.hysteresis = c.hysteresis))
    ∧ (∀ (a b w : Word) (c : AdaptConfig),
      let one (lo : Word) : Option AdaptConfig := configOf [a, b, lo, 0, w] c
      let bounded (lo : Word) (n : Nat) (set : Fin n → AdaptConfig) : Prop :=
        one lo = if h : w.toNat < n then some (set ⟨w.toNat, h⟩) else none
      let selects (lo : Word) (set : FomSelection → AdaptConfig) : Prop :=
        one lo = if w = 0 then some (set .residual) else if w = 1 then some (set .headroom)
          else if w = 2 then some (set .both) else if w = 3 then some (set .weighted) else none
      let merit (lo : Word) (set : Int → AdaptConfig) : Prop :=
        one lo = if -510 ≤ w.toInt ∧ w.toInt ≤ 510 then some (set w.toInt) else none
      bounded 0x0001 4 (fun v => { c with mode := v })
        ∧ selects 0x0002 (fun v => { c with shapingFom := v }) ∧ selects 0x0004 (fun v => { c with trimFom := v })
        ∧ bounded 0x0008 129 (fun v => { c with fomA := v }) ∧ bounded 0x0010 256 (fun v => { c with fomB := v })
        ∧ bounded 0x0020 256 (fun v => { c with fomC := v })
        ∧ merit 0x0040 (fun v => { c with shapingMinimum := v }) ∧ merit 0x0080 (fun v => { c with acceptance := v })
        ∧ bounded 0x0200 32 (fun v => { c with trimCeiling := v })
        ∧ one 0x0400 = (if w = 32 then some { c with probeLength := .w32 }
          else if w = 64 then some { c with probeLength := .w64 }
          else if w = 128 then some { c with probeLength := .w128 } else none)
        ∧ one 0x1000 = (if w = 0 then some { c with continuous := false }
          else if w = 1 then some { c with continuous := true } else none)
        ∧ (w ≠ 0 → bounded 0x2000 256 (fun v => { c with trackInterval := v })
          ∧ bounded 0x4000 8 (fun v => { c with lookAhead := v }))
        ∧ (w = 0 → one 0x2000 = none ∧ one 0x4000 = none)
        ∧ bounded 0x8000 16 (fun v => { c with allowableChange := v })
        ∧ configOf [a, b, 0, 1, w] c = if h : w.toNat < 256 then some { c with hysteresis := ⟨w.toNat, h⟩ } else none)
    ∧ (∀ (a b : Word) (c : AdaptConfig),
      (∀ v : Vector Bool 5, configOf ([a, b, 0x0100, 0] ++ v.toList.map boolWord) c
        = some { c with startPolarities := v })
      ∧ (∀ ws : List Word, ws.length = 5 → (∃ w ∈ ws, 1 < w.toNat) → configOf ([a, b, 0x0100, 0] ++ ws) c = none)
      ∧ ∀ kind ref off : Word, let target := configOf [a, b, 0x0800, 0, kind, ref, off] c
        (∀ nm, kind = 0 → windowName? ref = some nm →
          target = if h : off.toNat < 32768 then some { c with target := .window nm ⟨off.toNat, h⟩ } else none)
        ∧ (kind = 0 → windowName? ref = none → target = none)
        ∧ (kind = 1 → target = if h : off.toNat < 256 then some { c with target := .generator ⟨off.toNat, h⟩ } else none)
        ∧ (1 < kind.toNat → target = none))
    ∧ ∀ (s : State) (f : Frame) (pl : List Word), s.Takes f pl → setFieldsVerdict pl = .fits →
    let mask := word32 (arg pl 0) (arg pl 1)
    let takes (n : ProfileId) : Prop := mask.getLsbD n.val = true ∧ (s.profile n).state = .bound
      ∧ (s.profile n).leader = some f.port
      ∧ ((s.profile n).adapt = .idle ∨ ((s.profile n).adapt = .tracking ∧ ∀ i ∈ fieldsOf pl, 12 ≤ i))
    (configOf pl .default = none →
        exec (.setFields f) s = .next ((receive f s).reply f.port 0x19 f.tag (.badValue, [])))
      ∧ (configOf pl .default ≠ none → ∃ t applied skipped, exec (.setFields f) s = .next t
        ∧ (t.port f.port).replies = ((receive f s).port f.port).replies
            ++ [⟨0x19, f.tag, .ok, words32 applied ++ words32 skipped⟩]
        ∧ applied ||| skipped = mask ∧ applied &&& skipped = 0
        ∧ (∀ n, takes n → applied.getLsbD n.val = true ∧ ∃ c, configOf pl (s.profile n).config = some c
            ∧ t.profile n = { s.profile n with
                config := c
                adapt := if (s.profile n).adapt = .tracking ∧ (s.profile n).search.phase ≠ .round
                    ∧ c.continuous = false then .idle else (s.profile n).adapt })
        ∧ (∀ n, ¬ takes n → applied.getLsbD n.val = false ∧ t.profile n = s.profile n)
        ∧ t.slots = s.slots ∧ t.engine = s.engine ∧ t.mem = s.mem)

/-- CLEAR FLAGS: NO_SUCH unless BOUND, NOT_LEADER unless the leader; else the reply gives the two flags and the count as they
stood, and they are cleared, the dynamic flag kept (R43). -/
def Obligations.ClearFlagsReportsAndClears : Prop :=
  ∀ (s : State) (f : Frame) (n : ProfileId), s.Takes f [finWord n] →
    let r := receive f s
    let q := s.profile n
    (q.state ≠ .bound → exec (.clearFlags f) s = .next (r.reply f.port 0x1D f.tag (.noSuch, [])))
      ∧ (q.state = .bound → q.leader ≠ some f.port →
          exec (.clearFlags f) s = .next (r.reply f.port 0x1D f.tag (.notLeader, [])))
      ∧ (q.state = .bound → q.leader = some f.port →
          exec (.clearFlags f) s = .next ((r.modProfile n fun x => { x with
            staticSat := false, wrap := false, expiredCount := 0 }).reply f.port 0x1D f.tag
              (.ok, [if q.staticSat then 1 else 0, if q.wrap then 1 else 0, q.expiredCount])))

/-! ### Adaptation -/

/-- ADAPT that passes its four checks is ACCEPTED: SEARCH_SHAPE from trial 0 with the live set in the candidate, its trim cleared to
the start polarities in modes 2 and 3, the counters and the outcome cleared, and the first probe queued when the blocks it needs are
at or after v (R92, R96). The four refusals come in their order; the target is there when the generator is RUNNING, or when the
window named, a private one being the port's own, is open and holds offset plus W words (R96 step 4).
The model's own readings and choices it rests on: log 21. -/
def Obligations.AdaptStartsShapingSearch : Prop :=
  ∀ (s : State) (f : Frame) (n : ProfileId), s.Takes f [finWord n] → (s.profile n).state = .bound →
    (s.profile n).leader = some f.port → (s.profile n).probeRef = false →
    let q := s.profile n
    let refused (st : Status) : Prop := exec (.adapt f) s = .next ((receive f s).reply f.port 0x1A f.tag (st, []))
    let c : Nat := (q.config.probeLength.samples + max q.liveSet.tapCount.val 1 + 31) / 32
    let oldest : Block := s.lane.blockCounter - BitVec.ofNat 32 c + 1
    let ready : Prop := (∀ lag, q.config.target = .generator lag → s.gen.running = true)
      ∧ ∀ nm off, q.config.target = .window nm off →
        ∃ w, s.windowOf (nm.of f.port) = some w ∧ off.val + q.config.probeLength.samples ≤ w.length
    (q.config.mode = 0 ∨ q.adapt ≠ .idle → refused .wrongState)
      ∧ (q.config.mode ≠ 0 → q.adapt = .idle →
        (q.stage ≠ .none → refused .busy)
        ∧ (q.stage = .none →
          (s.lane.state ≠ .running → refused .noClock)
          ∧ (s.lane.state = .running →
            (¬ ready → refused .noTarget)
            ∧ (ready → ∃ t, exec (.adapt f) s = .next t
              ∧ (t.port f.port).replies
                  = ((receive f s).port f.port).replies ++ [⟨0x1A, f.tag, .accepted, []⟩]
              ∧ (∀ m, m ≠ n → t.profile m = s.profile m) ∧ t.slots = s.slots ∧ t.mem = s.mem ∧ t.lane = s.lane
              ∧ t.engine.routes = s.engine.routes ∧ t.engine.jobPass = s.engine.jobPass ∧ t.gen = s.gen
              ∧ (t.profile n).adapt = .searchShape ∧ (t.profile n).search.phase = .shape
              ∧ (t.profile n).search.trial = 0 ∧ (t.profile n).search.bestFom = none
              ∧ (t.profile n).restartRun = 0 ∧ (t.profile n).probesRun = 0 ∧ (t.profile n).lastOutcome = .none
              ∧ (q.config.mode = 1 → (t.profile n).candidate = q.liveSet)
              ∧ (q.config.mode ≠ 1 → (t.profile n).candidate = { q.liveSet with
                  weights := Vector.replicate 5 0, polarities := q.config.startPolarities })
              ∧ (atOrAfter oldest s.lane.validFrom s.lane.blockCounter = true → ∃ e : ProbeEntry,
                  t.engine.probes = s.engine.probes ++ [e] ∧ e.profile = n ∧ e.condition = .waiting
                  ∧ e.window = ⟨s.lane.blockCounter, oldest⟩ ∧ e.selection = .shaping
                  ∧ e.trial = { (t.profile n).candidate with emphasis := 0 } ∧ (t.profile n).probeRef = true)
              ∧ (atOrAfter oldest s.lane.validFrom s.lane.blockCounter = false →
                  t.engine.probes = s.engine.probes ∧ (t.profile n).probeRef = false)))))

/-- ABORT ADAPT and FREEZE from the leader: a search or tracking ends with its probe withdrawn; the abort restores the live set
into the candidate, records ABORTED and tells leader and followers, the freeze keeps outcome and candidate and tells no one
(R108, R109). -/
def Obligations.AbortAndFreezeEndAdaptation : Prop :=
  ∀ (s : State) (f : Frame) (n : ProfileId), s.Takes f [finWord n] → (s.profile n).state = .bound →
    (s.profile n).leader = some f.port → s.ProbesCounted →
    let q := s.profile n
    let r := receive f s
    (q.adapt ∈ [.searchShape, .searchTrim, .searchReshape, .tracking] → ∃ t, exec (.abortAdapt f) s = .next t
        ∧ (∀ m, m ≠ n → t.profile m = s.profile m) ∧ t.slots = s.slots ∧ t.mem = s.mem ∧ t.lane = s.lane
        ∧ t.engine.routes = s.engine.routes ∧ t.engine.jobPass = s.engine.jobPass
        ∧ t.profile n = { q with
            candidate := q.liveSet, lastOutcome := .aborted, adapt := .idle, probeRef := false
            search := { q.search with phase := .none, window := none } }
        ∧ (∀ x ∈ t.engine.probes, x.profile ≠ n)
        ∧ (t.port f.port).notices.adaptDone.getLsbD n.val = true
        ∧ (∀ p, q.followers.getLsbD p.val = true → (t.port p).notices.adaptDone.getLsbD n.val = true)
        ∧ (t.port f.port).replies = (r.port f.port).replies ++ [⟨0x1B, f.tag, .ok, []⟩])
      ∧ (q.adapt = .committing → exec (.abortAdapt f) s = .next (r.reply f.port 0x1B f.tag (.busy, [])))
      ∧ (q.adapt = .idle → exec (.abortAdapt f) s = .next (r.reply f.port 0x1B f.tag (.ok, [])))
      ∧ (q.adapt = .tracking → ∃ t, exec (.freeze f) s = .next t
          ∧ (∀ m, m ≠ n → t.profile m = s.profile m) ∧ t.slots = s.slots ∧ t.mem = s.mem ∧ t.lane = s.lane
          ∧ t.engine.routes = s.engine.routes ∧ t.engine.jobPass = s.engine.jobPass
          ∧ t.profile n = { q with
              adapt := .idle, probeRef := false, search := { q.search with phase := .none, window := none } }
          ∧ (∀ x ∈ t.engine.probes, x.profile ≠ n)
          ∧ t.ports = (r.reply f.port 0x1C f.tag (.ok, [])).ports)
      ∧ (q.adapt ≠ .tracking → exec (.freeze f) s = .next (r.reply f.port 0x1C f.tag (.wrongState, [])))

/-! ### Output slots -/

/-- The slot commands: CLAIM SLOT is answered by the owner as it stands; FREE SLOT, MUTE and ROUTE act for the owner alone, FREE
SLOT setting pending SILENT, mute off and owner none, ROUTE setting the pending source that passes its checks, a source out of its
range being refused BAD_VALUE after the owner check with the pending source as it was; READ SLOT gives any port the record, and with
the clear flag the owner's late count is then 0 (R46 to R49, R58).
The model's own readings and choices it rests on: log 15. -/
def Obligations.SlotCommandsByOwner : Prop :=
  (∀ (s : State) (f : Frame) (i : SlotId), s.Takes f [finWord i] →
      let r := receive f s
      let answer (t : State) (st : Status) : Prop := exec (.claimSlot f) s = .next (t.reply f.port 0x20 f.tag (st, []))
      ((s.slot i).owner = none → answer (r.modSlot i fun t => { t with owner := some f.port, lateCount := 0 }) .ok)
        ∧ ((s.slot i).owner = some f.port → answer r .ok)
        ∧ (∀ p, (s.slot i).owner = some p → p ≠ f.port → answer r .held)
        ∧ ((s.slot i).owner = some f.port → exec (.freeSlot f) s = .next ((r.modSlot i fun t => { t with
            pending := some .silent, mute := false, owner := none }).reply f.port 0x21 f.tag (.ok, [])))
        ∧ ((s.slot i).owner ≠ some f.port →
          exec (.freeSlot f) s = .next (r.reply f.port 0x21 f.tag (.notOwner, []))))
    ∧ (∀ (s : State) (f : Frame) (i : SlotId) (b : Bool), s.Takes f [finWord i, boolWord b] →
      let r := receive f s
      let t := s.slot i
      let record : List Word := [portWord t.owner] ++ sourceWords t.source ++ optSourceWords t.pending
        ++ [boolWord t.mute, boolWord t.playingMuted] ++ optSourceWords t.outgoing ++ [t.lateCount]
        ++ optWords32 t.lastBlock ++ optWords32 t.lastGeneration
      (t.owner = some f.port → exec (.mute f) s = .next ((r.modSlot i fun u => { u with
          mute := b }).reply f.port 0x23 f.tag (.ok, [])))
        ∧ (t.owner ≠ some f.port → exec (.mute f) s = .next (r.reply f.port 0x23 f.tag (.notOwner, [])))
        ∧ (b = false → exec (.readSlot f) s = .next (r.reply f.port 0x24 f.tag (.ok, record)))
        ∧ (b = true → t.owner = some f.port → exec (.readSlot f) s
            = .next ((r.modSlot i fun u => { u with lateCount := 0 }).reply f.port 0x24 f.tag (.ok, record)))
        ∧ (b = true → t.owner ≠ some f.port → exec (.readSlot f) s
            = .next (r.reply f.port 0x24 f.tag (.notOwner, []))))
    ∧ (∀ (s : State) (f : Frame) (i : SlotId) (kind number : Word), s.Takes f [finWord i, kind, number] →
      let refused (st : Status) : Prop := exec (.route f) s = .next ((receive f s).reply f.port 0x22 f.tag (st, []))
      ((s.slot i).owner ≠ some f.port → refused .notOwner)
        ∧ ((s.slot i).owner = some f.port →
          3 < kind.toNat ∨ (kind = 1 ∧ 15 < number.toNat) ∨ (kind = 2 ∧ 31 < number.toNat) → refused .badValue))
    ∧ ∀ (s : State) (f : Frame) (i : SlotId) (src : Source), s.Takes f (finWord i :: sourceWords src) →
      let r := receive f s
      let refused (st : Status) : Prop := exec (.route f) s = .next (r.reply f.port 0x22 f.tag (st, []))
      let routed : Prop := exec (.route f) s
        = .next ((r.modSlot i fun t => { t with pending := some src }).reply f.port 0x22 f.tag (.ok, []))
      ((s.slot i).owner ≠ some f.port → refused .notOwner)
        ∧ ((s.slot i).owner = some f.port →
          (src = .silent → routed) ∧ (∀ c, src = .dry c → routed)
          ∧ (src = .generator → s.gen.claim = some f.port → routed)
          ∧ (src = .generator → s.gen.claim ≠ some f.port → refused .notOwner)
          ∧ ∀ n, src = .profile n →
            ((s.profile n).state ≠ .bound → refused .noSuch)
            ∧ ((s.profile n).state = .bound →
              ((s.profile n).leader = some f.port ∨ (s.profile n).followers.getLsbD f.port.val = true → routed)
              ∧ ((s.profile n).leader ≠ some f.port → (s.profile n).followers.getLsbD f.port.val = false →
                  refused .notLeader)))

/-! ### Work memory, windows and moves -/

/-- OPEN WINDOW opens the lowest closed window of its kind, or is refused BAD_VALUE or FULL; CLOSE WINDOW closes an open window
that nothing references and that no other port created, and keeps every word (R114 to R116). A window is referenced by a QUEUED or
ACTIVE move of which it is the source or the destination, by a queued job (its RUNNING or SUSPENDED pass included) or context
operation that names it, and by the target of a profile that adapts, a private one being its leader's (R115).
The model's own readings and choices it rests on: log 14, 18 (the record of a stopped segment references no window). -/
def Obligations.WindowsOpenAndClose : Prop :=
  (∀ (s : State) (f : Frame) (shared : Bool) (base length : Word), s.Takes f [boolWord shared, base, length] →
      let r := receive f s
      let inside : Prop := base.toNat ≤ 32767 ∧ 1 ≤ length.toNat ∧ base.toNat + length.toNat ≤ 32768
      let w : Window := ⟨base.toNat, length.toNat⟩
      let answer (t : State) (a : Answer) : Prop := exec (.openWindow f) s = .next (t.reply f.port 0x30 f.tag a)
      (¬ inside → answer r (.badValue, []))
        ∧ (inside → shared = false →
          ((∀ k, (s.port f.port).windows.get k ≠ none) → answer r (.full, []))
          ∧ ∀ k, (s.port f.port).windows.get k = none → (∀ j < k, (s.port f.port).windows.get j ≠ none) →
            answer (r.modPort f.port fun ps => { ps with windows := vset ps.windows k (some w) }) (.ok, [finWord k]))
        ∧ (inside → shared = true →
          ((∀ k, s.shared.get k ≠ none) → answer r (.full, []))
          ∧ ∀ k, s.shared.get k = none → (∀ j < k, s.shared.get j ≠ none) →
            answer { r with shared := vset r.shared k (some ⟨w, some f.port⟩) } (.ok, [finWord k])))
    ∧ ∀ (s : State) (f : Frame) (nm : WindowName), s.Takes f [nm.word] →
      let r := receive f s
      let answer (t : State) (st : Status) : Prop := exec (.closeWindow f) s = .next (t.reply f.port 0x31 f.tag (st, []))
      let spans (j : Job) : List Span := match j with
        | .dot a b _ _ | .sweep a b _ _ => [a, b]
        | .energy a _ _ | .peak a _ => [a]
        | .store w off stride _ _ _ => [.window w off stride]
        | .push _ | .drop | .scale => []
      let byMove (id : WindowId) : Prop := ∃ p k m, (s.port p).moves.get k = some m ∧ (m.state = .queued ∨ m.state = .active)
        ∧ (m.target.of p = id ∨ ∃ w o, m.source = .window w o ∧ w.of p = id)
        ∧ ¬ ∃ g, s.mover.segment = some g ∧ g.port = p ∧ g.record = k ∧ g.stopped.isSome = true
      let byJob (id : WindowId) : Prop := ∃ p, ∃ e ∈ (s.port p).jobs,
        (∃ j w o stride, e.work = .job j ∧ .window w o stride ∈ spans j ∧ w.of p = id)
          ∨ ∃ op plc, e.work = .context op plc ∧ plc.name.of p = id
      let byTarget (id : WindowId) : Prop := ∃ n off, (s.profile n).adapt ≠ .idle
        ∧ ((∃ k, (s.profile n).config.target = .window (.shared k) off ∧ id = .shared k)
          ∨ ∃ k q, (s.profile n).config.target = .window (.priv k) off ∧ (s.profile n).leader = some q ∧ id = .priv q k)
      let referenced : Prop := byMove (nm.of f.port) ∨ byJob (nm.of f.port) ∨ byTarget (nm.of f.port)
      (s.windowOf (nm.of f.port) = none → answer r .noSuch)
        ∧ (s.windowOf (nm.of f.port) ≠ none →
          (∀ k v, nm = .shared k → s.shared.get k = some v → v.creator ≠ none → v.creator ≠ some f.port →
            answer r .notOwner)
          ∧ ((∀ k v, nm = .shared k → s.shared.get k = some v → v.creator = none ∨ v.creator = some f.port) →
            (referenced → answer r .inUse)
            ∧ (¬ referenced →
              (∀ k, nm = .priv k → answer (r.modPort f.port fun ps => { ps with windows := vset ps.windows k none }) .ok)
              ∧ ∀ k, nm = .shared k → answer { r with shared := vset r.shared k none } .ok)))

/-- WRITE WORDS into an open window writes every value at ascending offsets and no other word of memory; READ WORDS gives the words
from the offset upward. A closed window is refused NO_SUCH, and words outside it ACCESS, with nothing written (R118, R119).
The model's own readings and choices it rests on: log 15. -/
def Obligations.WordsWriteAndRead : Prop :=
  (∀ (s : State) (f : Frame) (nm : WindowName) (off : Word) (vs : List Word),
      s.Takes f ([nm.word, off, natWord vs.length] ++ vs) → vs.length ≤ 56 → s.MemoryCanonical →
      let r := receive f s
      (s.windowOf (nm.of f.port) = none → exec (.writeWords f) s = .next (r.reply f.port 0x32 f.tag (.noSuch, [])))
        ∧ ∀ w, s.windowOf (nm.of f.port) = some w → w.Inside →
          (vs ≠ [] → w.length < off.toNat + vs.length →
            exec (.writeWords f) s = .next (r.reply f.port 0x32 f.tag (.access, [])))
          ∧ (vs = [] ∨ off.toNat + vs.length ≤ w.length → ∃ m,
            exec (.writeWords f) s = .next ({ r with mem := m }.reply f.port 0x32 f.tag (.ok, []))
            ∧ ∀ a, memRead m a = if w.base + off.toNat ≤ a ∧ a < w.base + off.toNat + vs.length
                then vs.getD (a - (w.base + off.toNat)) 0 else memRead s.mem a))
    ∧ ∀ (s : State) (f : Frame) (nm : WindowName) (off count : Word), s.Takes f [nm.word, off, count] →
      let answer (a : Answer) : Prop := exec (.readWords f) s = .next ((receive f s).reply f.port 0x33 f.tag a)
      (60 < count.toNat → answer (.badValue, []))
        ∧ (count.toNat ≤ 60 →
          (s.windowOf (nm.of f.port) = none → answer (.noSuch, []))
          ∧ ∀ w, s.windowOf (nm.of f.port) = some w → w.Inside →
            (count ≠ 0 → w.length < off.toNat + count.toNat → answer (.access, []))
            ∧ (count = 0 ∨ off.toNat + count.toNat ≤ w.length →
              answer (.ok, (List.range count.toNat).map fun i => memRead s.mem (w.base + off.toNat + i))))

/-- The work memory changes only by WRITE WORDS, a move's word, a job's end, a context word, SAVE NOW and power-on reset: every
other command and event leaves all of it (R112).
The model's own readings and choices it rests on: log 7 (a block event with something falling within it may hold one of these). -/
def Obligations.OnlyWritersChangeMemory : Prop :=
  ∀ (i : Instr) (s t : State), exec i s = .next t →
    (∀ f, i ≠ .writeWords f) → i ≠ .moveWordCopy → i ≠ .jobPassEnd → (∀ p, i ≠ .contextWordTransfer p) →
    (∀ f, i ≠ .saveNow f) → (∀ b, i ≠ .powerOnReset b) →
    (∀ x e, i = .frameTaken x → .inner e ∈ x.within → e ≠ .moveWordCopy ∧ e ≠ .jobPassEnd
      ∧ (∀ p, e ≠ .contextWordTransfer p) ∧ ∀ code f, e = .frame code f → code ≠ 0x32 ∧ code ≠ 0x51) → t.mem = s.mem

/-- MOVE from a window, a ring or the generator into an open window, all words inside: the lowest free record is QUEUED, last in the
taken order, DESCENDING just when the ranges overlap with the destination above; a count of 0 is DONE at once with MOVE_DONE. With
four records in use it is refused FULL; before that, BAD_VALUE, TOO_LONG, NO_SUCH and ACCESS in that order. MOVE STATUS gives the
words of a record, and frees an ended one when asked to (R120, R123, R125, R126, R189).
The model's own readings and choices it rests on: log 14, 16 (a position above 65535), 26 (the block words of a window source, bits
7 to 0 of a generator source). -/
def Obligations.MoveRecordsFillAndCollect : Prop :=
  (∀ (s : State) (f : Frame) (pl : List Word), s.Takes f pl → pl.length = 7 →
      let refused (st : Status) : Prop := exec (.move f) s = .next ((receive f s).reply f.port 0x34 f.tag (st, []))
      let kind : Nat := (arg pl 0 >>> 13).toNat
      let number : Nat := (arg pl 0 &&& 0xFF).toNat
      let badSource : Prop :=
        ¬ ((kind = 1 ∧ number ≤ 7) ∨ (kind = 2 ∧ number ≤ 15) ∨ (kind = 3 ∧ number ≤ 15) ∨ kind = 4)
      (badSource ∨ windowName? (arg pl 4) = none → refused .badValue)
        ∧ ∀ nm : WindowName, ¬ badSource → windowName? (arg pl 4) = some nm →
          let count := (arg pl 6).toNat
          let sourceClosed : Prop := ∃ sn, windowName? (arg pl 0) = some sn ∧ s.windowOf (sn.of f.port) = none
          let sourceOutside : Prop := ∃ sn sw, windowName? (arg pl 0) = some sn ∧ s.windowOf (sn.of f.port) = some sw
            ∧ sw.length < (arg pl 1).toNat + count
          (2048 < count → refused .tooLong)
          ∧ (count ≤ 2048 → s.windowOf (nm.of f.port) = none ∨ sourceClosed → refused .noSuch)
          ∧ (count ≤ 2048 → ¬ sourceClosed → ∀ w, s.windowOf (nm.of f.port) = some w →
              sourceOutside ∨ w.length < (arg pl 5).toNat + count → refused .access)) ∧
  (∀ (s : State) (f : Frame) (src : MoveSource) (nm : WindowName) (off count : Word) (w : Window),
      s.Takes f (moveSourceWords src ++ [nm.word, off, count]) → src.start < 65536 → count.toNat ≤ 2048 →
      s.windowOf (nm.of f.port) = some w → off.toNat + count.toNat ≤ w.length →
      (∀ sn so, src = .window sn so → ∃ sw, s.windowOf (sn.of f.port) = some sw ∧ so + count.toNat ≤ sw.length) →
      let r := receive f s
      let ps := s.port f.port
      let above : Prop := ∃ sn so sw, src = .window sn so ∧ s.windowOf (sn.of f.port) = some sw
        ∧ sw.base + so < w.base + off.toNat ∧ w.base + off.toNat < sw.base + so + count.toNat
      let answer (t : State) (a : Answer) : Prop := exec (.move f) s = .next (t.reply f.port 0x34 f.tag a)
      ((∀ k, ps.moves.get k ≠ none) → answer r (.full, []))
        ∧ ∀ k, ps.moves.get k = none → (∀ j < k, ps.moves.get j ≠ none) →
          ∀ d, (above → d = .descending) → (¬ above → d = .ascending) →
          (count ≠ 0 → answer (r.modPort f.port fun q => { q with
              moves := vset q.moves k
                (some ⟨.queued, src, nm, off.toNat, count.toNat, d, 0, count.toNat, false⟩)
              moveOrder := q.moveOrder ++ [k] }) (.accepted, [finWord k]))
          ∧ (count = 0 → answer (r.modPort f.port fun q => { q with
              moves := vset q.moves k (some ⟨.done, src, nm, off.toNat, 0, .ascending, 0, 0, false⟩)
              notices := { q.notices with moveDone := q.notices.moveDone ||| (1#4 <<< k.val) } })
              (.accepted, [finWord k])))
    ∧ ∀ (s : State) (f : Frame) (k : Fin 4) (collect : Bool), s.Takes f [finWord k, boolWord collect] →
      let r := receive f s
      let answer (t : State) (a : Answer) : Prop := exec (.moveStatus f) s = .next (t.reply f.port 0x35 f.tag a)
      ((s.port f.port).moves.get k = none → answer r (.noSuch, []))
        ∧ ∀ m, (s.port f.port).moves.get k = some m →
          let source : List Word := match m.source with
            | .window nm off => [nm.word, natWord off, 0, 0]
            | .ring c blk off => [natWord (3 * 8192 + c.val), natWord off] ++ words32 blk
            | .generator n off => [natWord (4 * 8192), natWord off] ++ words32 n
          let at_ (off : Nat) : Nat := if m.direction = .ascending then off + m.moved else off + m.remaining
          let position (off : Nat) : Word := if at_ off < 65536 then natWord (at_ off) else Config.wideWord (at_ off)
          let words : List Word :=
            [(match m.state with | .queued => 0 | .active => 1 | .done => 2 | .failed => 3 : Word)] ++ source
              ++ [m.target.word, natWord m.offset, natWord m.count, if m.direction = .ascending then 0 else 1,
                natWord m.moved, natWord m.remaining, position m.source.start, position m.offset,
                if m.failure then 0 else 0xFFFF]
          (collect = true ∧ (m.state = .done ∨ m.state = .failed) →
            answer (r.modPort f.port fun q => { q with moves := vset q.moves k none }) (.ok, words))
          ∧ (¬ (collect = true ∧ (m.state = .done ∨ m.state = .failed)) → answer r (.ok, words))

/-- MOVE_TURN serves the first port from the pointer that has an unfinished record: its oldest becomes ACTIVE and a segment of up to
64 words begins. MOVE_WORD_COPY copies one word, lowest offset first when ASCENDING and highest first when DESCENDING, and no
other word of memory changes; the last word makes the record DONE with MOVE_DONE, and a source word that is not held fails it
with ACCESS, MOVE_DONE and nothing copied (R122 to R125). The words left of a segment that a port reset stopped go between the
addresses its windows gave at the reset, whatever windows are open now, and at the segment's end its record is freed with no notice
(R127).
The model's own readings and choices it rests on: log 17, 18. -/
def Obligations.MoveUnitCopiesSegments : Prop :=
  (∀ (s : State) (i : Port) (k : Fin 4) (rest : List (Fin 4)) (m : MoveRecord), s.mover.segment = none →
      (∀ j < i, (s.port (s.mover.pointer + j)).moveOrder = []) →
      (s.port (s.mover.pointer + i)).moveOrder = k :: rest →
      (s.port (s.mover.pointer + i)).moves.get k = some m →
      exec .moveTurn s = .next ({ s with mover := { s.mover with
          segment := some ⟨s.mover.pointer + i, k, min 64 m.remaining, none⟩ } }.modPort (s.mover.pointer + i)
            fun q => { q with moves := vset q.moves k (some { m with state := .active }) }))
    ∧ (∀ (s : State) (g : Segment) (m : MoveRecord) (a : Nat), s.mover.segment = some g → g.stopped = none →
      (s.port g.port).moves.get g.record = some m → 0 < m.remaining → s.MemoryCanonical →
      let next (o : Nat) : Nat := if m.direction = .ascending then o + m.moved else o + (m.remaining - 1)
      s.resolve (m.target.of g.port) (next m.offset) = .address a →
      (∀ v : Word,
        ((∃ nm so b, m.source = .window nm so ∧ s.resolve (nm.of g.port) (next so) = .address b ∧ v = memRead s.mem b)
          ∨ (∃ c blk so, m.source = .ring c blk so ∧ s.lane.ringRead c blk (next so) = .sample v)
          ∨ (∃ n so, m.source = .generator n so ∧ s.gen.held (n + BitVec.ofNat 32 (next so)) = some v)) →
        ∃ t, exec .moveWordCopy s = .next t
          ∧ (∀ b, memRead t.mem b = if b = a then v else memRead s.mem b)
          ∧ (1 < m.remaining → (t.port g.port).moves.get g.record
              = some { m with moved := m.moved + 1, remaining := m.remaining - 1 })
          ∧ (1 < m.remaining → 1 < g.left → t.mover = ⟨some { g with left := g.left - 1 }, s.mover.pointer⟩)
          ∧ (m.remaining = 1 ∨ g.left = 1 → t.mover = ⟨none, g.port + 1⟩)
          ∧ (m.remaining = 1 → (t.port g.port).moves.get g.record
                = some { m with state := .done, moved := m.moved + 1, remaining := 0 }
              ∧ g.record ∉ (t.port g.port).moveOrder
              ∧ (t.port g.port).notices.moveDone.getLsbD g.record.val = true)
          ∧ (∀ p, p ≠ g.port → t.port p = s.port p) ∧ t.engine = s.engine ∧ t.profiles = s.profiles)
      ∧ ((∃ c blk so, m.source = .ring c blk so ∧ ∀ v, s.lane.ringRead c blk (next so) ≠ .sample v)
          ∨ (∃ n so, m.source = .generator n so ∧ s.gen.held (n + BitVec.ofNat 32 (next so)) = none) →
        ∃ t, exec .moveWordCopy s = .next t ∧ t.mem = s.mem ∧ t.mover = ⟨none, g.port + 1⟩
          ∧ (t.port g.port).moves.get g.record = some { m with state := .failed, failure := true }
          ∧ (t.port g.port).notices.moveDone.getLsbD g.record.val = true))
    ∧ ∀ (s : State) (g : Segment) (m : MoveRecord) (base : StopBases), s.mover.segment = some g →
      g.stopped = some base → (s.port g.port).moves.get g.record = some m → 0 < m.remaining → s.MemoryCanonical →
      let next (o : Nat) : Nat := if m.direction = .ascending then o + m.moved else o + (m.remaining - 1)
      let freed (t : State) : Prop := t.mover = ⟨none, g.port + 1⟩
        ∧ t.port g.port = { s.port g.port with moves := vset (s.port g.port).moves g.record none }
      base.target + next m.offset < 32768 →
      (∀ v : Word,
        ((∃ nm so, m.source = .window nm so ∧ base.source + next so < 32768 ∧ v = memRead s.mem (base.source + next so))
          ∨ (∃ c blk so, m.source = .ring c blk so ∧ s.lane.ringRead c blk (next so) = .sample v)
          ∨ (∃ n so, m.source = .generator n so ∧ s.gen.held (n + BitVec.ofNat 32 (next so)) = some v)) →
        ∃ t, exec .moveWordCopy s = .next t
          ∧ (∀ b, memRead t.mem b = if b = base.target + next m.offset then v else memRead s.mem b)
          ∧ (1 < m.remaining → 1 < g.left → t.mover = ⟨some { g with left := g.left - 1 }, s.mover.pointer⟩
            ∧ t.port g.port = { s.port g.port with
                moves := vset (s.port g.port).moves g.record
                  (some { m with moved := m.moved + 1, remaining := m.remaining - 1 }) })
          ∧ (m.remaining = 1 ∨ g.left = 1 → freed t)
          ∧ (∀ p, p ≠ g.port → t.port p = s.port p))
      ∧ ((∃ c blk so, m.source = .ring c blk so ∧ ∀ v, s.lane.ringRead c blk (next so) ≠ .sample v)
          ∨ (∃ n so, m.source = .generator n so ∧ s.gen.held (n + BitVec.ofNat 32 (next so)) = none) →
        ∃ t, exec .moveWordCopy s = .next t ∧ t.mem = s.mem ∧ freed t)

/-! ### Jobs and contexts -/

/-- How a span is read from its five words, and the eight job commands: with operands in range each is queued, or refused TOO_LONG,
NO_SUCH or FULL; a STORE over a ring span, with a width other than 16 or 32 or a shift above 47, is refused BAD_VALUE, and so is a
DOT, ENERGY, PEAK or SWEEP with a span out of range (R130, R132, R143, R189).
The model's own readings and choices it rests on: log 14. -/
def Obligations.JobCommandsQueue : Prop :=
  (∀ (nm : WindowName) (off stride lo hi : Word), span? nm.word off stride lo hi
      = if off.toNat ≤ 32767 ∧ 1 ≤ stride.toNat ∧ stride.toNat ≤ 16 then some (.window nm off.toNat stride.toNat)
        else none)
    ∧ (∀ (c : Channel) (off stride lo hi : Word), span? (natWord (3 * 8192 + c.val)) off stride lo hi
      = if off.toNat ≤ 32767 then some (.ring c (hi ++ lo) off.toNat) else none)
    ∧ (∀ ref off stride lo hi : Word, (ref >>> 13).toNat ∉ [1, 2, 3] → span? ref off stride lo hi = none)
    ∧ (∀ (ref off stride lo hi : Word) (x : Span), span? ref off stride lo hi = some x →
      span? (ref ||| 0x1F00) off stride lo hi = some x)
    ∧ (∀ (s : State) (f : Frame) (pl : List Word) (a b : Span) (acc : Bool), s.Takes f pl → spanAt? pl 0 = some a →
      (pl.length = 12 → spanAt? pl 5 = some b → arg pl 11 = boolWord acc →
        s.QueuesJob f 0x40 (.dot a b (arg pl 10).toNat acc) (exec (.dot f) s))
      ∧ (pl.length = 7 → arg pl 6 = boolWord acc →
        s.QueuesJob f 0x41 (.energy a (arg pl 5).toNat acc) (exec (.energy f) s))
      ∧ (pl.length = 6 → s.QueuesJob f 0x42 (.peak a (arg pl 5).toNat) (exec (.peak f) s))
      ∧ (pl.length = 12 → spanAt? pl 5 = some b → (arg pl 11).toNat ≤ 255 →
        s.QueuesJob f 0x43 (.sweep a b (arg pl 10).toNat (arg pl 11).toNat) (exec (.sweep f) s)))
    ∧ (∀ (s : State) (f : Frame) (pl : List Word), s.Takes f pl →
      let refused (c : Frame → Instr) (code : Byte) : Prop :=
        exec (c f) s = .next ((receive f s).reply f.port code f.tag (.badValue, []))
      (pl.length = 12 → spanAt? pl 0 = none ∨ spanAt? pl 5 = none ∨ 1 < (arg pl 11).toNat → refused .dot 0x40)
        ∧ (pl.length = 7 → spanAt? pl 0 = none ∨ 1 < (arg pl 6).toNat → refused .energy 0x41)
        ∧ (pl.length = 6 → spanAt? pl 0 = none → refused .peak 0x42)
        ∧ (pl.length = 12 → spanAt? pl 0 = none ∨ spanAt? pl 5 = none ∨ 255 < (arg pl 11).toNat →
          refused .sweep 0x43))
    ∧ (∀ (s : State) (f : Frame) (lo hi : Word), s.Takes f [lo, hi] →
      s.QueuesJob f 0x44 (.push (hi ++ lo)) (exec (.push f) s))
    ∧ (∀ (s : State) (f : Frame), s.Takes f [] →
      s.QueuesJob f 0x45 .drop (exec (.drop f) s) ∧ s.QueuesJob f 0x46 .scale (exec (.scale f) s))
    ∧ ∀ (s : State) (f : Frame) (pl : List Word), s.Takes f pl → pl.length = 8 →
      (∀ nm off stride pop, spanAt? pl 0 = some (.window nm off stride) → (arg pl 6).toNat ≤ 47 →
        arg pl 7 = boolWord pop →
        (arg pl 5 = 16 →
          s.QueuesJob f 0x47 (.store nm off stride .w16 (arg pl 6).toNat pop) (exec (.store f) s))
        ∧ (arg pl 5 = 32 →
          s.QueuesJob f 0x47 (.store nm off stride .w32 (arg pl 6).toNat pop) (exec (.store f) s)))
      ∧ (spanAt? pl 0 = none ∨ (∃ c blk o, spanAt? pl 0 = some (.ring c blk o)) ∨ (arg pl 5 ≠ 16 ∧ arg pl 5 ≠ 32)
          ∨ 47 < (arg pl 6).toNat ∨ 1 < (arg pl 7).toNat →
        exec (.store f) s = .next ((receive f s).reply f.port 0x47 f.tag (.badValue, [])))

/-- SAVE, SAVE ENV, RESTORE and RESTORE ENV are queued, or refused NO_SUCH, ACCESS, PENDING or FULL in that order (R152). -/
def Obligations.ContextCommandsQueue : Prop :=
  ∀ (s : State) (f : Frame) (nm : WindowName) (off : Word), s.Takes f [nm.word, off] → off.toNat ≤ 32767 →
    let plc : Place := ⟨nm, off.toNat⟩
    s.QueuesContext f 0x50 .save plc (exec (.save f) s)
      ∧ s.QueuesContext f 0x52 .saveEnv plc (exec (.saveEnv f) s)
      ∧ s.QueuesContext f 0x53 .restore plc (exec (.restore f) s)
      ∧ s.QueuesContext f 0x54 .restoreEnv plc (exec (.restoreEnv f) s)

/-- The context logic: an operation at the head of a queue that is not held begins, a save with its copy of the context; each
transfer moves one image word at the next offset; after its last word a SAVE reinitialises the context, a RESTORE loads a valid
image and leaves the context on an invalid one, the entry leaves the queue and CONTEXT_DONE tells the result (R153 to R157).
The model's own readings and choices it rests on: log 13. -/
def Obligations.ContextLogicTransfers : Prop :=
  (∀ (s : State) (p : Port) (op : ContextOp) (plc : Place) (rest : List QueueEntry),
      (s.port p).ctx.errorPending = false → (s.port p).ctxRun = none →
      (s.port p).jobs = ⟨.context op plc, .waiting⟩ :: rest →
      exec (.contextOpStart p) s = .next (s.modPort p fun q => { q with
        jobs := ⟨.context op plc, .inContext⟩ :: rest
        ctxRun := some ⟨op, plc,
          match op with
          | .save => q.ctx.fullImage
          | .saveEnv => q.ctx.environment
          | .restore | .restoreEnv => [], 0⟩ }))
    ∧ (∀ (s : State) (p : Port) (r : ContextRun) (a : Nat), (s.port p).ctxRun = some r → s.MemoryCanonical →
      s.resolve (r.place.name.of p) (r.place.offset + r.done) = .address a → r.done + 1 < r.op.words →
      ((r.op = .save ∨ r.op = .saveEnv) → ∃ t, exec (.contextWordTransfer p) s = .next t
        ∧ (∀ b, memRead t.mem b = if b = a then r.image.getD r.done 0 else memRead s.mem b)
        ∧ (t.port p).ctxRun = some { r with done := r.done + 1 } ∧ (t.port p).ctx = (s.port p).ctx)
      ∧ ((r.op = .restore ∨ r.op = .restoreEnv) →
        exec (.contextWordTransfer p) s = .next (s.modPort p fun q => { q with
          ctxRun := some { r with done := r.done + 1, image := r.image ++ [memRead s.mem a] } })))
    ∧ ∀ (s : State) (p : Port) (r : ContextRun) (h : QueueEntry) (rest : List QueueEntry) (a : Nat),
      (s.port p).ctxRun = some r → (s.port p).jobs = h :: rest → r.done + 1 = r.op.words →
      s.resolve (r.place.name.of p) (r.place.offset + r.done) = .address a →
      let image := r.image ++ [memRead s.mem a]
      let c := (s.port p).ctx
      ∃ t, exec (.contextWordTransfer p) s = .next t
        ∧ (t.port p).ctxRun = none ∧ (t.port p).jobs = rest ∧ (rest = [] → (t.port p).notices.jobsIdle = true)
        ∧ (r.op = .save ∨ r.op = .saveEnv → s.MemoryCanonical →
            ∀ b, memRead t.mem b = if b = a then r.image.getD r.done 0 else memRead s.mem b)
        ∧ (r.op = .restore ∨ r.op = .restoreEnv → t.mem = s.mem)
        ∧ (r.op = .save → (t.port p).ctx = .initial ∧ (t.port p).notices.contextDone = some true)
        ∧ (r.op = .saveEnv → (t.port p).ctx = { c with masks := 0b11111 }
            ∧ (t.port p).notices.contextDone = some true)
        ∧ (r.op = .restore → ∀ d, c.loadFull image = some d →
            (t.port p).ctx = d ∧ (t.port p).notices.contextDone = some true)
        ∧ (r.op = .restore → c.loadFull image = none →
            (t.port p).ctx = c ∧ (t.port p).notices.contextDone = some false)
        ∧ (r.op = .restoreEnv → ∀ d, c.loadEnvironment image = some d →
            (t.port p).ctx = d ∧ (t.port p).notices.contextDone = some true)
        ∧ (r.op = .restoreEnv → c.loadEnvironment image = none →
            (t.port p).ctx = c ∧ (t.port p).notices.contextDone = some false)

/-- The image a save writes, read back by a restore, gives the context saved, whatever context stood before; its environment image
gives all but the stack values (R151, R156). Of any words, an image is invalid exactly when its rounding code is 3, a tag has the
code 3, or the tags that are not EMPTY are not one run from TOP; any other loads the fields of its words, the unused bits ignored
(R156, R187).
The model's own readings and choices it rests on: log 23. -/
def Obligations.SavedImageRestoresContext : Prop :=
  (∀ c d : Context, tagsContiguous c.tags c.top = true → c.lastWindow &&& 0x1F00 = 0 →
    c.fullImage.length = 32 ∧ c.environment.length = 8
      ∧ d.loadFull c.fullImage = some c ∧ d.loadEnvironment c.environment = some { c with stack := d.stack })
    ∧ ∀ (c : Context) (ws : List Word),
      let field (i low width : Nat) : Nat := (ws.getD i 0).toNat / 2 ^ low % 2 ^ width
      let tag (j : Nat) : Nat := field 2 (2 * j) 2
      let top : Nat := field 1 10 3
      let depth : Nat := ((List.range 8).filter fun j => tag j ≠ 0).length
      let invalid : Prop := field 0 5 2 = 3 ∨ (∃ j < 8, tag j = 3)
        ∨ ¬ ∀ i < 8, (tag ((top + i) % 8) ≠ 0 ↔ i < depth)
      let loaded (d : Context) : Prop := d.masks.toNat = field 0 0 5 ∧ d.rounding.code = field 0 5 2
        ∧ d.flags.toNat = field 1 0 5 ∧ boolNat d.errorPending = field 1 5 1 ∧ boolNat d.c0 = field 1 6 1
        ∧ boolNat d.c1 = field 1 7 1 ∧ boolNat d.c2 = field 1 8 1 ∧ boolNat d.c3 = field 1 9 1 ∧ d.top.val = top
        ∧ (∀ j : Fin 8, (d.tags.get j).code = tag j.val) ∧ d.lastKind.toNat = field 3 0 8
        ∧ d.lastWindow = ws.getD 4 0 &&& 0xE0FF ∧ d.lastOffset = ws.getD 5 0
      (c.loadEnvironment ws = none ↔ invalid) ∧ (c.loadFull ws = none ↔ invalid)
        ∧ (∀ d, c.loadEnvironment ws = some d → loaded d ∧ d.stack = c.stack)
        ∧ ∀ d, c.loadFull ws = some d → loaded d
          ∧ ∀ j : Fin 8, d.stack.get j = ws.getD (10 + 3 * j.val) 0 ++ ws.getD (9 + 3 * j.val) 0 ++ ws.getD (8 + 3 * j.val) 0

/-- SAVE NOW with its 32 words inside an open window: the job or context operation at the head is dropped and leaves the queue, the
image of the context is written and no other word, and the context is reinitialised; into a closed window it is refused NO_SUCH, and
with words outside the window ACCESS, and then changes nothing (R152, R158). -/
def Obligations.SaveNowWritesImage : Prop :=
  (∀ (s : State) (f : Frame) (nm : WindowName) (off : Word), s.Takes f [nm.word, off] → off.toNat ≤ 32767 →
    let refused (st : Status) : Prop := exec (.saveNow f) s = .next ((receive f s).reply f.port 0x51 f.tag (st, []))
    (s.windowOf (nm.of f.port) = none → refused .noSuch)
      ∧ ∀ w, s.windowOf (nm.of f.port) = some w → w.length < off.toNat + 32 → refused .access) ∧
  ∀ (s : State) (f : Frame) (nm : WindowName) (off : Word) (w : Window), s.Takes f [nm.word, off] →
    off.toNat ≤ 32767 → s.windowOf (nm.of f.port) = some w → w.Inside → off.toNat + 32 ≤ w.length →
    s.MemoryCanonical →
    let ps := s.port f.port
    let image := ps.ctx.fullImage
    ∃ t, exec (.saveNow f) s = .next t
      ∧ (∀ a, memRead t.mem a = if w.base + off.toNat ≤ a ∧ a < w.base + off.toNat + 32
          then image.getD (a - (w.base + off.toNat)) 0 else memRead s.mem a)
      ∧ (t.port f.port).ctx = .initial
      ∧ (t.port f.port).replies = ((receive f s).port f.port).replies ++ [⟨0x51, f.tag, .ok, []⟩]
      ∧ (∀ h rest, ps.jobs = h :: rest → h.condition ≠ .waiting →
          (t.port f.port).jobs = rest ∧ (t.port f.port).ctxRun = none
          ∧ (rest = [] → (t.port f.port).notices.jobsIdle = true)
          ∧ ∀ j, t.engine.jobPass = some j → j.port ≠ f.port)
      ∧ ((∀ h rest, ps.jobs = h :: rest → h.condition = .waiting) →
          (t.port f.port).jobs = ps.jobs ∧ t.engine = s.engine)
      ∧ (∀ p, p ≠ f.port → t.port p = s.port p)

/-- CLEAR EXCEPTIONS clears the five flags and error-pending, and nothing else (R159). -/
def Obligations.ClearExceptionsEndsHold : Prop :=
  ∀ (s : State) (f : Frame), s.Takes f [] →
    exec (.clearExceptions f) s = .next (((receive f s).modPort f.port fun q => { q with
      ctx := { q.ctx with flags := 0, errorPending := false } }).reply f.port 0x55 f.tag (.ok, []))

/-- SET CONTROL takes each bit of the control word from the value where the mask selects it; a rounding code of 3 is refused
BAD_VALUE. READ CONTEXT STATUS gives the context and the queue, and changes nothing (R160, R161).
The model's own readings and choices it rests on: log 14. -/
def Obligations.ControlSetAndRead : Prop :=
  (∀ (s : State) (f : Frame) (value mask : Word), s.Takes f [value, mask] →
      let c := (s.port f.port).ctx
      let word := (c.controlWord &&& ~~~mask) ||| (value &&& mask)
      let mode := ((word >>> 5) &&& 3).toNat
      (mode = 3 → exec (.setControl f) s = .next ((receive f s).reply f.port 0x56 f.tag (.badValue, [])))
        ∧ ∀ m : Rounding, m.code = mode →
          exec (.setControl f) s = .next (((receive f s).modPort f.port fun q => { q with
            ctx := { q.ctx with masks := word.setWidth 5, rounding := m } }).reply f.port 0x56 f.tag
              (.ok, [word &&& 0x7F])))
    ∧ ∀ (s : State) (f : Frame), s.Takes f [] →
      let q := s.port f.port
      ∃ head : Word, (q.jobs = [] → head = 0xFFFF)
        ∧ (∀ h rest, q.jobs = h :: rest →
            head = match h.condition with | .waiting => 0 | .inPass => 1 | .inContext => 2)
        ∧ exec (.readContextStatus f) s = .next ((receive f s).reply f.port 0x57 f.tag
            (.ok, [q.ctx.controlWord, q.ctx.statusWord, q.ctx.tagsWord, q.ctx.lastKind.setWidth 16, q.ctx.lastWindow,
                   q.ctx.lastOffset, natWord q.jobs.length, head]))

/-! ### The generator and the line checkers -/

/-- CLAIM GENERATOR by the claim as it stands: an unclaimed generator becomes the port's, its state and settings kept; from the
holder it changes nothing; held by another port it is refused HELD (R165). -/
def Obligations.ClaimGeneratorByClaim : Prop :=
  ∀ (s : State) (f : Frame), s.Takes f [] →
    let r := receive f s
    let answer (t : State) (st : Status) : Prop :=
      exec (.claimGenerator f) s = .next (t.reply f.port 0x60 f.tag (st, []))
    (s.gen.claim = none → answer { r with gen := { s.gen with claim := some f.port } } .ok)
      ∧ (s.gen.claim = some f.port → answer r .ok)
      ∧ ∀ p, s.gen.claim = some p → p ≠ f.port → answer r .held

/-- SET GENERATOR from the holder: kind and run, level, inversion and user pattern act as listed, RUN while OFF seeds the sequence,
a new kind while RUNNING restarts it from its seed, STOP makes it OFF with output zero, and the reply gives state and settings. A
value out of range is refused BAD_VALUE, another port NOT_OWNER. RELEASE GENERATOR makes it OFF and unclaimed and silences every
slot on it, telling the owners (R56, R166, R169, R171).
The model's own readings and choices it rests on: log 14, 27 (seeding with kind USER keeps the register). -/
def Obligations.GeneratorSetAndReleased : Prop :=
  (∀ (s : State) (f : Frame) (pl : List Word), s.Takes f pl → setGeneratorVerdict pl = .fits →
      let r := receive f s
      let answer (g : Generator) : Prop := exec (.setGenerator f) s
        = .next ({ r with gen := g }.reply f.port 0x61 f.tag (.ok, generatorWords g))
      let seeded (g : Generator) (k : PatternKind) : Generator := { g with
        kind := k, userPosition := 0, oddRepetition := false
        register := match k with
          | .n7 => 0x7F | .n11 => 0x7FF | .n15 => 0x7FFF | .n23 => 0x7FFFFF | .user => g.register }
      (s.gen.claim ≠ some f.port →
          exec (.setGenerator f) s = .next (r.reply f.port 0x61 f.tag (.notOwner, [])))
        ∧ (s.gen.claim = some f.port →
          (∀ (kind : Option PatternKind) (level : Option (Fin 16)) (pattern : Option (Vector Sample 16))
            (inversion run : Option Bool),
            pl = natWord (boolNat kind.isSome + 2 * boolNat level.isSome + 4 * boolNat pattern.isSome
                + 8 * boolNat inversion.isSome + 16 * boolNat run.isSome)
              :: (kind.toList.map PatternKind.word ++ level.toList.map finWord ++ pattern.toList.flatMap Vector.toList
                ++ inversion.toList.map boolWord ++ run.toList.map fun go => boolWord !go) →
            let listed : Generator := { s.gen with
              kind := kind.getD s.gen.kind, level := level.getD s.gen.level, pattern := pattern.getD s.gen.pattern
              inversion := inversion.getD s.gen.inversion }
            let set : Generator :=
              if s.gen.running = true ∧ listed.kind ≠ s.gen.kind then seeded listed listed.kind else listed
            answer (match run with
              | none => set
              | some true => if s.gen.running then set else { seeded set set.kind with running := true, current := 0 }
              | some false => if s.gen.running then { set with running := false, current := 0 } else set))
          ∧ ∀ (kind level inversion run : Option Word) (pattern : Option (Vector Sample 16)),
            pl = natWord (boolNat kind.isSome + 2 * boolNat level.isSome + 4 * boolNat pattern.isSome
                + 8 * boolNat inversion.isSome + 16 * boolNat run.isSome)
              :: (kind.toList ++ level.toList ++ pattern.toList.flatMap Vector.toList ++ inversion.toList ++ run.toList) →
            (∃ w ∈ kind, 4 < w.toNat) ∨ (∃ w ∈ level, 15 < w.toNat) ∨ (∃ w ∈ inversion, 1 < w.toNat)
              ∨ (∃ w ∈ run, 1 < w.toNat) →
            exec (.setGenerator f) s = .next (r.reply f.port 0x61 f.tag (.badValue, []))))
    ∧ ∀ (s : State) (f : Frame), s.Takes f [] →
      (s.gen.claim ≠ some f.port →
        exec (.releaseGenerator f) s = .next ((receive f s).reply f.port 0x62 f.tag (.notOwner, [])))
      ∧ (s.gen.claim = some f.port → ∃ t, exec (.releaseGenerator f) s = .next t
        ∧ t.gen = { s.gen with claim := none, running := false, current := 0 }
        ∧ (t.port f.port).replies = ((receive f s).port f.port).replies ++ [⟨0x62, f.tag, .ok, []⟩]
        ∧ (∀ i, let u := s.slot i
          ((u.source = .generator ∨ u.pending = some .generator) → t.slot i = { u with pending := some .silent }
            ∧ ∀ p, u.owner = some p → (t.port p).notices.slotSilenced.getLsbD i.val = true)
          ∧ (u.source ≠ .generator → u.pending ≠ some .generator → t.slot i = u))
        ∧ t.profiles = s.profiles ∧ t.engine = s.engine ∧ t.mem = s.mem)

/-- What a running generator makes: every noise bit is the exclusive-or of the two earlier bits of its polynomial, and a noise
sample is the next 16 bits of the sequence, the first the most significant, as a signed sample shifted right by the level, the
inversion having no effect; from the seed of N7 the first sample is 21710 at level 0 and 5427 at level 2; a USER sample is the
pattern sample shifted by the level, negated in an odd repetition when inversion is on, −32768 becoming 32767 (R167, R168). -/
def Obligations.GeneratorMakesSamples : Prop :=
  (Generator.initial.start.next.1 = 21710 ∧ ({ Generator.initial.start with level := 2 } : Generator).next.1 = 5427)
    ∧ (∀ r : BitVec 23, seqBit 0 r = (r.getLsbD 6 != r.getLsbD 0) ∧ seqBit 1 r = (r.getLsbD 10 != r.getLsbD 1)
      ∧ seqBit 2 r = (r.getLsbD 14 != r.getLsbD 0) ∧ seqBit 3 r = (r.getLsbD 22 != r.getLsbD 4))
    ∧ (∀ (q : Fin 4) (r : BitVec 23), (seqStep q r).getLsbD 0 = seqBit q r
      ∧ ∀ i, i + 1 < seqDegree q → (seqStep q r).getLsbD (i + 1) = r.getLsbD i)
    ∧ (∀ (g : Generator) (q : Fin 4), (g.kind = .n7 ∧ q = 0) ∨ (g.kind = .n11 ∧ q = 1) ∨ (g.kind = .n15 ∧ q = 2)
        ∨ (g.kind = .n23 ∧ q = 3) →
      let register (i : Nat) : BitVec 23 := (seqStep q)^[i] g.register
      g.next.2 = { g with register := register 16 }
        ∧ ∃ x : Sample, (∀ i < 16, x.getLsbD (15 - i) = seqBit q (register i))
          ∧ g.next.1.toInt = x.toInt / 2 ^ g.level.val)
    ∧ ∀ g : Generator, g.kind = .user →
      let x := ((g.pattern.get g.userPosition).toInt / 2 ^ g.level.val : Int)
      (g.next.1.toInt = if g.inversion = true ∧ g.oddRepetition = true then (if x = -32768 then 32767 else -x) else x)
        ∧ g.next.2 = { g with
            userPosition := g.userPosition + 1
            oddRepetition := if g.userPosition = 15 then !g.oddRepetition else g.oddRepetition }

/-- The checker commands: a claim attaches an unclaimed checker anew, the holder's claim of another channel attaches it again,
RELEASE makes it IDLE with channel, hypothesis and counters kept, FREEZE, UNFREEZE and CLEAR act for the holder, and any port may
read it (R172, R175).
The model's own readings and choices it rests on: log 2, 9 (a claim keeps the reference register), 14, 15. -/
def Obligations.CheckerCommands : Prop :=
  (∀ (s : State) (f : Frame) (i : Fin 2) (ch : Channel), s.Takes f [finWord i, finWord ch] →
      let r := receive f s
      let answer (t : State) (st : Status) : Prop :=
        exec (.claimChecker f) s = .next (t.reply f.port 0x63 f.tag (st, []))
      let anew : Checker := { s.checker i with
        claim := some f.port, channel := ch, state := .searching, heard := [], runs := Vector.replicate 8 0
        hypothesis := none, checked := 0, errors := 0, errorRun := 0, frozen := false }
      ((s.checker i).claim = none → answer (r.modChecker i fun _ => anew) .ok)
        ∧ ((s.checker i).claim = some f.port → (s.checker i).channel = ch → answer r .ok)
        ∧ ((s.checker i).claim = some f.port → (s.checker i).channel ≠ ch →
            answer (r.modChecker i fun _ => anew) .ok)
        ∧ ∀ p, (s.checker i).claim = some p → p ≠ f.port → answer r .held)
    ∧ (∀ (s : State) (f : Frame) (i : Fin 2), s.Takes f [finWord i] →
      let r := receive f s
      let c := s.checker i
      (c.claim = some f.port → exec (.releaseChecker f) s = .next ((r.modChecker i fun c => { c with
          state := .idle, claim := none }).reply f.port 0x66 f.tag (.ok, [])))
        ∧ (c.claim ≠ some f.port →
          exec (.releaseChecker f) s = .next (r.reply f.port 0x66 f.tag (.notOwner, [])))
        ∧ exec (.readChecker f) s = .next (r.reply f.port 0x64 f.tag (.ok,
            [portWord c.claim, finWord c.channel, c.state.word, hypothesisWord c.hypothesis,
             c.checked.extractLsb' 0 16, c.checked.extractLsb' 16 16, c.checked.extractLsb' 32 16, c.errors,
             natWord c.errorRun, boolWord c.frozen])))
    ∧ ∀ (s : State) (f : Frame) (i : Fin 2) (action : Word), s.Takes f [finWord i, action] →
      let r := receive f s
      let c := s.checker i
      let counts (d : Checker) : List Word := [d.checked.extractLsb' 0 16, d.checked.extractLsb' 16 16,
        d.checked.extractLsb' 32 16, d.errors]
      let answer (d : Checker) : State := (r.modChecker i fun _ => d).reply f.port 0x65 f.tag (.ok, counts d)
      let notOwner : State := r.reply f.port 0x65 f.tag (.notOwner, [])
      (action = 0 → exec (.checkerFreeze f) s
          = .next (if c.claim = some f.port then answer { c with frozen := true } else notOwner))
        ∧ (action = 1 → exec (.checkerUnfreeze f) s
          = .next (if c.claim = some f.port then answer { c with frozen := false } else notOwner))
        ∧ (action = 2 → exec (.checkerClear f) s
          = .next (if c.claim = some f.port then answer { c with checked := 0, errors := 0 } else notOwner))

/-- A line checker at a frame event, its block event included when nothing else falls within that. A LOCKED checker compares its
channel's sample, in its polarity, with its own sequence: the counters move unless frozen, the error run always, and at a run of 16
it loses lock with the counters kept and tells its holder (R174). A SEARCHING checker advances the run of each hypothesis that
predicts the sample from the samples heard before, the bits before it not being all zero, and clears every other run; the sample
enters the search history; at a run of 8 it locks to the lowest such hypothesis, its reference the last received bits in that
polarity, the error run 0 and the counters kept, and tells its holder (R173). -/
def Obligations.LockedCheckerCounts : Prop :=
  (∀ (s : State) (frame : LaneFrame) (within : List Moment) (i : Fin 2) (h : Fin 8), s.lane.state = .running →
      s.lane.frameOpen = true → (s.lane.position = 31 → within = []) → (s.checker i).state = .locked →
      (s.checker i).hypothesis = some h →
      let c := s.checker i
      let x := frame.get c.channel
      let own := seqSample (hypSequence h) c.reference
      let wrong : Prop := (if h.val % 2 = 1 then ~~~x else x) ≠ own.1
      ∃ t, exec (.frameTaken ⟨frame, within⟩) s = .next t
        ∧ (t.checker i).reference = own.2
        ∧ (c.frozen = true → (t.checker i).checked = c.checked ∧ (t.checker i).errors = c.errors)
        ∧ (c.frozen = false → (t.checker i).checked = c.checked + 1
            ∧ (wrong → (t.checker i).errors = satInc c.errors) ∧ (¬ wrong → (t.checker i).errors = c.errors))
        ∧ (¬ wrong → (t.checker i).errorRun = 0 ∧ (t.checker i).state = .locked)
        ∧ (wrong → c.errorRun + 1 < 16 → (t.checker i).errorRun = c.errorRun + 1 ∧ (t.checker i).state = .locked)
        ∧ (wrong → 16 ≤ c.errorRun + 1 → (t.checker i).state = .searching ∧ (t.checker i).hypothesis = none
            ∧ (t.checker i).heard = [] ∧ (∀ g, (t.checker i).runs.get g = 0)
            ∧ ∀ p, c.claim = some p → (t.port p).notices.checkerLost.getLsbD i.val = true))
    ∧ ∀ (s : State) (frame : LaneFrame) (within : List Moment) (i : Fin 2), s.lane.state = .running →
      s.lane.frameOpen = true → (s.lane.position = 31 → within = []) → (s.checker i).state = .searching →
      let c := s.checker i
      let x := frame.get c.channel
      let degree (h : Fin 8) : Nat := if h.val < 2 then 7 else if h.val < 4 then 11 else if h.val < 6 then 15 else 23
      let lag (h : Fin 8) : Nat := if h.val < 2 then 1 else if h.val < 4 then 2 else if h.val < 6 then 1 else 5
      let received : BitVec 48 := c.heard.getD 1 0 ++ c.heard.getD 0 0 ++ x
      let bit (h : Fin 8) (b : Nat) : Bool := if h.val % 2 = 1 then !received.getLsbD b else received.getLsbD b
      let predicts (h : Fin 8) : Prop := (if h.val < 6 then 1 else 2) ≤ c.heard.length
        ∧ (∀ b < 16, bit h b = (bit h (b + degree h) != bit h (b + lag h))) ∧ ∃ b < degree h, bit h (16 + b) = true
      ∃ t, exec (.frameTaken ⟨frame, within⟩) s = .next t
        ∧ (t.checker i).heard = (x :: c.heard).take 2
        ∧ (∀ h, (predicts h → (t.checker i).runs.get h = min 8 (c.runs.get h + 1))
          ∧ (¬ predicts h → (t.checker i).runs.get h = 0))
        ∧ (t.checker i).checked = c.checked ∧ (t.checker i).errors = c.errors ∧ (t.checker i).frozen = c.frozen
        ∧ (t.checker i).claim = c.claim ∧ (t.checker i).channel = c.channel
        ∧ ((∀ h, ¬ (predicts h ∧ 7 ≤ c.runs.get h)) → (t.checker i).state = .searching
          ∧ (t.checker i).hypothesis = c.hypothesis ∧ (t.checker i).reference = c.reference)
        ∧ ∀ h, predicts h → 7 ≤ c.runs.get h → (∀ g < h, ¬ (predicts g ∧ 7 ≤ c.runs.get g)) →
          (t.checker i).state = .locked ∧ (t.checker i).hypothesis = some h ∧ (t.checker i).errorRun = 0
          ∧ (∀ b, b < 23 → (t.checker i).reference.getLsbD b = (decide (b < degree h) && bit h b))
          ∧ ∀ p, c.claim = some p → (t.port p).notices.checkerLock.getLsbD i.val = true

/-! ### Client ports -/

/-- The status word in its bits, the interrupt line asserted while a reply or a notice waits, and a transaction: the fall of
chip-select forms the outbound stream of status word and head reply; a POLL, clocking as many words as its frame has, removes a head
reply of which every word was clocked, clears the flags its status word showed, and reloads the keep-alive countdown; one of no
whole word does none of this; one ignored since reset release just ends (R176 to R180, R183, R186, R187).
The model's own readings and choices it rests on: log 3, 4. -/
def Obligations.TransactionsAndPolls : Prop :=
  (∀ (s : State) (p : Port), (s.port p).replies.length ≤ 8 →
      let w := s.portStatus p
      let q := s.port p
      w.extractLsb' 12 4 = 0b1010#4 ∧ w.extractLsb' 9 3 = 0#3 ∧ w.getLsbD 8 = (s.lane.state == .running)
        ∧ w.getLsbD 7 = q.resetOccurred ∧ w.getLsbD 6 = q.ctx.errorPending ∧ w.getLsbD 5 = q.overrun
        ∧ (w.getLsbD 4 = true ↔ q.notices ≠ .empty) ∧ (w.extractLsb' 0 4).toNat = q.replies.length
        ∧ (s.interrupt p = true ↔ q.replies ≠ [] ∨ q.notices ≠ .empty))
    ∧ (∀ (s : State) (p : Port), (s.port p).ignoring = false → (s.port p).spi = none →
      let head : List Word := match (s.port p).replies with
        | r :: _ => (r.code ++ r.tag) :: natWord (256 * r.results.length + r.status.code) :: r.results
        | [] => [0]
      let x : Transaction := ⟨s.portStatus p :: head, !(s.port p).replies.isEmpty, (s.port p).overrun,
        (s.port p).resetOccurred⟩
      exec (.transactionStart p) s = .next (s.modPort p fun q => { q with spi := some x }))
    ∧ (∀ (s : State) (f : Frame) (x : Transaction), (s.port f.port).ignoring = false → (s.port f.port).spi = some x →
      exec (.poll f) s = .next (s.modPort f.port fun q => { q with
        spi := none
        replies := if x.holdsReply = true ∧ x.outbound.length ≤ 1 + f.body.length then q.replies.tail else q.replies
        overrun := q.overrun && !x.showedOverrun
        resetOccurred := q.resetOccurred && !x.showedReset
        countdown := q.keepPeriod }))
    ∧ (∀ (s : State) (f : Frame), (s.port f.port).ignoring = false → (s.port f.port).spi = none →
      exec (.poll f) s = .next (s.modPort f.port fun q => { q with
        replies := match q.replies with
          | r :: rest => if 3 + r.results.length ≤ 1 + f.body.length then rest else q.replies
          | [] => []
        overrun := false, resetOccurred := false, countdown := q.keepPeriod }))
    ∧ (∀ (s : State) (f : Frame), (s.port f.port).ignoring = true →
      exec (.poll f) s = .next (s.modPort f.port fun q => { q with ignoring := false }))
    ∧ ∀ (s : State) (p : Port), exec (.transactionOfNoWholeWord p) s
      = .next (s.modPort p fun q => { q with spi := none, ignoring := false })

/-- Which row a transaction is, from its whole words: the header gives the command code in bits 15 to 8 and the tag in bits 7 to 0,
and the code names the row by the table of 10.3, a poll with code 0 and UNKNOWN_COMMAND with a code not in the table (R177, R187).
The three rows CHECKER_FREEZE, CHECKER_UNFREEZE and CHECKER_CLEAR share code 0x65, and the action word picks the row. A frame that
R177 refuses gets one reply, whatever row its code gives it, BAD_LENGTH before BAD_COMMAND; a known code whose payload is not of the
length of its operands is answered BAD_LENGTH by its own row, and a select bit beyond its fields or a count above its limit
BAD_VALUE (R177 step 4); a command that finds eight replies waiting is discarded with no effect but the overrun flag, a refused
frame as well; and a transaction ignored since reset release is no frame at all (R177, R178, R186).
The model's own readings and choices it rests on: log 1, 2, 3. -/
def Obligations.RefusedAndDiscardedFrames : Prop :=
  (∀ (p : Port) (code tag : Byte) (body : List Word),
      let f : Frame := ⟨p, tag, body⟩
      let row := Instr.ofTransaction p ((code ++ tag) :: body)
      (∀ c, c.command? = some (code, f) → (∀ a, c.action? = some a → f.actionWord = a.code) → row = c)
        ∧ (code = 0 → row = .poll f)
        ∧ (code ≠ 0 → payloadRule code = none → row = .unknownCommand code f)
        ∧ (code = 0x65 → row = (if f.actionWord = 1 then .checkerUnfreeze f
            else if f.actionWord = 2 then .checkerClear f else .checkerFreeze f))
        ∧ Instr.ofTransaction p [] = .transactionOfNoWholeWord p
        ∧ (∀ s : State, exec row s = execFrame code f s)
        ∧ ∀ s : State, s.pending = [] →
          step (s.withTransaction p ((code ++ tag) :: body)) = exec row { s with pending := [] })
    ∧ (∀ (s : State) (code : Byte) (f : Frame) (c : Instr), code ≠ 0 →
      c = .unknownCommand code f ∨ c.command? = some (code, f) → (s.port f.port).ignoring = false →
      ((receive f s).port f.port).replies.length < 8 →
      let answer (st : Status) : Prop := exec c s = .next ((receive f s).reply f.port code f.tag (st, []))
      (f.body = [] → answer .badLength)
        ∧ (∀ w rest, f.body = w :: rest → 62 < w.toNat ∨ rest.length < w.toNat → answer .badLength)
        ∧ (∀ w pl k x rest, f.body = w :: (pl ++ List.replicate k 0 ++ x :: rest) → pl.length = w.toNat → x ≠ 0 →
            answer .badLength)
        ∧ ∀ pl, f.Carries pl → payloadRule code = none → answer .badCommand)
    ∧ (∀ (s : State) (f : Frame) (pl : List Word) (c : Instr) (code : Byte), s.Takes f pl → c.command? = some (code, f) →
      let refused (st : Status) : Prop := exec c s = .next ((receive f s).reply f.port code f.tag (st, []))
      let words (lengths : List (List Byte × Nat)) : Prop :=
        ∀ x ∈ lengths, code ∈ x.1 → pl.length ≠ x.2 → refused .badLength
      let bit (i b : Nat) : Nat := boolNat ((arg pl i).toNat.testBit b)
      words [([0x45, 0x46, 0x55, 0x57, 0x60, 0x62, 0x70, 0x71, 0x73, 0x74], 0),
          ([0x10, 0x11, 0x12, 0x13, 0x14, 0x15, 0x18, 0x1A, 0x1B, 0x1C, 0x1D, 0x20, 0x21, 0x31, 0x64, 0x66, 0x72], 1),
          ([0x23, 0x24, 0x35, 0x44, 0x50, 0x51, 0x52, 0x53, 0x54, 0x56, 0x63, 0x65], 2), ([0x16, 0x22, 0x30, 0x33], 3),
          ([0x42], 6), ([0x34, 0x41], 7), ([0x47], 8), ([0x40, 0x43], 12)]
        ∧ (code = 0x32 → (pl.length < 3 → refused .badLength)
          ∧ (3 ≤ pl.length → 56 < (arg pl 2).toNat → refused .badValue)
          ∧ (3 ≤ pl.length → (arg pl 2).toNat ≤ 56 → pl.length ≠ 3 + (arg pl 2).toNat → refused .badLength))
        ∧ (code = 0x61 → (pl = [] → refused .badLength)
          ∧ (pl ≠ [] → 31 < (arg pl 0).toNat → refused .badValue)
          ∧ (pl ≠ [] → (arg pl 0).toNat ≤ 31 →
            pl.length ≠ 1 + bit 0 0 + bit 0 1 + 16 * bit 0 2 + bit 0 3 + bit 0 4 → refused .badLength))
        ∧ (code = 0x19 → (pl.length < 4 → refused .badLength)
          ∧ (4 ≤ pl.length → 1 < (arg pl 3).toNat → refused .badValue)
          ∧ (4 ≤ pl.length → (arg pl 3).toNat ≤ 1 →
            pl.length ≠ 4 + ((List.range 16).map (bit 2)).sum + 4 * bit 2 8 + 2 * bit 2 11 + bit 3 0 → refused .badLength))
        ∧ (code = 0x17 → let before : Nat := 2 + bit 1 0 + bit 1 1
          let after : Nat := 5 * bit 1 3 + 5 * bit 1 4 + bit 1 5
          (pl.length < 2 → refused .badLength)
          ∧ (2 ≤ pl.length → 63 < (arg pl 1).toNat → refused .badValue)
          ∧ (2 ≤ pl.length → (arg pl 1).toNat ≤ 63 →
            (bit 1 2 = 0 → pl.length ≠ before + after → refused .badLength)
            ∧ (bit 1 2 = 1 → pl.length ≤ before + 1 → refused .badLength)
            ∧ (bit 1 2 = 1 → before + 1 < pl.length → 56 < (arg pl (before + 1)).toNat → refused .badValue)
            ∧ (bit 1 2 = 1 → before + 1 < pl.length → (arg pl (before + 1)).toNat ≤ 56 →
              pl.length ≠ before + 2 + (arg pl (before + 1)).toNat + after → refused .badLength))))
    ∧ (∀ (s : State) (f : Frame), (s.port f.port).ignoring = false →
      8 ≤ ((receive f s).port f.port).replies.length →
      let discarded : State := (receive f s).modPort f.port fun q => { q with overrun := true }
      (∀ c code, c.command? = some (code, f) → (∀ a, c.action? = some a → f.actionWord = a.code) →
          exec c s = .next discarded)
        ∧ ∀ code, f.refused code = true → exec (.unknownCommand code f) s = .next discarded)
    ∧ ∀ (s : State) (f : Frame), (s.port f.port).ignoring = true →
      ∀ c code, c.command? = some (code, f) → (∀ a, c.action? = some a → f.actionWord = a.code) →
        exec c s = .next (s.modPort f.port fun q => { q with ignoring := false })

/-- IDENTIFY gives the vendor, part and revision codes, and READ DEVICE gives B, clock-present and v as they stand, to any port at
any time (R188). -/
def Obligations.IdentifyAndReadDevice : Prop :=
  ∀ (s : State) (f : Frame), s.Takes f [] →
    exec (.identify f) s = .next ((receive f s).reply f.port 0x70 f.tag (.ok, [0x4D52, 0x0416, 1]))
      ∧ exec (.readDevice f) s = .next ((receive f s).reply f.port 0x74 f.tag (.ok,
          [s.lane.blockCounter.extractLsb' 0 16, s.lane.blockCounter.extractLsb' 16 16,
           if s.lane.state = .running then 1 else 0,
           s.lane.validFrom.extractLsb' 0 16, s.lane.validFrom.extractLsb' 16 16]))

/-- FETCH NOTICES gives one record for each non-empty set in order of kind code, a kind word and its members, and empties every set
(R182, R187).
The model's own readings and choices it rests on: log 14. -/
def Obligations.FetchNoticesReportsAndEmpties : Prop :=
  ∀ (s : State) (f : Frame), s.Takes f [] →
    let n := (s.port f.port).notices
    let mask32 (kind : Word) (m : BitVec 32) : List Word :=
      if m = 0 then [] else [0x0200 + kind, m.extractLsb' 0 16, m.extractLsb' 16 16]
    let mask (kind : Word) (m : Word) : List Word := if m = 0 then [] else [0x0100 + kind, m]
    let single (kind : Word) (b : Bool) : List Word := if b then [kind] else []
    exec (.fetchNotices f) s = .next (((receive f s).modPort f.port fun q => { q with notices := .empty }).reply f.port
      0x71 f.tag (.ok, mask32 1 n.committed ++ mask32 2 n.adaptDone ++ mask32 3 n.leaderless ++ mask32 4 n.profileGone
        ++ mask 5 n.slotLate ++ mask 6 n.slotSilenced ++ mask 7 (n.moveDone.setWidth 16) ++ single 8 n.jobStopped
        ++ single 9 n.jobsIdle
        ++ (match n.contextDone with | none => [] | some true => [0x010A, 0] | some false => [0x010A, 1])
        ++ single 11 n.clockLost ++ single 12 n.clockBack ++ mask 13 (n.checkerLock.setWidth 16)
        ++ mask 14 (n.checkerLost.setWidth 16)))

/-- SET KEEPALIVE takes 0 or 10 to 60000 and loads the countdown, and refuses any other period BAD_VALUE with the period unchanged;
the expiry comes only when a running countdown has reached 0 (R183).
The model's own readings and choices it rests on: log 2, 6. -/
def Obligations.KeepalivePeriods : Prop :=
  (∀ (s : State) (f : Frame) (w : Word), s.Takes f [w] →
      let r := receive f s
      (w = 0 ∨ (10 ≤ w.toNat ∧ w.toNat ≤ 60000) → exec (.setKeepalive f) s = .next ((r.modPort f.port fun q => { q with
          keepPeriod := w, countdown := w }).reply f.port 0x72 f.tag (.ok, [])))
        ∧ ((1 ≤ w.toNat ∧ w.toNat ≤ 9) ∨ 60000 < w.toNat →
          exec (.setKeepalive f) s = .next (r.reply f.port 0x72 f.tag (.badValue, []))))
    ∧ ∀ (s : State) (p : Port) (n : Nat), (s.port p).keepPeriod = 0 ∨ (s.port p).countdown ≠ 0 →
      exec (.keepaliveExpiry p n) s = .next s

/-- What a port reset leaves, by PORT RESET with its one reply kept or by keep-alive expiry with none: the port holds no notice,
job, window, unfinished move, claim, slot, lead or membership, its context is reinitialised, reset-occurred is set and its overrun
flag is kept; no other port's replies, jobs, contexts, windows or moves change, and no word of memory. Of its moves only the record
of a segment in progress stays, to the segment's end, by the addresses its windows gave, and nothing then references its private
windows. Followers of a profile it led have LEADERLESS, and the loss of leader ends a search or a tracking ABORTED, as ABORT ADAPT
does, with ADAPT_DONE to the followers, while a COMMITTING profile goes on, not to continue after its flip. Slots of other ports
that are on the generator it held have the pending source SILENT, and their owners SLOT_SILENCED (R26, R56, R57, R110, R117, R127,
R148, R171, R184, R185).
The model's own readings and choices it rests on: log 4, 18. -/
def Obligations.PortResetClearsPort : Prop :=
  let cleared (s t : State) (p : Port) : Prop :=
    (t.port p).notices = .empty ∧ (t.port p).jobs = [] ∧ (t.port p).ctx = .initial ∧ (t.port p).ctxRun = none
      ∧ (∀ k, (t.port p).windows.get k = none) ∧ (t.port p).moveOrder = []
      ∧ (t.port p).keepPeriod = 0 ∧ (t.port p).resetOccurred = true
      ∧ (∀ j, t.engine.jobPass = some j → j.port ≠ p)
      ∧ (∀ k, (t.port p).moves.get k = none ∨ ∃ g, s.mover.segment = some g ∧ g.port = p ∧ g.record = k)
      ∧ (∀ g m, s.mover.segment = some g → g.port = p → g.stopped = none → (s.port p).moves.get g.record = some m →
        (t.port p).moves.get g.record = some m ∧ ∃ base : StopBases,
          t.mover = ⟨some { g with stopped := some base }, s.mover.pointer⟩
          ∧ (∀ w, s.windowOf (m.target.of p) = some w → base.target = w.base)
          ∧ ∀ nm o w, m.source = .window nm o → s.windowOf (nm.of p) = some w → base.source = w.base)
      ∧ (∀ g, s.mover.segment = some g → g.port ≠ p → t.mover = s.mover)
      ∧ (∀ k, t.referenced (.priv p k) = false)
      ∧ (∀ n, (t.profile n).leader ≠ some p ∧ (t.profile n).followers.getLsbD p.val = false)
      ∧ (∀ n, (s.profile n).leader ≠ some p → t.profile n = { s.profile n with
          followers := (s.profile n).followers &&& ~~~(1#4 <<< p.val) })
      ∧ (∀ n, (s.profile n).leader = some p →
        let q := s.profile n
        let u := t.profile n
        let leaderless : Profile := { q with leader := none }
        { u with
          adapt := q.adapt, search := q.search, candidate := q.candidate, lastOutcome := q.lastOutcome
          probeRef := q.probeRef } = leaderless
        ∧ (∀ x : Port, q.followers.getLsbD x.val = true → (t.port x).notices.leaderless.getLsbD n.val = true)
        ∧ (q.adapt ∈ [.searchShape, .searchTrim, .searchReshape, .tracking] → s.ProbesCounted →
            t.Fails n leaderless .aborted)
        ∧ (q.adapt = .committing → u = { leaderless with search := { q.search with continueAfter := false } })
        ∧ (q.adapt = .idle → u = leaderless))
      ∧ (∀ i, let u := s.slot i
        (t.slot i).owner ≠ some p
        ∧ (u.owner = some p → t.slot i = { u with pending := some .silent, mute := false, owner := none })
        ∧ (u.owner ≠ some p → s.gen.claim = some p → u.source = .generator ∨ u.pending = some .generator →
            t.slot i = { u with pending := some .silent }
            ∧ ∀ o, u.owner = some o → (t.port o).notices.slotSilenced.getLsbD i.val = true)
        ∧ (u.owner ≠ some p → s.gen.claim ≠ some p ∨ (u.source ≠ .generator ∧ u.pending ≠ some .generator) →
            t.slot i = u))
      ∧ t.gen.claim ≠ some p ∧ (s.gen.claim = some p → t.gen.running = false) ∧ (∀ c, (t.checker c).claim ≠ some p)
      ∧ (∀ k v, t.shared.get k = some v → v.creator ≠ some p)
      ∧ (∀ q, q ≠ p → (t.port q).replies = (s.port q).replies ∧ (t.port q).jobs = (s.port q).jobs
        ∧ (t.port q).ctx = (s.port q).ctx ∧ (t.port q).windows = (s.port q).windows
        ∧ (t.port q).moves = (s.port q).moves)
      ∧ t.mem = s.mem ∧ t.lane = s.lane
  (∀ (s : State) (f : Frame), s.Takes f [] → s.MembersSound → ∃ t, exec (.portReset f) s = .next t
      ∧ cleared s t f.port ∧ (t.port f.port).replies = [⟨0x73, f.tag, .ok, []⟩]
      ∧ (t.port f.port).overrun = ((receive f s).port f.port).overrun)
    ∧ ∀ (s : State) (p : Port) (n : Nat), (s.port p).keepPeriod ≠ 0 → (s.port p).countdown = 0 → s.MembersSound →
      ∃ t, exec (.keepaliveExpiry p n) s = .next t
        ∧ cleared s t p ∧ (t.port p).replies = [] ∧ (t.port p).overrun = (s.port p).overrun
        ∧ (∀ x, (s.port p).spi = some x → ∃ y, (t.port p).spi = some y ∧ y.outbound = x.outbound.take n
            ∧ y.holdsReply = false ∧ y.showedReset = false)

/-! ### Invariants that every step keeps -/

/-- State.reset satisfies every invariant below. -/
def Obligations.ResetSatisfiesInvariants : Prop :=
  let r := State.reset
  r.MemoryCanonical ∧ r.WindowsInside ∧ r.QueuesBounded ∧ r.MembersSound ∧ r.SlotsNameBound ∧ r.StacksContiguous
    ∧ r.NoCopyOverdue ∧ r.ReferencesCounted ∧ r.ProbesCounted ∧ r.MovesConsistent

/-- The work memory stays in the model's canonical form (DESIGN CHOICE, log 8), and every open window inside the memory (R112,
R114). -/
def Obligations.MemoryStaysCanonical : Prop :=
  ∀ s t : State, s.MemoryCanonical → s.WindowsInside → step s = .next t → t.MemoryCanonical ∧ t.WindowsInside

/-- What every step keeps of a port: at most eight replies and eight queue entries (R129, R178), a result stack that is one run from
TOP (R134), and move records whose words moved and words remaining make up their count (R120), in step with the taken orders and
the segment in progress. -/
def Obligations.PortsStayConsistent : Prop :=
  ∀ s t : State, step s = .next t →
    (s.QueuesBounded → t.QueuesBounded) ∧ (s.StacksContiguous → t.StacksContiguous)
      ∧ (s.MovesConsistent → t.MovesConsistent)

/-- Only BOUND profiles have members, the leader is never a follower, and slots name only BOUND profiles (R22, R59). -/
def Obligations.MembersAndSlotsStaySound : Prop :=
  ∀ s t : State, s.MembersSound → s.SlotsNameBound → step s = .next t → t.MembersSound ∧ t.SlotsNameBound

/-- A bank's references stay the number of route passes that read it (R31), and no commit waits for a spare bank that none reads
(R33); at most one probe of a profile is queued or running, and its probe reference and its probe window say so (R68, R92, R93). -/
def Obligations.ReferencesAndProbesStayCounted : Prop :=
  ∀ s t : State, step s = .next t →
    (s.ReferencesCounted → s.NoCopyOverdue → t.ReferencesCounted ∧ t.NoCopyOverdue)
      ∧ (s.ProbesCounted → t.ProbesCounted)
end

