-- ==== Sys2Proof/Laws/State.lean ====
section
/-! SUPPORT. The updates of State, field by field: fixed tables, the four table updates, notices and replies. -/

namespace Sys2Proof.Machine

/-! ### Fixed tables -/

@[simp] theorem vset_get_same {α : Type} {n : Nat} (v : Vector α n) (i : Fin n) (x : α) : (vset v i x).get i = x := by
  show (v.set i.val x i.isLt)[i.val] = x
  simp

theorem vset_get_ne {α : Type} {n : Nat} (v : Vector α n) {i j : Fin n} (x : α) (h : j ≠ i) :
    (vset v i x).get j = v.get j := by
  have h' : i.val ≠ j.val := fun e => h (Fin.ext e.symm)
  show (v.set i.val x i.isLt)[j.val] = v[j.val]
  simp [h']

theorem vset_get {α : Type} {n : Nat} (v : Vector α n) (i j : Fin n) (x : α) :
    (vset v i x).get j = if j = i then x else v.get j := by
  by_cases h : j = i
  · subst h; simp
  · simp [h, vset_get_ne v x h]

theorem vector_ext_get {α : Type} {n : Nat} {v w : Vector α n} (h : ∀ i : Fin n, v.get i = w.get i) : v = w := by
  apply Vector.ext
  intro i hi
  simpa [Vector.get] using h ⟨i, hi⟩

@[simp] theorem vset_vset {α : Type} {n : Nat} (v : Vector α n) (i : Fin n) (x y : α) :
    vset (vset v i x) i y = vset v i y := by
  apply vector_ext_get
  intro j
  by_cases h : j = i
  · subst h; simp
  · simp [vset_get_ne _ _ h]

@[simp] theorem vset_get_self {α : Type} {n : Nat} (v : Vector α n) (i : Fin n) : vset v i (v.get i) = v := by
  apply vector_ext_get
  intro j
  by_cases h : j = i
  · subst h; simp
  · simp [vset_get_ne _ _ h]

@[simp] theorem vmap_get {α β : Type} {n : Nat} (f : α → β) (v : Vector α n) (i : Fin n) :
    (vmap f v).get i = f (v.get i) := by
  show (vmap f v)[i.val] = f v[i.val]
  simp [vmap]

/-! ### modPort -/

@[simp] theorem State.lane_modPort (s : State) (p : Port) (f : PortState → PortState) : (s.modPort p f).lane = s.lane := rfl
@[simp] theorem State.profiles_modPort (s : State) (p : Port) (f : PortState → PortState) : (s.modPort p f).profiles = s.profiles := rfl
@[simp] theorem State.slots_modPort (s : State) (p : Port) (f : PortState → PortState) : (s.modPort p f).slots = s.slots := rfl
@[simp] theorem State.engine_modPort (s : State) (p : Port) (f : PortState → PortState) : (s.modPort p f).engine = s.engine := rfl
@[simp] theorem State.mem_modPort (s : State) (p : Port) (f : PortState → PortState) : (s.modPort p f).mem = s.mem := rfl
@[simp] theorem State.shared_modPort (s : State) (p : Port) (f : PortState → PortState) : (s.modPort p f).shared = s.shared := rfl
@[simp] theorem State.mover_modPort (s : State) (p : Port) (f : PortState → PortState) : (s.modPort p f).mover = s.mover := rfl
@[simp] theorem State.gen_modPort (s : State) (p : Port) (f : PortState → PortState) : (s.modPort p f).gen = s.gen := rfl
@[simp] theorem State.checkers_modPort (s : State) (p : Port) (f : PortState → PortState) : (s.modPort p f).checkers = s.checkers := rfl
@[simp] theorem State.choices_modPort (s : State) (p : Port) (f : PortState → PortState) : (s.modPort p f).choices = s.choices := rfl
@[simp] theorem State.pending_modPort (s : State) (p : Port) (f : PortState → PortState) : (s.modPort p f).pending = s.pending := rfl
@[simp] theorem State.profile_modPort (s : State) (p : Port) (f : PortState → PortState) (k : ProfileId) :
    (s.modPort p f).profile k = s.profile k := rfl
@[simp] theorem State.slot_modPort (s : State) (p : Port) (f : PortState → PortState) (k : SlotId) :
    (s.modPort p f).slot k = s.slot k := rfl
@[simp] theorem State.checker_modPort (s : State) (p : Port) (f : PortState → PortState) (k : Fin 2) :
    (s.modPort p f).checker k = s.checker k := rfl

@[simp] theorem State.port_modPort_same (s : State) (p : Port) (f : PortState → PortState) :
    (s.modPort p f).port p = f (s.port p) := by
  simp [State.port, State.modPort]

theorem State.port_modPort_ne (s : State) (p k : Port) (f : PortState → PortState) (h : k ≠ p) :
    (s.modPort p f).port k = s.port k := by
  simp [State.port, State.modPort, vset_get_ne _ _ h]

theorem State.port_modPort (s : State) (p k : Port) (f : PortState → PortState) :
    (s.modPort p f).port k = if k = p then f (s.port p) else s.port k := by
  by_cases h : k = p
  · subst h; simp
  · simp [h, State.port_modPort_ne s p k f h]

@[simp] theorem State.modPort_modPort (s : State) (p : Port) (f g : PortState → PortState) :
    (s.modPort p f).modPort p g = s.modPort p fun y => g (f y) := by
  simp [State.modPort, State.port]

/-! ### modProfile -/

@[simp] theorem State.lane_modProfile (s : State) (n : ProfileId) (f : Profile → Profile) : (s.modProfile n f).lane = s.lane := rfl
@[simp] theorem State.slots_modProfile (s : State) (n : ProfileId) (f : Profile → Profile) : (s.modProfile n f).slots = s.slots := rfl
@[simp] theorem State.engine_modProfile (s : State) (n : ProfileId) (f : Profile → Profile) : (s.modProfile n f).engine = s.engine := rfl
@[simp] theorem State.mem_modProfile (s : State) (n : ProfileId) (f : Profile → Profile) : (s.modProfile n f).mem = s.mem := rfl
@[simp] theorem State.shared_modProfile (s : State) (n : ProfileId) (f : Profile → Profile) : (s.modProfile n f).shared = s.shared := rfl
@[simp] theorem State.mover_modProfile (s : State) (n : ProfileId) (f : Profile → Profile) : (s.modProfile n f).mover = s.mover := rfl
@[simp] theorem State.ports_modProfile (s : State) (n : ProfileId) (f : Profile → Profile) : (s.modProfile n f).ports = s.ports := rfl
@[simp] theorem State.gen_modProfile (s : State) (n : ProfileId) (f : Profile → Profile) : (s.modProfile n f).gen = s.gen := rfl
@[simp] theorem State.checkers_modProfile (s : State) (n : ProfileId) (f : Profile → Profile) : (s.modProfile n f).checkers = s.checkers := rfl
@[simp] theorem State.choices_modProfile (s : State) (n : ProfileId) (f : Profile → Profile) : (s.modProfile n f).choices = s.choices := rfl
@[simp] theorem State.pending_modProfile (s : State) (n : ProfileId) (f : Profile → Profile) : (s.modProfile n f).pending = s.pending := rfl
@[simp] theorem State.port_modProfile (s : State) (n : ProfileId) (f : Profile → Profile) (k : Port) :
    (s.modProfile n f).port k = s.port k := rfl
@[simp] theorem State.slot_modProfile (s : State) (n : ProfileId) (f : Profile → Profile) (k : SlotId) :
    (s.modProfile n f).slot k = s.slot k := rfl
@[simp] theorem State.checker_modProfile (s : State) (n : ProfileId) (f : Profile → Profile) (k : Fin 2) :
    (s.modProfile n f).checker k = s.checker k := rfl

@[simp] theorem State.profile_modProfile_same (s : State) (n : ProfileId) (f : Profile → Profile) :
    (s.modProfile n f).profile n = f (s.profile n) := by
  simp [State.profile, State.modProfile]

theorem State.profile_modProfile_ne (s : State) (n k : ProfileId) (f : Profile → Profile) (h : k ≠ n) :
    (s.modProfile n f).profile k = s.profile k := by
  simp [State.profile, State.modProfile, vset_get_ne _ _ h]

theorem State.profile_modProfile (s : State) (n k : ProfileId) (f : Profile → Profile) :
    (s.modProfile n f).profile k = if k = n then f (s.profile n) else s.profile k := by
  by_cases h : k = n
  · subst h; simp
  · simp [h, State.profile_modProfile_ne s n k f h]

@[simp] theorem State.modProfile_modProfile (s : State) (n : ProfileId) (f g : Profile → Profile) :
    (s.modProfile n f).modProfile n g = s.modProfile n fun y => g (f y) := by
  simp [State.modProfile, State.profile]

/-! ### modSlot -/

@[simp] theorem State.lane_modSlot (s : State) (i : SlotId) (f : Slot → Slot) : (s.modSlot i f).lane = s.lane := rfl
@[simp] theorem State.profiles_modSlot (s : State) (i : SlotId) (f : Slot → Slot) : (s.modSlot i f).profiles = s.profiles := rfl
@[simp] theorem State.engine_modSlot (s : State) (i : SlotId) (f : Slot → Slot) : (s.modSlot i f).engine = s.engine := rfl
@[simp] theorem State.mem_modSlot (s : State) (i : SlotId) (f : Slot → Slot) : (s.modSlot i f).mem = s.mem := rfl
@[simp] theorem State.shared_modSlot (s : State) (i : SlotId) (f : Slot → Slot) : (s.modSlot i f).shared = s.shared := rfl
@[simp] theorem State.mover_modSlot (s : State) (i : SlotId) (f : Slot → Slot) : (s.modSlot i f).mover = s.mover := rfl
@[simp] theorem State.ports_modSlot (s : State) (i : SlotId) (f : Slot → Slot) : (s.modSlot i f).ports = s.ports := rfl
@[simp] theorem State.gen_modSlot (s : State) (i : SlotId) (f : Slot → Slot) : (s.modSlot i f).gen = s.gen := rfl
@[simp] theorem State.checkers_modSlot (s : State) (i : SlotId) (f : Slot → Slot) : (s.modSlot i f).checkers = s.checkers := rfl
@[simp] theorem State.choices_modSlot (s : State) (i : SlotId) (f : Slot → Slot) : (s.modSlot i f).choices = s.choices := rfl
@[simp] theorem State.pending_modSlot (s : State) (i : SlotId) (f : Slot → Slot) : (s.modSlot i f).pending = s.pending := rfl
@[simp] theorem State.port_modSlot (s : State) (i : SlotId) (f : Slot → Slot) (k : Port) :
    (s.modSlot i f).port k = s.port k := rfl
@[simp] theorem State.profile_modSlot (s : State) (i : SlotId) (f : Slot → Slot) (k : ProfileId) :
    (s.modSlot i f).profile k = s.profile k := rfl
@[simp] theorem State.checker_modSlot (s : State) (i : SlotId) (f : Slot → Slot) (k : Fin 2) :
    (s.modSlot i f).checker k = s.checker k := rfl

@[simp] theorem State.slot_modSlot_same (s : State) (i : SlotId) (f : Slot → Slot) :
    (s.modSlot i f).slot i = f (s.slot i) := by
  simp [State.slot, State.modSlot]

theorem State.slot_modSlot_ne (s : State) (i k : SlotId) (f : Slot → Slot) (h : k ≠ i) :
    (s.modSlot i f).slot k = s.slot k := by
  simp [State.slot, State.modSlot, vset_get_ne _ _ h]

theorem State.slot_modSlot (s : State) (i k : SlotId) (f : Slot → Slot) :
    (s.modSlot i f).slot k = if k = i then f (s.slot i) else s.slot k := by
  by_cases h : k = i
  · subst h; simp
  · simp [h, State.slot_modSlot_ne s i k f h]

@[simp] theorem State.modSlot_modSlot (s : State) (i : SlotId) (f g : Slot → Slot) :
    (s.modSlot i f).modSlot i g = s.modSlot i fun y => g (f y) := by
  simp [State.modSlot, State.slot]

/-! ### modChecker -/

@[simp] theorem State.lane_modChecker (s : State) (c : Fin 2) (f : Checker → Checker) : (s.modChecker c f).lane = s.lane := rfl
@[simp] theorem State.profiles_modChecker (s : State) (c : Fin 2) (f : Checker → Checker) : (s.modChecker c f).profiles = s.profiles := rfl
@[simp] theorem State.slots_modChecker (s : State) (c : Fin 2) (f : Checker → Checker) : (s.modChecker c f).slots = s.slots := rfl
@[simp] theorem State.engine_modChecker (s : State) (c : Fin 2) (f : Checker → Checker) : (s.modChecker c f).engine = s.engine := rfl
@[simp] theorem State.mem_modChecker (s : State) (c : Fin 2) (f : Checker → Checker) : (s.modChecker c f).mem = s.mem := rfl
@[simp] theorem State.shared_modChecker (s : State) (c : Fin 2) (f : Checker → Checker) : (s.modChecker c f).shared = s.shared := rfl
@[simp] theorem State.mover_modChecker (s : State) (c : Fin 2) (f : Checker → Checker) : (s.modChecker c f).mover = s.mover := rfl
@[simp] theorem State.ports_modChecker (s : State) (c : Fin 2) (f : Checker → Checker) : (s.modChecker c f).ports = s.ports := rfl
@[simp] theorem State.gen_modChecker (s : State) (c : Fin 2) (f : Checker → Checker) : (s.modChecker c f).gen = s.gen := rfl
@[simp] theorem State.choices_modChecker (s : State) (c : Fin 2) (f : Checker → Checker) : (s.modChecker c f).choices = s.choices := rfl
@[simp] theorem State.pending_modChecker (s : State) (c : Fin 2) (f : Checker → Checker) : (s.modChecker c f).pending = s.pending := rfl
@[simp] theorem State.port_modChecker (s : State) (c : Fin 2) (f : Checker → Checker) (k : Port) :
    (s.modChecker c f).port k = s.port k := rfl
@[simp] theorem State.profile_modChecker (s : State) (c : Fin 2) (f : Checker → Checker) (k : ProfileId) :
    (s.modChecker c f).profile k = s.profile k := rfl
@[simp] theorem State.slot_modChecker (s : State) (c : Fin 2) (f : Checker → Checker) (k : SlotId) :
    (s.modChecker c f).slot k = s.slot k := rfl

@[simp] theorem State.checker_modChecker_same (s : State) (c : Fin 2) (f : Checker → Checker) :
    (s.modChecker c f).checker c = f (s.checker c) := by
  simp [State.checker, State.modChecker]

theorem State.checker_modChecker_ne (s : State) (c k : Fin 2) (f : Checker → Checker) (h : k ≠ c) :
    (s.modChecker c f).checker k = s.checker k := by
  simp [State.checker, State.modChecker, vset_get_ne _ _ h]

theorem State.checker_modChecker (s : State) (c k : Fin 2) (f : Checker → Checker) :
    (s.modChecker c f).checker k = if k = c then f (s.checker c) else s.checker k := by
  by_cases h : k = c
  · subst h; simp
  · simp [h, State.checker_modChecker_ne s c k f h]

@[simp] theorem State.modChecker_modChecker (s : State) (c : Fin 2) (f g : Checker → Checker) :
    (s.modChecker c f).modChecker c g = s.modChecker c fun y => g (f y) := by
  simp [State.modChecker, State.checker]

@[simp] theorem State.windowOf_modProfile (s : State) (n : ProfileId) (f : Profile → Profile) (id : WindowId) :
    (s.modProfile n f).windowOf id = s.windowOf id := by
  cases id <;> rfl
@[simp] theorem State.windowOf_modSlot (s : State) (i : SlotId) (f : Slot → Slot) (id : WindowId) :
    (s.modSlot i f).windowOf id = s.windowOf id := by
  cases id <;> rfl
@[simp] theorem State.windowOf_modChecker (s : State) (c : Fin 2) (f : Checker → Checker) (id : WindowId) :
    (s.modChecker c f).windowOf id = s.windowOf id := by
  cases id <;> rfl

/-! ### Notices -/

/-- A port with the notice k added. -/
def PortState.noticed (ps : PortState) (k : Notice) : PortState := { ps with notices := ps.notices.add k }

theorem State.notify_eq (s : State) (p : Port) (k : Notice) : s.notify p k = s.modPort p fun ps => ps.noticed k := rfl

theorem State.port_notify (s : State) (p q : Port) (k : Notice) :
    (s.notify p k).port q = if q = p then (s.port p).noticed k else s.port q := by
  rw [State.notify_eq, State.port_modPort]

/-- t is s but for the notice sets of its ports. -/
structure OnlyNotices (s t : State) : Prop where
  state : t = { s with ports := t.ports }
  port  : ∀ p, t.port p = { s.port p with notices := (t.port p).notices }

theorem OnlyNotices.refl (s : State) : OnlyNotices s s := ⟨rfl, fun _ => rfl⟩

theorem OnlyNotices.trans {s t u : State} (a : OnlyNotices s t) (b : OnlyNotices t u) : OnlyNotices s u := by
  refine ⟨?_, fun p => ?_⟩
  · rw [b.state, a.state]
  · rw [b.port p, a.port p]

theorem onlyNotices_notify (s : State) (p : Port) (k : Notice) : OnlyNotices s (s.notify p k) := by
  refine ⟨rfl, fun q => ?_⟩
  rw [State.port_notify]
  by_cases h : q = p
  · subst h; simp [PortState.noticed]
  · simp [h]

theorem onlyNotices_notifyOpt (s : State) (p : Option Port) (k : Notice) : OnlyNotices s (s.notifyOpt p k) := by
  cases p with
  | none => exact .refl s
  | some q => exact onlyNotices_notify s q k

theorem onlyNotices_foldl {α : Type} (step : State → α → State) (h : ∀ s a, OnlyNotices s (step s a)) (l : List α) :
    ∀ s, OnlyNotices s (l.foldl step s) := by
  induction l with
  | nil => exact fun s => .refl s
  | cons a l ih => exact fun s => (h s a).trans (ih _)

theorem onlyNotices_notifySet (s : State) (m : BitVec 4) (k : Notice) : OnlyNotices s (s.notifySet m k) := by
  refine onlyNotices_foldl _ (fun s p => ?_) _ s
  by_cases h : m.getLsbD p.val = true
  · show OnlyNotices s (if m.getLsbD p.val = true then s.notify p k else s)
    rw [if_pos h]; exact onlyNotices_notify s p k
  · show OnlyNotices s (if m.getLsbD p.val = true then s.notify p k else s)
    rw [if_neg h]; exact .refl s

theorem onlyNotices_notifyAll (s : State) (k : Notice) : OnlyNotices s (s.notifyAll k) :=
  onlyNotices_foldl _ (fun s p => onlyNotices_notify s p k) _ s

theorem onlyNotices_notifyMembers (s : State) (n : ProfileId) (k : Notice) : OnlyNotices s (s.notifyMembers n k) :=
  (onlyNotices_notifyOpt s _ k).trans (onlyNotices_notifySet _ _ k)

theorem State.port_notifySet (s : State) (m : BitVec 4) (k : Notice) (q : Port) :
    (s.notifySet m k).port q = if m.getLsbD q.val = true then (s.port q).noticed k else s.port q := by
  unfold State.notifySet allPorts
  simp only [List.foldl_cons, List.foldl_nil]
  fin_cases q <;> (repeat' split) <;> simp_all [State.port_notify]

theorem State.port_notifyAll (s : State) (k : Notice) (q : Port) :
    (s.notifyAll k).port q = (s.port q).noticed k := by
  unfold State.notifyAll allPorts
  simp only [List.foldl_cons, List.foldl_nil]
  fin_cases q <;> simp [State.port_notify]

/-! ### Replies -/

theorem State.port_reply (s : State) (p q : Port) (code tag : Byte) (a : Answer) :
    (s.reply p code tag a).port q = if q = p then
      { s.port p with replies := (s.port p).replies ++ [⟨code, tag, a.1, a.2⟩] } else s.port q := by
  rw [State.reply, State.port_modPort]

theorem State.reply_eq (s : State) (p : Port) (code tag : Byte) (a : Answer) :
    s.reply p code tag a = { s with ports := (s.reply p code tag a).ports } := rfl

end Sys2Proof.Machine
end

