-- ==== Sys2Proof/Laws/Command.lean ====
section
/-! SUPPORT. How a command frame is taken: what receive changes, and what command answers for a frame that is taken. -/

namespace Sys2Proof.Machine

/-- What receive does to its port: the transaction in progress, or the one its own fall began, ends. -/
theorem receive_eq (f : Frame) (s : State) :
    ∃ g : PortState → PortState, receive f s = s.modPort f.port g := by
  unfold receive startTransaction
  by_cases h : ((s.port f.port).ignoring || (s.port f.port).spi.isSome) = true
  · simp only [h, if_true]
    exact ⟨_, rfl⟩
  · simp only [h, Bool.false_eq_true, if_false]
    exact ⟨_, State.modPort_modPort s f.port _ _⟩

@[simp] theorem receive_lane (f : Frame) (s : State) : (receive f s).lane = s.lane := by
  obtain ⟨g, h⟩ := receive_eq f s; rw [h]; rfl
@[simp] theorem receive_profiles (f : Frame) (s : State) : (receive f s).profiles = s.profiles := by
  obtain ⟨g, h⟩ := receive_eq f s; rw [h]; rfl
@[simp] theorem receive_slots (f : Frame) (s : State) : (receive f s).slots = s.slots := by
  obtain ⟨g, h⟩ := receive_eq f s; rw [h]; rfl
@[simp] theorem receive_engine (f : Frame) (s : State) : (receive f s).engine = s.engine := by
  obtain ⟨g, h⟩ := receive_eq f s; rw [h]; rfl
@[simp] theorem receive_mem (f : Frame) (s : State) : (receive f s).mem = s.mem := by
  obtain ⟨g, h⟩ := receive_eq f s; rw [h]; rfl
@[simp] theorem receive_shared (f : Frame) (s : State) : (receive f s).shared = s.shared := by
  obtain ⟨g, h⟩ := receive_eq f s; rw [h]; rfl
@[simp] theorem receive_mover (f : Frame) (s : State) : (receive f s).mover = s.mover := by
  obtain ⟨g, h⟩ := receive_eq f s; rw [h]; rfl
@[simp] theorem receive_gen (f : Frame) (s : State) : (receive f s).gen = s.gen := by
  obtain ⟨g, h⟩ := receive_eq f s; rw [h]; rfl
@[simp] theorem receive_checkers (f : Frame) (s : State) : (receive f s).checkers = s.checkers := by
  obtain ⟨g, h⟩ := receive_eq f s; rw [h]; rfl
@[simp] theorem receive_choices (f : Frame) (s : State) : (receive f s).choices = s.choices := by
  obtain ⟨g, h⟩ := receive_eq f s; rw [h]; rfl
@[simp] theorem receive_pending (f : Frame) (s : State) : (receive f s).pending = s.pending := by
  obtain ⟨g, h⟩ := receive_eq f s; rw [h]; rfl
@[simp] theorem receive_profile (f : Frame) (s : State) (n : ProfileId) : (receive f s).profile n = s.profile n := by
  simp [State.profile]
@[simp] theorem receive_slot (f : Frame) (s : State) (i : SlotId) : (receive f s).slot i = s.slot i := by
  simp [State.slot]
@[simp] theorem receive_checker (f : Frame) (s : State) (c : Fin 2) : (receive f s).checker c = s.checker c := by
  simp [State.checker]

theorem receive_port_ne (f : Frame) (s : State) {p : Port} (h : p ≠ f.port) : (receive f s).port p = s.port p := by
  obtain ⟨g, e⟩ := receive_eq f s
  rw [e, State.port_modPort_ne s f.port p g h]

/-- A port that ends its transaction keeps all but the transaction, the head reply, the two flags and the countdown. -/
theorem receive_port (f : Frame) (s : State) :
    (receive f s).port f.port = { s.port f.port with
      spi := ((receive f s).port f.port).spi, replies := ((receive f s).port f.port).replies
      overrun := ((receive f s).port f.port).overrun, resetOccurred := ((receive f s).port f.port).resetOccurred
      countdown := ((receive f s).port f.port).countdown } := by
  unfold receive startTransaction
  by_cases h : ((s.port f.port).ignoring || (s.port f.port).spi.isSome) = true
  · simp only [h, if_true, State.port_modPort_same]
    cases (s.port f.port).spi <;> rfl
  · simp only [h, Bool.false_eq_true, if_false, State.modPort_modPort, State.port_modPort_same]
    rfl

theorem receive_replies_length (f : Frame) (s : State) :
    ((receive f s).port f.port).replies.length ≤ (s.port f.port).replies.length := by
  unfold receive startTransaction
  by_cases h : ((s.port f.port).ignoring || (s.port f.port).spi.isSome) = true
  · simp only [h, if_true, State.port_modPort_same]
    cases (s.port f.port).spi with
    | none => exact Nat.le_refl _
    | some t =>
      simp only [PortState.finishTransaction]
      split <;> simp
  · simp only [h, Bool.false_eq_true, if_false, State.modPort_modPort, State.port_modPort_same,
      PortState.finishTransaction]
    split <;> simp

/-- receive changes no window. -/
@[simp] theorem receive_windowOf (f : Frame) (s : State) (id : WindowId) : (receive f s).windowOf id = s.windowOf id := by
  cases id with
  | shared k => simp [State.windowOf]
  | priv p k =>
    simp only [State.windowOf]
    by_cases h : p = f.port
    · subst h; rw [receive_port]
    · rw [receive_port_ne f s h]

/-- The frame check of a frame that carries a payload. -/
theorem checkFrame_of_carries {f : Frame} {pl : List Word} (h : f.Carries pl) (code : Byte) :
    checkFrame code f.body = checkPayload code pl := by
  obtain ⟨hl, k, hb⟩ := h
  have hn : (natWord pl.length).toNat = pl.length := by
    simp only [natWord, BitVec.toNat_ofNat]
    omega
  rw [hb]
  simp only [checkFrame, hn]
  rw [if_neg]
  · simp
  · simp only [List.length_append, List.length_replicate, List.drop_left, not_or, Bool.not_eq_true, not_lt]
    refine ⟨hl, by omega, ?_⟩
    simp

/-- A command of a frame that is taken and fits its payload: it runs on the state after receive, and one reply follows. -/
theorem command_of_takes {s : State} {f : Frame} {pl : List Word} {code : Byte} {rule : List Word → PayloadVerdict}
    (h : s.Takes f pl) (hr : payloadRule code = some rule) (hf : rule pl = .fits)
    (run : Port → List Word → State → State × Answer) :
    command code run f s
      = (run f.port pl (receive f s)).1.reply f.port code f.tag (run f.port pl (receive f s)).2 := by
  obtain ⟨hc, hi, hl⟩ := h
  have hc' := checkFrame_of_carries hc code
  simp only [checkPayload, hr, hf] at hc'
  simp only [command, intake, hi, Bool.false_eq_true, if_false]
  rw [if_neg (Nat.not_le.mpr hl), hc']

/-- A frame with eight replies waiting is discarded, with the overrun flag set. -/
theorem command_of_full {s : State} {f : Frame} {code : Byte} (hi : (s.port f.port).ignoring = false)
    (hl : Config.replyLimit ≤ ((receive f s).port f.port).replies.length)
    (run : Port → List Word → State → State × Answer) :
    command code run f s = (receive f s).modPort f.port fun ps => { ps with overrun := true } := by
  simp only [command, intake, hi, Bool.false_eq_true, if_false]
  rw [if_pos hl]

/-- A frame that a port ignores ends its transaction and does nothing else. -/
theorem command_of_ignoring {s : State} {f : Frame} {code : Byte} (hi : (s.port f.port).ignoring = true)
    (run : Port → List Word → State → State × Answer) : command code run f s = stopIgnoring f.port s := by
  simp only [command, intake, hi, if_true]

/-- All that becomes of a command frame: nothing is done, or the run follows receive and one reply follows the run. -/
theorem command_cases (code : Byte) (run : Port → List Word → State → State × Answer) (f : Frame) (s : State) :
    command code run f s = stopIgnoring f.port s
      ∨ command code run f s = (receive f s).modPort f.port (fun ps => { ps with overrun := true })
      ∨ (∃ st, command code run f s = (receive f s).reply f.port code f.tag (refuse st))
      ∨ ∃ pl, command code run f s
          = (run f.port pl (receive f s)).1.reply f.port code f.tag (run f.port pl (receive f s)).2 := by
  unfold command intake
  by_cases hi : (s.port f.port).ignoring = true
  · exact .inl (by simp only [hi, if_true])
  · simp only [hi, Bool.false_eq_true, if_false]
    by_cases hl : Config.replyLimit ≤ ((receive f s).port f.port).replies.length
    · exact .inr (.inl (by simp only [if_pos hl]))
    · simp only [if_neg hl]
      cases checkFrame code f.body with
      | refused st => exact .inr (.inr (.inl ⟨st, rfl⟩))
      | accepted pl => exact .inr (.inr (.inr ⟨pl, rfl⟩))

/-- A port with a place for a reply takes a frame that carries a payload. -/
theorem State.takes_of {s : State} {f : Frame} {pl : List Word} (hc : f.Carries pl)
    (hi : (s.port f.port).ignoring = false) (hl : (s.port f.port).replies.length < Config.replyLimit) : s.Takes f pl :=
  ⟨hc, hi, Nat.lt_of_le_of_lt (receive_replies_length f s) hl⟩

end Sys2Proof.Machine
end

