-- ==== Sys2Proof/Laws/Control.lean ====
section
/-! SUPPORT. What the operations of the profile table and of the adaptation controller can change: the record of their
profile, the probe queue with the unit and the suspension request, and notice sets. -/

namespace Sys2Proof.Machine

/-- t is s but for profile n, the probes, the unit and its suspension request, and notice sets. -/
structure ProfileOnly (n : ProfileId) (s t : State) : Prop where
  state  : t = { s with profiles := t.profiles, engine := t.engine, ports := t.ports }
  engine : t.engine = { s.engine with
    mac := t.engine.mac, suspendAsked := t.engine.suspendAsked, probes := t.engine.probes }
  other  : ∀ m, m ≠ n → t.profile m = s.profile m
  port   : ∀ p, t.port p = { s.port p with notices := (t.port p).notices }

theorem ProfileOnly.refl (n : ProfileId) (s : State) : ProfileOnly n s s := ⟨rfl, rfl, fun _ _ => rfl, fun _ => rfl⟩

theorem ProfileOnly.trans {n : ProfileId} {s t u : State} (a : ProfileOnly n s t) (b : ProfileOnly n t u) :
    ProfileOnly n s u := by
  refine ⟨?_, ?_, fun m h => (b.other m h).trans (a.other m h), fun p => ?_⟩
  · rw [b.state, a.state]
  · rw [b.engine, a.engine]
  · rw [b.port p, a.port p]

theorem OnlyNotices.profileOnly {s t : State} (h : OnlyNotices s t) (n : ProfileId) : ProfileOnly n s t := by
  refine ⟨?_, ?_, fun m _ => ?_, h.port⟩ <;> rw [h.state]
  rfl

theorem profileOnly_modProfile (n : ProfileId) (s : State) (f : Profile → Profile) :
    ProfileOnly n s (s.modProfile n f) :=
  ⟨rfl, rfl, fun m h => State.profile_modProfile_ne s n m f h, fun _ => rfl⟩

theorem profileOnly_modSearch (n : ProfileId) (s : State) (f : SearchPosition → SearchPosition) :
    ProfileOnly n s (s.modSearch n f) := profileOnly_modProfile n s _

/-- A change of the probes, the unit and the suspension request alone. -/
theorem profileOnly_probes (n : ProfileId) (s : State) (e : Engine)
    (h : e = { s.engine with mac := e.mac, suspendAsked := e.suspendAsked, probes := e.probes }) :
    ProfileOnly n s { s with engine := e } :=
  ⟨rfl, h, fun _ _ => rfl, fun _ => rfl⟩

theorem profileOnly_tryCopy (n : ProfileId) (s : State) : ProfileOnly n s (tryCopy n s) := profileOnly_modProfile n s _

theorem profileOnly_startCommit (n : ProfileId) (s : State) : ProfileOnly n s (startCommit n s) :=
  (profileOnly_modProfile n s _).trans (profileOnly_tryCopy n _)

theorem profileOnly_freeTest (n : ProfileId) (s : State) : ProfileOnly n s (freeTest n s) := by
  unfold freeTest
  split
  · exact ((onlyNotices_notifyOpt s _ _).profileOnly n).trans (profileOnly_modProfile n _ _)
  · exact .refl n s

theorem profileOnly_dropReference (n : ProfileId) (b : BankId) (s : State) : ProfileOnly n s (dropReference n b s) :=
  ((profileOnly_modProfile n s _).trans (profileOnly_tryCopy n _)).trans (profileOnly_freeTest n _)

theorem profileOnly_routeCompleted (n : ProfileId) (k : Block) (b : BankId) (ys : List Sample) (x y : Bool) (s : State) :
    ProfileOnly n s (routeCompleted n k b ys x y s) :=
  (profileOnly_modProfile n s _).trans (profileOnly_dropReference n b _)

theorem profileOnly_routeExpired (n : ProfileId) (k : Block) (b : BankId) (s : State) :
    ProfileOnly n s (routeExpired n k b s) :=
  (profileOnly_modProfile n s _).trans (profileOnly_dropReference n b _)

theorem Engine.dropRunningProbe_eq (e : Engine) (n : ProfileId) : e.dropRunningProbe n = { e with
    mac := (e.dropRunningProbe n).mac, suspendAsked := (e.dropRunningProbe n).suspendAsked } := by
  unfold Engine.dropRunningProbe
  repeat' split
  all_goals rfl

theorem profileOnly_queueProbe (e : ProbeEntry) (s : State) : ProfileOnly e.profile s (queueProbe e s) :=
  (profileOnly_probes e.profile s _ rfl).trans (profileOnly_modProfile e.profile _ _)

theorem profileOnly_restartProbe (n : ProfileId) (w : ProbeWindow) (s : State) :
    ProfileOnly n s (restartProbe n w s) := by
  refine profileOnly_probes n s _ ?_
  simp only
  rw [Engine.dropRunningProbe_eq]

theorem profileOnly_withdrawProbe (n : ProfileId) (s : State) : ProfileOnly n s (withdrawProbe n s) := by
  unfold withdrawProbe
  split
  · exact .refl n s
  · refine ((profileOnly_probes n s _ ?_).trans (profileOnly_modProfile n _ _)).trans (profileOnly_freeTest n _)
    simp only
    rw [Engine.dropRunningProbe_eq]

theorem profileOnly_endAdaptation (n : ProfileId) (o : Outcome) (s : State) : ProfileOnly n s (endAdaptation n o s) :=
  ((profileOnly_withdrawProbe n s).trans (profileOnly_modProfile n _ _)).trans
    ((onlyNotices_notifyMembers _ n _).profileOnly n)

theorem profileOnly_succeed (n : ProfileId) (o : CommitOrigin) (s : State) : ProfileOnly n s (succeed n o s) :=
  (profileOnly_modProfile n s _).trans (profileOnly_startCommit n _)

theorem profileOnly_tryQueue (n : ProfileId) (s : State) : ProfileOnly n s (tryQueue n s) := by
  have q : ∀ w, ProfileOnly n s
      ((queueProbe ((s.profile n).probeEntry n w) s).modSearch n fun x => { x with window := some w }) :=
    fun w => by
      have h : ProfileOnly n s (queueProbe ((s.profile n).probeEntry n w) s) :=
        profileOnly_queueProbe ((s.profile n).probeEntry n w) s
      exact h.trans (profileOnly_modSearch n _ _)
  unfold tryQueue
  simp only
  split
  · exact .refl n s
  · split
    · exact profileOnly_endAdaptation n _ s
    · split
      · exact q _
      · exact .refl n s

theorem profileOnly_endShaping (n : ProfileId) (c : Fin 32) (fom : Int) (s : State) :
    ProfileOnly n s (endShaping n c fom s) := by
  unfold endShaping
  simp only
  split
  · exact (profileOnly_modProfile n s _).trans (profileOnly_succeed n _ _)
  · split
    · split
      · exact (profileOnly_modProfile n s _).trans (profileOnly_succeed n _ _)
      · exact (profileOnly_modProfile n s _).trans (profileOnly_endAdaptation n _ _)
    · exact ((profileOnly_modProfile n s _).trans (profileOnly_modProfile n _ _)).trans (profileOnly_tryQueue n _)

theorem profileOnly_applyShaping (n : ProfileId) (fom : Int) (s : State) : ProfileOnly n s (applyShaping n fom s) := by
  unfold applyShaping
  simp only
  split
  · exact (profileOnly_modSearch n s _).trans (profileOnly_endShaping n _ _ _)
  · split
    · exact ((profileOnly_modSearch n s _).trans (profileOnly_modSearch n _ _)).trans (profileOnly_tryQueue n _)
    · exact (profileOnly_modSearch n s _).trans (profileOnly_endShaping n _ _ _)

theorem profileOnly_endTrimPass (n : ProfileId) (best : Int) (s : State) : ProfileOnly n s (endTrimPass n best s) := by
  unfold endTrimPass
  simp only
  split
  · split
    · exact (profileOnly_modProfile n s _).trans (profileOnly_tryQueue n _)
    · exact profileOnly_succeed n _ s
  · split
    · exact profileOnly_endAdaptation n _ s
    · exact (profileOnly_modProfile n s _).trans (profileOnly_tryQueue n _)

theorem profileOnly_applyTrim (n : ProfileId) (fom : Int) (s : State) : ProfileOnly n s (applyTrim n fom s) := by
  unfold applyTrim
  extract_lets p q better best bestTrial run s'
  split
  · split
    · exact (((profileOnly_modSearch n s _).trans (profileOnly_modProfile n _ _)).trans
        (profileOnly_modSearch n _ _)).trans (profileOnly_tryQueue n _)
    · exact ((profileOnly_modSearch n s _).trans (profileOnly_modProfile n _ _)).trans (profileOnly_endTrimPass n _ _)
  · exact ((profileOnly_modSearch n s _).trans (profileOnly_modSearch n _ _)).trans (profileOnly_tryQueue n _)

theorem profileOnly_decideRound (n : ProfileId) (s : State) : ProfileOnly n s (decideRound n s) := by
  unfold decideRound
  simp only
  split
  · exact (profileOnly_modProfile n s _).trans (profileOnly_succeed n _ _)
  · exact profileOnly_modProfile n s _

theorem profileOnly_advanceRound (n : ProfileId) (left : Nat) (s : State) : ProfileOnly n s (advanceRound n left s) := by
  unfold advanceRound
  split
  · exact (profileOnly_modSearch n s _).trans (profileOnly_tryQueue n _)
  · exact profileOnly_decideRound n s

theorem profileOnly_applyRound (n : ProfileId) (fom : Int) (s : State) : ProfileOnly n s (applyRound n fom s) := by
  unfold applyRound
  simp only
  split
  · exact (profileOnly_modSearch n s _).trans (profileOnly_advanceRound n _ _)
  · split
    · exact ((profileOnly_modSearch n s _).trans (profileOnly_modSearch n _ _)).trans (profileOnly_tryQueue n _)
    · exact ((profileOnly_modSearch n s _).trans (profileOnly_modSearch n _ _)).trans (profileOnly_advanceRound n _ _)

theorem profileOnly_applyFom (n : ProfileId) (fom : Int) (s : State) : ProfileOnly n s (applyFom n fom s) := by
  unfold applyFom
  split
  · exact profileOnly_applyShaping n fom s
  · exact profileOnly_applyShaping n fom s
  · exact profileOnly_applyTrim n fom s
  · exact profileOnly_applyRound n fom s
  · exact .refl n s
  · exact .refl n s

theorem profileOnly_probeScored (n : ProfileId) (fom : Int) (s : State) : ProfileOnly n s (probeScored n fom s) := by
  unfold probeScored
  extract_lets stale s'
  split
  · exact (profileOnly_modProfile n s _).trans (profileOnly_tryQueue n _)
  · exact ((profileOnly_modProfile n s _).trans (profileOnly_modProfile n _ _)).trans (profileOnly_applyFom n _ _)

theorem profileOnly_overrun (n : ProfileId) (b : Block) (s : State) : ProfileOnly n s (overrun n b s) := by
  unfold overrun
  simp only
  split
  · exact ((profileOnly_modProfile n s _).trans (profileOnly_modSearch n _ _)).trans (profileOnly_restartProbe n _ _)
  · exact (profileOnly_modProfile n s _).trans (profileOnly_endAdaptation n _ _)

theorem profileOnly_startRound (n : ProfileId) (s : State) : ProfileOnly n s (startRound n s) :=
  (profileOnly_modProfile n s _).trans (profileOnly_tryQueue n _)

theorem profileOnly_controllerEvent (k : Block) (flipped : List ProfileId) (s : State) (n : ProfileId) :
    ProfileOnly n s (controllerEvent k flipped s n) := by
  unfold controllerEvent
  simp only
  split
  · split
    · split
      · exact profileOnly_overrun n k s
      · exact .refl n s
    · exact .refl n s
  · split
    · exact profileOnly_tryQueue n s
    · split
      · split
        · exact profileOnly_startRound n s
        · exact profileOnly_modSearch n s _
      · exact .refl n s

theorem profileOnly_lossOfLeader (n : ProfileId) (s : State) : ProfileOnly n s (lossOfLeader n s) := by
  unfold lossOfLeader
  split
  · exact profileOnly_endAdaptation n _ s
  · exact profileOnly_endAdaptation n _ s
  · exact profileOnly_endAdaptation n _ s
  · exact profileOnly_endAdaptation n _ s
  · exact profileOnly_modSearch n s _
  · exact .refl n s

theorem profileOnly_endForDelete (n : ProfileId) (s : State) : ProfileOnly n s (endForDelete n s) := by
  unfold endForDelete
  split
  · exact .refl n s
  · exact (profileOnly_withdrawProbe n s).trans (profileOnly_modProfile n _ _)

end Sys2Proof.Machine
end

