-- ==== Sys2Proof/Laws/Event.lean ====
section
/-! SUPPORT. The block event: what it is when nothing falls between its parts, and what each part may do. -/

namespace Sys2Proof.Machine

/-- With no slot taken, the engine's question is whether a slot names the profile (R51). -/
@[simp] theorem State.profileActive_nil (s : State) (n : ProfileId) : s.profileActive [] n = s.profileInUse n := by
  simp [State.profileActive]

/-- An engine that has had no turn expires, then asks for every profile. -/
@[simp] theorem engineRest_zero (k : Block) (taken : List SlotId) (s : State) :
    engineRest k taken 0 s = allProfiles.foldl (queueActive k taken) (expireRoutes k s) := rfl

/-- An engine that has had every turn does nothing more. -/
@[simp] theorem engineRest_all (k : Block) (taken : List SlotId) (s : State) : engineRest k taken 33 s = s := rfl

/-- A turn the engine has now is one it does not have at the end. -/
theorem engineRest_turn (k : Block) (taken : List SlotId) (done : Nat) (s : State) :
    engineRest k taken (done + 1) (engineTurn k taken done s) = engineRest k taken done s := by
  cases done with
  | zero => rfl
  | succ d =>
    simp only [engineRest, engineTurn, Nat.add_sub_cancel, Nat.succ_ne_zero, if_false]
    by_cases h : d < allProfiles.length
    · rw [List.getElem?_eq_getElem h, List.drop_eq_getElem_cons h, List.foldl_cons]
    · rw [List.getElem?_eq_none (by omega), List.drop_eq_nil_of_le (by omega), List.drop_eq_nil_of_le (by omega)]

/-- The engine's turns given one after another. -/
theorem foldl_take_engine (k : Block) (n : Nat) (r : EventRun) :
    ((List.replicate n .engine).foldl (EventRun.take k) r).engine = r.engine + n
      ∧ engineRest k r.slots (r.engine + n) ((List.replicate n .engine).foldl (EventRun.take k) r).state
        = engineRest k r.slots r.engine r.state := by
  induction n generalizing r with
  | zero => exact ⟨rfl, rfl⟩
  | succ n ih =>
    obtain ⟨h, g⟩ := ih (EventRun.take k r .engine)
    refine ⟨by simpa [List.replicate_succ, EventRun.take, Nat.add_assoc, Nat.add_comm 1] using h, ?_⟩
    rw [show r.engine + (n + 1) = (EventRun.take k r .engine).engine + n by simp [EventRun.take]; omega]
    exact g.trans (engineRest_turn k r.slots r.engine r.state)

/-- A controller that has treated no profile treats every one that is due. -/
@[simp] theorem controllerBlockEvent_all (k : Block) (flipped : List ProfileId) (s : State) :
    controllerBlockEvent k [] flipped s
      = s.controllerOrder.foldl (controllerEvent k flipped) { s with choices := s.choices + 1 } := by
  simp [controllerBlockEvent]

/-- No moments given: the engine, the controller, the bank flips, the slots. -/
@[simp] theorem blockEventTaken_nil (k : Block) (s : State) :
    blockEventTaken k [] s
      = slotMapEvent k [] (bankFlips k (controllerBlockEvent k [] [] (engineRest k [] 0 s))) := rfl

/-- Moments given one after another. -/
theorem blockEventTaken_cons (k : Block) (m : Moment) (ms : List Moment) (s : State) :
    blockEventTaken k (m :: ms) s = (ms.foldl (EventRun.take k) (EventRun.take k ⟨s, 0, [], [], []⟩ m)).finish k := rfl

/-- The slot map takes the event for every slot when none is taken yet. -/
@[simp] theorem slotMapEvent_nil (k : Block) (s : State) : slotMapEvent k [] s = allSlots.foldl (slotEvent k) s := by
  simp [slotMapEvent]

/-- No slot is left when all are taken. -/
theorem slotMapEvent_all (k : Block) {taken : List SlotId} (h : ∀ i, i ∈ taken) (s : State) : slotMapEvent k taken s = s := by
  simp [slotMapEvent, h]

/-- Slots given one after another, each once and none taken before, are treated in that order. -/
theorem foldl_take_slot (k : Block) {order : List SlotId} (hn : order.Nodup) :
    ∀ r : EventRun, (∀ i ∈ order, i ∉ r.slots) → (order.map .slot).foldl (EventRun.take k) r
      = { r with state := order.foldl (slotEvent k) r.state, slots := order.reverse ++ r.slots } := by
  induction order with
  | nil => exact fun r _ => rfl
  | cons i order ih =>
    intro r h
    obtain ⟨hi, ho⟩ := List.nodup_cons.mp hn
    have ht : EventRun.take k r (.slot i) = { r with state := slotEvent k r.state i, slots := i :: r.slots } := by
      simp [EventRun.take, EventRun.takeSlot, h i]
    rw [List.map_cons, List.foldl_cons, ht, ih ho]
    · simp
    · intro j hj
      simp only [List.mem_cons, not_or]
      exact ⟨fun e => hi (e ▸ hj), h j (List.mem_cons_of_mem _ hj)⟩

/-- A frame at an earlier position completes no block, whatever is said of its event. -/
theorem takeFrame_of_lt {frame : LaneFrame} {within : List Moment} {s : State} (h : s.lane.position ≠ 31) :
    takeFrame frame within s = { s with lane := { s.lane with
      frameOpen := false, output := none
      assembly := s.lane.assembly ++ [frame], position := s.lane.position + 1 } } := by
  simp [takeFrame, h]

/-- A meaning that goes on leaves its next state. -/
theorem eq_next_stateAfter {o : Host.Outcome State Fault Refusal} (h : ∃ t, o = .next t) (s : State) :
    o = .next (stateAfter o s) := by
  obtain ⟨t, rfl⟩ := h
  rfl

/-- No frame stops the part. -/
theorem execFrame_next (code : Byte) (f : Frame) (s : State) : ∃ t, execFrame code f s = .next t := by
  unfold execFrame
  split <;> first | exact ⟨_, rfl⟩ | (split <;> exact ⟨_, rfl⟩)

/-- Nothing that falls within a block event stops the part. -/
theorem execInner_next (e : Inner) (s : State) : execInner e s = .next (stateAfter (execInner e s) s) := by
  refine eq_next_stateAfter ?_ s
  cases e with
  | frame code f => exact execFrame_next code f s
  | _ => exact ⟨_, rfl⟩

end Sys2Proof.Machine
end

