-- ==== Sys2Proof/Laws/Memory.lean ====
section
/-! SUPPORT. The work memory: what a read gives after a write, and that every memory operation keeps the canonical form. -/

namespace Sys2Proof.Machine

/-- A memory canonical from an address on reads zero below it. -/
theorem memRead_below {m : List Cell} {lo a : Nat} (h : memWfFrom lo m = true) (ha : a < lo) : memRead m a = 0 := by
  induction m generalizing lo with
  | nil => rfl
  | cons c r ih =>
    obtain ⟨b, w⟩ := c
    simp only [memWfFrom, Bool.and_eq_true, decide_eq_true_eq] at h
    have hb : a ≠ b := by omega
    simp only [memRead, hb, if_false]
    exact ih h.2 (by omega)

theorem memWfFrom_mono {m : List Cell} {lo lo' : Nat} (h : memWfFrom lo m = true) (hl : lo' ≤ lo) :
    memWfFrom lo' m = true := by
  cases m with
  | nil => rfl
  | cons c r =>
    obtain ⟨b, w⟩ := c
    simp only [memWfFrom, Bool.and_eq_true, decide_eq_true_eq] at h ⊢
    exact ⟨⟨⟨by omega, h.1.1.2⟩, h.1.2⟩, h.2⟩

/-- A write changes the read of no other address. -/
theorem memRead_memWrite_ne (m : List Cell) {a b : Nat} (v : Word) (h : b ≠ a) :
    memRead (memWrite m a v) b = memRead m b := by
  induction m with
  | nil =>
    by_cases hv : v = 0
    · simp [memWrite, hv]
    · simp only [memWrite, if_neg hv]; simp [memRead, h]
  | cons c r ih =>
    obtain ⟨x, w⟩ := c
    simp only [memWrite]
    split
    · split
      · rfl
      · simp [memRead, h]
    · split
      · rename_i hax
        subst hax
        split
        · simp [memRead, h]
        · simp [memRead, h]
      · simp only [memRead]
        split
        · rfl
        · exact ih

/-- In a canonical memory the word written is the word read. -/
theorem memRead_memWrite_same {m : List Cell} {lo a : Nat} (v : Word) (h : memWfFrom lo m = true) :
    memRead (memWrite m a v) a = v := by
  induction m generalizing lo with
  | nil =>
    by_cases hv : v = 0
    · simp [memWrite, hv, memRead]
    · simp only [memWrite, if_neg hv]; simp [memRead]
  | cons c r ih =>
    obtain ⟨x, w⟩ := c
    have hw := h
    simp only [memWfFrom, Bool.and_eq_true, decide_eq_true_eq] at h
    simp only [memWrite]
    split
    · rename_i hax
      split
      · rename_i hv
        subst hv
        have hne : a ≠ x := by omega
        simp only [memRead, hne, if_false]
        exact memRead_below h.2 (by omega)
      · simp [memRead]
    · split
      · rename_i hax
        subst hax
        split
        · rename_i hv
          subst hv
          exact memRead_below h.2 (by omega)
        · simp [memRead]
      · rename_i hne
        simp only [memRead, hne, if_false]
        exact ih h.2

theorem memRead_memWrite {m : List Cell} {a : Nat} (v : Word) (h : Memory.wf m = true) (b : Nat) :
    memRead (memWrite m a v) b = if b = a then v else memRead m b := by
  by_cases hb : b = a
  · subst hb; simp [memRead_memWrite_same v h]
  · simp [hb, memRead_memWrite_ne m v hb]

theorem memWfFrom_memWrite {m : List Cell} {lo a : Nat} (v : Word) (h : memWfFrom lo m = true) (hl : lo ≤ a)
    (ha : a < Config.memoryWords) : memWfFrom lo (memWrite m a v) = true := by
  induction m generalizing lo with
  | nil =>
    by_cases hv : v = 0
    · simp [memWrite, hv, memWfFrom]
    · simp only [memWrite, if_neg hv]
      show (decide (lo ≤ a) && decide (a < Config.memoryWords) && v != 0 && true) = true
      simp only [Bool.and_true, Bool.and_eq_true, decide_eq_true_eq, bne_iff_ne, ne_eq]
      exact ⟨⟨hl, ha⟩, hv⟩
  | cons c r ih =>
    obtain ⟨x, w⟩ := c
    have hw := h
    simp only [memWfFrom, Bool.and_eq_true, decide_eq_true_eq] at h
    simp only [memWrite]
    split
    · rename_i hax
      split
      · exact hw
      · rename_i hv
        simp only [memWfFrom, Bool.and_eq_true, decide_eq_true_eq, bne_iff_ne, ne_eq]
        exact ⟨⟨⟨hl, ha⟩, hv⟩, ⟨⟨by omega, h.1.1.2⟩, by simpa using h.1.2⟩, h.2⟩
    · split
      · rename_i hax
        subst hax
        split
        · exact memWfFrom_mono h.2 (by omega)
        · rename_i hv
          simp only [memWfFrom, Bool.and_eq_true, decide_eq_true_eq, bne_iff_ne, ne_eq]
          exact ⟨⟨⟨hl, ha⟩, hv⟩, h.2⟩
      · rename_i hne
        simp only [memWfFrom, Bool.and_eq_true, decide_eq_true_eq, bne_iff_ne, ne_eq]
        exact ⟨⟨⟨h.1.1.1, h.1.1.2⟩, by simpa using h.1.2⟩, ih h.2 (by omega)⟩

/-- Every write keeps the canonical form. -/
theorem Memory.wf_memWrite {m : List Cell} {a : Nat} (v : Word) (h : Memory.wf m = true)
    (ha : a < Config.memoryWords) : Memory.wf (memWrite m a v) = true :=
  memWfFrom_memWrite v h (Nat.zero_le a) ha

/-- A resolved address lies in the work memory. -/
theorem State.resolve_lt {s : State} {id : WindowId} {off a : Nat} (h : s.resolve id off = .address a) :
    a < Config.memoryWords := by
  unfold State.resolve addressAt at h
  repeat' (split at h)
  all_goals simp_all

/-- What writeWord does: one word of memory, or nothing. -/
theorem State.writeWord_cases (s : State) (id : WindowId) (off : Nat) (v : Word) :
    (∃ a, s.resolve id off = .address a ∧ a < Config.memoryWords
        ∧ s.writeWord id off v = { s with mem := memWrite s.mem a v })
      ∨ ((∀ a, s.resolve id off ≠ .address a) ∧ s.writeWord id off v = s) := by
  unfold State.writeWord
  cases h : s.resolve id off with
  | address a => exact .inl ⟨a, rfl, State.resolve_lt h, rfl⟩
  | closed => exact .inr ⟨by simp, rfl⟩
  | outside => exact .inr ⟨by simp, rfl⟩

theorem State.memoryCanonical_writeWord {s : State} (h : s.MemoryCanonical) (id : WindowId) (off : Nat) (v : Word) :
    (s.writeWord id off v).MemoryCanonical := by
  rcases s.writeWord_cases id off v with ⟨a, _, ha, e⟩ | ⟨_, e⟩
  · rw [e]; exact Memory.wf_memWrite v h ha
  · rw [e]; exact h

theorem State.memoryCanonical_writeWords {s : State} (h : s.MemoryCanonical) (id : WindowId) (off : Nat)
    (vs : List Word) : (s.writeWords id off vs).MemoryCanonical := by
  induction vs generalizing s off with
  | nil => exact h
  | cons v vs ih => exact ih (State.memoryCanonical_writeWord h id off v) (off + 1)

/-- writeWord leaves everything but memory. -/
theorem State.writeWord_eq (s : State) (id : WindowId) (off : Nat) (v : Word) :
    s.writeWord id off v = { s with mem := (s.writeWord id off v).mem } := by
  rcases s.writeWord_cases id off v with ⟨a, _, _, e⟩ | ⟨_, e⟩ <;> rw [e]

theorem State.writeWords_eq (s : State) (id : WindowId) (off : Nat) (vs : List Word) :
    s.writeWords id off vs = { s with mem := (s.writeWords id off vs).mem } := by
  induction vs generalizing s off with
  | nil => rfl
  | cons v vs ih =>
    have e := State.writeWord_eq s id off v
    show (s.writeWord id off v).writeWords id (off + 1) vs
      = { s with mem := ((s.writeWord id off v).writeWords id (off + 1) vs).mem }
    generalize s.writeWord id off v = u at e ⊢
    have e' := ih u (off + 1)
    generalize u.writeWords id (off + 1) vs = w at e' ⊢
    rw [e', e]

end Sys2Proof.Machine
end

