-- ==== Sys2Proof/Tests/Slice0.lean ====
section
/-! SUPPORT. The model's own tests: the form checks refused on ill-formed terms, worked values of the manual, and for every
obligation with hypotheses a state and operands that meet them, clause by clause, at the boundaries of their ranges. -/

open Sys2Proof Sys2Proof.Machine

namespace Sys2Proof.Tests

set_option Elab.async false

/-! ### Small states -/

/-- A frame of a port with a payload and no padding. -/
def fr (p : Port) (pl : List Word) : Frame := ⟨p, 7, natWord pl.length :: pl⟩

/-- The clock runs, block 20 is the latest, and a frame is open at position 0. -/
def running : State :=
  { State.reset with lane := { State.reset.lane with
      state := .running, blockCounter := 20, frameOpen := true, zeroPeriod := false } }

/-- The frame that is open completes block 21. -/
def ending : State := { running with lane := { running.lane with position := 31 } }

/-- Port P0 leads profile 3. -/
def led : State := running.modProfile 3 fun q => { q with state := .bound, leader := some 0 }

/-- Port P0 owns slot 15, and its shared window 0 covers 40 words from address 100. -/
def owned : State :=
  { led.modSlot 15 fun t => { t with owner := some 0 } with
    shared := vset led.shared 0 (some ⟨⟨100, 40⟩, some 0⟩) }

/-- A port that could take any frame with this payload. -/
def canTake (s : State) (p : Port) (pl : List Word) : Bool :=
  decide (pl.length ≤ 62) && !(s.port p).ignoring && decide ((s.port p).replies.length < Config.replyLimit)

theorem takes_fr {s : State} {p : Port} {pl : List Word} (h : canTake s p pl = true) : s.Takes (fr p pl) pl := by
  simp only [canTake, Bool.and_eq_true, decide_eq_true_eq, Bool.not_eq_true'] at h
  exact State.takes_of ⟨h.1.1, 0, by simp [fr]⟩ h.1.2 h.2

theorem takes_all {s : State} {p : Port} {pls : List (List Word)} (h : pls.all (canTake s p) = true) :
    ∀ pl ∈ pls, s.Takes (fr p pl) pl :=
  fun pl hp => takes_fr (List.all_eq_true.mp h pl hp)

theorem probesCounted_of {s : State}
    (h : ∀ n : ProfileId, (s.profile n).probeRef = false ∧ (s.profile n).search.window = none)
    (e : s.engine.probes = []) : s.ProbesCounted := by
  intro n
  rw [e, (h n).1, (h n).2]
  exact ⟨rfl, rfl⟩

/-! ### Well-formed commands -/

theorem test_wf_good : (Instr.create (fr 0 [3])).wf = true ∧ (Instr.checkerClear (fr 0 [1, 2])).wf = true
    ∧ (Instr.unknownCommand 0x01 (fr 0 [])).wf = true := by decide +kernel

/-- No word after the header. -/
theorem test_wf_no_length : (Instr.create ⟨0, 7, []⟩).wf = false := by decide +kernel
/-- Fewer words clocked than the length says. -/
theorem test_wf_cut_short : (Instr.create ⟨0, 7, [1]⟩).wf = false := by decide +kernel
/-- A length above 62. -/
theorem test_wf_too_long : (Instr.create ⟨0, 7, 63 :: List.replicate 63 0⟩).wf = false := by decide +kernel
/-- Padding that is not zero. -/
theorem test_wf_padding : (Instr.create ⟨0, 7, [1, 3, 1]⟩).wf = false := by decide +kernel
/-- A payload of the wrong length for its command. -/
theorem test_wf_payload : (Instr.create (fr 0 [3, 3])).wf = false := by decide +kernel
/-- A select value with a bit no field has. -/
theorem test_wf_select : (Instr.setGenerator (fr 0 [32, 0])).wf = false := by decide +kernel
/-- A frame that R177 lets through is no unknown command, and a poll is none. -/
theorem test_wf_unknown : (Instr.unknownCommand 0x10 (fr 0 [3])).wf = false
    ∧ (Instr.unknownCommand 0x00 (fr 0 [])).wf = false := by decide +kernel
/-- A CHECKER CONTROL frame with another row's action. -/
theorem test_wf_action : (Instr.checkerFreeze (fr 0 [1, 2])).wf = false := by decide +kernel

/-! ### Worked values of the manual -/

/-- The first N7 sample is 21710 at level 0 and 5427 at level 2 (9.2). -/
theorem test_n7 : Generator.initial.start.next.1 = 21710
    ∧ ({ Generator.initial.start with level := 2 } : Generator).next.1 = 5427 := by decide +kernel

/-- A probe of W 128 over 64 taps needs six blocks (R92). -/
theorem test_probeBlocks : probeBlocks .w128 64 = 6 ∧ probeBlocks .w32 0 = 2 := by decide

/-- The right shifts of R144's table. -/
theorem test_shifts : shiftRight .nearest (-5) 1 = -2 ∧ shiftRight .towardZero (-5) 1 = -2
    ∧ shiftRight .down (-5) 1 = -3 := by decide

/-- A notice of every kind makes 28 reply words (R182). -/
theorem test_allNotices : (noticeWords ⟨1, 1, 1, 1, 1, 1, 1, true, true, some true, true, true, 1, 1⟩).length = 28 := by
  decide +kernel

/-- From the default set's 0 taps to the longest payload, the reply of READ PROFILE fits the 62 words of a reply. -/
theorem test_profileWords : (profilePart .cleared 0 0).map List.length = some 50
    ∧ (profilePart .cleared 2 0).map List.length = some 62 := by decide +kernel

/-- No arm of the model stops: the first command after reset goes on (R188). -/
theorem test_identify : step { State.reset with pending := [.identify (fr 2 [])] }
    = .next (State.reset.modPort 2 fun q => { q with
        resetOccurred := false, replies := [⟨0x70, 7, .ok, [0x4D52, 0x0416, 1]⟩] }) := by
  rfl

/-! ### The hypotheses of the obligations are met -/

theorem test_hyp_StepTakesFrontCommand : (∃ (s : State) (c : Instr) (rest : List Instr), s.pending = c :: rest)
    ∧ ∃ s : State, s.pending = [] :=
  ⟨⟨{ State.reset with pending := [.frameSync] }, .frameSync, [], rfl⟩, State.reset, rfl⟩

/-- A slot of each source, one of them muted, in a period that plays. -/
def playing : State :=
  ((((led.modSlot 0 fun t => { t with source := .silent }).modSlot 1 fun t => { t with source := .dry 15 }).modSlot 2
    fun t => { t with source := .generator }).modSlot 3 fun t => { t with source := .profile 3, foundValid := true }).modSlot
    15 fun t => { t with source := .profile 3, playingMuted := true }

theorem test_hyp_FrameSyncPlaysSlots : playing.lane.state = .running ∧ playing.lane.zeroPeriod = false
    ∧ (playing.slot 0).source = .silent ∧ (playing.slot 1).source = .dry 15 ∧ (playing.slot 2).source = .generator
    ∧ (playing.slot 3).source = .profile 3 ∧ (playing.slot 3).foundValid = true ∧ (playing.slot 3).playingMuted = false
    ∧ (playing.slot 15).playingMuted = true ∧ State.reset.lane.state = .waiting := by decide +kernel

/-- The generator runs. -/
def generating : State := { running with gen := { running.gen.start with claim := some 0 } }

theorem test_hyp_FrameTakenFillsBlock :
    (generating.lane.state = .running ∧ generating.lane.frameOpen = true ∧ generating.gen.running = true
      ∧ generating.lane.position.val < 31)
    ∧ (ending.lane.state = .running ∧ ending.lane.frameOpen = true ∧ ending.gen.running = false
      ∧ ending.lane.position = 31)
    ∧ (∃ v : Block, running.lane.blockCounter + 2 - v = 0x80000000)
    ∧ ∃ m : Block, m.toNat % 512 ≠ ((running.lane.blockCounter + 1) * 32).toNat % 512 ∧ generating.gen.held m = none :=
  ⟨by decide +kernel, by decide +kernel, ⟨22 - 0x80000000, by decide⟩, 1185, by decide +kernel⟩

/-- A WAITING entry due at block 21, a running one, and profile 3 in use by slot 15. -/
def busyEngine : State :=
  { ending.modProfile 3 (fun q => { q with state := .bound, leader := some 0, refs0 := 2 }) with
    engine := { ending.engine with
      mac := .running .route
      routes := [⟨3, 19, .bank0, 21, false, .start (Vector.replicate 5 0), []⟩,
        ⟨3, 18, .bank0, 20, true, .start (Vector.replicate 5 0), []⟩] } }.modSlot 15
    fun t => { t with owner := some 1, source := .profile 3 }

theorem test_hyp_BlockEventQueuesRoutePasses : busyEngine.lane.state = .running ∧ busyEngine.lane.frameOpen = true
    ∧ busyEngine.lane.position = 31 ∧ (busyEngine.profile 3).state = .bound ∧ busyEngine.profileInUse 3 = true
    ∧ allSlots.reverse.map .slot ≠ allProfiles.map Moment.flip :=
  ⟨by decide +kernel, by decide +kernel, by decide +kernel, by decide +kernel, by decide +kernel, by decide⟩

/-- The progress of a pass with the default set in its last step, `count` samples being asked for. -/
def lastStep (count : Nat) : FilterProgress :=
  { FilterProgress.start (Vector.replicate 5 0) with sample := count - 1, sub := 7, es := [0] }

/-- A probe of profile 3 with the default set. -/
def probe : ProbeEntry :=
  (led.profile 3).probeEntry 3 ⟨20, 18⟩

/-- Slot 15 plays profile 3, whose entry of block 19 is in this state. -/
def playsBlock (e : EntryState) : State :=
  busyEngine.modProfile 3 fun q => { q with
    ring := vset q.ring (ringIndex 19) ⟨some 19, e, 0, false, List.replicate 32 0⟩ }

/-- The WAITING entry of profile 3 that is due at block event 21. -/
def dueEntry : RouteEntry := ⟨3, 19, .bank0, 21, false, .start (Vector.replicate 5 0), []⟩

theorem test_hyp_DueEntryExpires : ∀ e ∈ [EntryState.pending, .none], ∀ refs ∈ [1, 2],
    ∀ x ∈ [(ProfileState.bound, CommitStage.none, BankId.bank0), (.bound, .waitingSpare, .bank1),
      (.bound, .waitingSpare, .bank0), (.retiring, .none, .bank0)],
    let s := (playsBlock e).modProfile 3 fun q => { q with
      state := x.1, stage := x.2.1, live := x.2.2, refs0 := refs, deletingPort := some 0, expiredCount := 65535 }
    s.lane.state = .running ∧ s.lane.frameOpen = true ∧ s.lane.position = 31 ∧ dueEntry.deadline = s.lane.blockCounter + 1
      ∧ dueEntry.block = s.lane.blockCounter + 1 - 2
      ∧ (s.engine.routes.filter fun y => y.profile == 3 && !y.running && y.deadline == 21) = [dueEntry]
      ∧ (s.profile 3).state = x.1 ∧ (s.profile 3).adapt = .idle ∧ (s.profile 3).probeRef = false
      ∧ (s.profile 3).refs .bank0 = refs ∧ (s.profile 3).refs .bank1 = 0 ∧ (s.profile 3).entryState 19 = e
      ∧ (s.profile 3).stage = x.2.1 ∧ (s.profile 3).spare = x.2.2.other ∧ (s.profile 3).expiredCount = 65535 := by
  decide +kernel

theorem slotsNameBound_of {s : State} (h : ∀ i : SlotId, ∀ n : ProfileId,
    ((s.slot i).source = .profile n ∨ (s.slot i).pending = some (.profile n)) → (s.profile n).state = .bound) :
    s.SlotsNameBound := h

/-- The slots that a block event finds: muted or not, with each source that has samples to play. -/
def playingAtEvent (m : Bool) (src : Source) : State :=
  ((playsBlock .valid).modSlot 0 fun t => { t with mute := m, pending := some src }).modSlot 1 fun t => { t with
    mute := m, source := .silent }

/-- Port P0 may route slot 15 to profile 3, which no slot names, at the frame that completes block 21. -/
def routable : State := { owned with lane := ending.lane }

/-- The route pass of block 19 of profile 3 is in its last step, and slots 0 and 15 play the profile. -/
def betweenSlots : State :=
  let s := (playsBlock .pending).modSlot 0 fun t => { t with source := .dry 2, pending := some (.profile 3) }
  { s with engine := { s.engine with routes := [⟨3, 19, .bank0, 21, true, lastStep 32, List.replicate 31 0⟩] } }

theorem test_hyp_SlotMapTakesBlockEvent :
    (∀ e ∈ [EntryState.pending, .expired, .valid, .none], (playsBlock e).lane.state = .running
      ∧ (playsBlock e).lane.frameOpen = true ∧ (playsBlock e).lane.position = 31
      ∧ ((playsBlock e).slot 15).source = .profile 3 ∧ ((playsBlock e).slot 15).owner = some 1
      ∧ ((playsBlock e).profile 3).entryState 19 = e)
    ∧ (playsBlock .valid).SlotsNameBound ∧ allSlots.reverse.Nodup ∧ (∀ i, i ∈ allSlots.reverse)
    ∧ (∀ m : Bool, ∀ src ∈ [Source.silent, .dry 15, .generator, .profile 3],
      (playingAtEvent m src).lane.state = .running ∧ (playingAtEvent m src).lane.frameOpen = true
        ∧ (playingAtEvent m src).lane.position = 31 ∧ ((playingAtEvent m src).slot 0).pending = some src
        ∧ ((playingAtEvent m src).slot 0).mute = m)
    ∧ (routable.lane.state = .running ∧ routable.lane.frameOpen = true ∧ routable.lane.position = 31
      ∧ routable.Takes (fr 0 (finWord (15 : SlotId) :: sourceWords (.profile 3)))
        (finWord (15 : SlotId) :: sourceWords (.profile 3))
      ∧ (routable.slot 15).owner = some 0 ∧ (routable.profile 3).state = .bound ∧ (routable.profile 3).leader = some 0
      ∧ routable.profileInUse 3 = false ∧ (routable.profile 3).entryState 21 = .none)
    ∧ ∃ e, betweenSlots.lane.state = .running ∧ betweenSlots.lane.frameOpen = true ∧ betweenSlots.lane.position = 31
      ∧ betweenSlots.engine.mac = .running .route ∧ betweenSlots.engine.routes = [] ++ e :: [] ∧ e.running = true
      ∧ e.isLast betweenSlots = true ∧ (betweenSlots.profile e.profile).state = .bound
      ∧ e.block = betweenSlots.lane.blockCounter - 1 ∧ (betweenSlots.profile e.profile).entryState e.block = .pending
      ∧ (0 : SlotId) ≠ 15 ∧ (betweenSlots.slot 0).pending.getD (betweenSlots.slot 0).source = .profile e.profile
      ∧ (betweenSlots.slot 15).pending.getD (betweenSlots.slot 15).source = .profile e.profile :=
  ⟨by decide +kernel, slotsNameBound_of (by decide +kernel), by decide, by decide, by decide +kernel,
    ⟨by decide +kernel, by decide +kernel, by decide +kernel, takes_fr (by decide +kernel), by decide +kernel⟩,
    ⟨3, 19, .bank0, 21, true, lastStep 32, List.replicate 31 0⟩, by decide +kernel⟩

/-- Profile 31 has a commit that flips at block 21. -/
def flipping (a : AdaptState) (o : CommitOrigin) (on : Bool) : State :=
  ending.modProfile 31 fun q => { q with
    state := .bound, stage := .waitingFlip, flipEvent := some 21, leader := some 0, followers := 0b1000, adapt := a
    search := { q.search with origin := o, continueAfter := on }, config := { q.config with continuous := on } }

/-- Profile 3 adapts at the frame that completes block 21, its search position being this. -/
def adapting (a : AdaptState) (q : SearchPosition) : State :=
  ending.modProfile 3 fun p => { p with state := .bound, leader := some 0, followers := 0b1000, adapt := a, search := q }

/-- Profile 3 has a probe with this oldest block, and this restart run. -/
def probing (s : State) (oldest : Block) (restarts : Nat) (c : PassCondition) : State :=
  { s.modProfile 3 (fun p => { p with
      state := .bound, leader := some 0, adapt := .searchShape, probeRef := true, restartRun := restarts
      search := { p.search with phase := .shape, window := some ⟨20, oldest⟩ } }) with
    engine := { s.engine with
      mac := if c = .running then .running .probe else .free
      probes := [{ probe with condition := c, window := ⟨20, oldest⟩ }] } }

/-- Profile 3 waits for an evaluation against the running generator, slot 15 plays it, and the unit is FREE. -/
def waitingEvaluation : State :=
  let s := (adapting .searchShape .cleared).modSlot 15 fun t => { t with owner := some 1, source := .profile 3 }
  { s with gen := { s.gen.start with claim := some 0 } }

theorem test_hyp_ProbeBeforeRoutePasses : waitingEvaluation.lane.state = .running ∧ waitingEvaluation.lane.frameOpen = true
    ∧ waitingEvaluation.lane.position = 31
    ∧ waitingEvaluation.lane.blockCounter + 2 - waitingEvaluation.lane.validFrom ≠ 0x80000000
    ∧ (waitingEvaluation.profile 3).state = .bound ∧ waitingEvaluation.ProbesCounted
    ∧ (∃ trial sel, (waitingEvaluation.profile 3).Needs trial sel) ∧ waitingEvaluation.gen.running = true
    ∧ atOrAfter ((waitingEvaluation.profile 3).windowTo 21).oldest waitingEvaluation.lane.validFrom 21 = true
    ∧ waitingEvaluation.engine.mac = .free ∧ waitingEvaluation.engine.routes = [] ∧ waitingEvaluation.engine.probes = []
    ∧ waitingEvaluation.engine.turn = .probe ∧ waitingEvaluation.profileInUse 3 = true :=
  ⟨rfl, rfl, rfl, by decide +kernel, by decide +kernel, probesCounted_of (by decide +kernel) rfl,
    ⟨_, _, .inl ⟨by decide +kernel, rfl, rfl⟩⟩, by decide +kernel⟩

theorem test_hyp_BankFlipAtBlockEvent :
    (∀ a ∈ [AdaptState.idle, .committing], ∀ o ∈ [CommitOrigin.search, .round], ∀ on : Bool,
      let s := flipping a o on
      s.lane.state = .running ∧ s.lane.frameOpen = true ∧ s.lane.position = 31 ∧ (s.profile 31).state = .bound
        ∧ (s.profile 31).stage = .waitingFlip ∧ (s.profile 31).flipEvent = some (s.lane.blockCounter + 1)
        ∧ (s.profile 31).adapt = a ∧ (s.profile 31).probeRef = false ∧ (s.profile 31).leader = some 0
        ∧ (s.profile 31).followers.getLsbD (3 : Port).val = true ∧ (s.profile 31).search.origin = o
        ∧ (s.profile 31).search.continueAfter = on ∧ (s.profile 31).config.continuous = on
        ∧ (s.profile 31).config.mode = 2)
    ∧ (∀ countdown ∈ [(1 : Fin 256), 2, 255],
      let s := adapting .tracking { SearchPosition.cleared with countdown := countdown }
      s.lane.state = .running ∧ s.lane.frameOpen = true ∧ s.lane.position = 31 ∧ (s.profile 3).state = .bound
        ∧ (s.profile 3).stage = .none ∧ s.ProbesCounted ∧ (s.profile 3).probeRef = false
        ∧ (s.profile 3).search.phase ≠ .round ∧ (s.profile 3).search.countdown = countdown)
    ∧ (∃ trial sel, ((adapting .searchShape .cleared).profile 3).Needs trial sel)
    ∧ (∃ trial sel, ((adapting .searchTrim .cleared).profile 3).Needs trial sel)
    ∧ (∃ trial sel, ((adapting .tracking { SearchPosition.cleared with phase := .round }).profile 3).Needs trial sel)
    ∧ ∀ x ∈ [((13 : Block), 6, PassCondition.waiting), (13, 7, .running), (14, 7, .suspended)],
      let s := probing ending x.1 x.2.1 x.2.2
      s.lane.state = .running ∧ s.lane.frameOpen = true ∧ s.lane.position = 31 ∧ (s.profile 3).state = .bound
        ∧ (s.profile 3).stage = .none ∧ s.ProbesCounted ∧ (s.profile 3).search.window = some ⟨20, x.1⟩
        ∧ (s.profile 3).restartRun = x.2.1 ∧ (s.lane.blockCounter + 1 = x.1 + 8 ↔ x.1 = 13) := by
  refine ⟨by decide +kernel, ?_, ⟨_, _, .inl ⟨by decide +kernel, rfl, rfl⟩⟩, ⟨_, _, .inr (.inl ⟨by decide +kernel, rfl, rfl⟩)⟩,
    ⟨_, _, .inr (.inr ⟨by decide +kernel, by decide +kernel, rfl, .inl ⟨by decide +kernel, rfl⟩⟩)⟩, ?_⟩ <;>
  · unfold State.ProbesCounted
    decide +kernel

theorem test_hyp_TickAndClockLoss :
    (∃ s : State, s.lane.state = .running ∧ s.lane.silentTicks.val = 4 ∧ 0 < s.lane.position.val)
    ∧ (∃ s : State, s.lane.silentTicks.val < 4)
    ∧ ∃ s : State, (s.port 0).keepPeriod ≠ 0 ∧ (s.port 0).countdown ≠ 0 :=
  ⟨⟨{ ending with lane := { ending.lane with silentTicks := 4 } }, by decide +kernel⟩,
    ⟨{ running with lane := { running.lane with silentTicks := 3 } }, by decide +kernel⟩,
    running.modPort 0 fun q => { q with keepPeriod := 10, countdown := 1 }, by decide +kernel⟩

/-- The word clock was lost while profile 3 had work. -/
def lost : State := { busyEngine with lane := { busyEngine.lane with state := .lost } }

theorem test_hyp_ClockReturnFlushesHistory : lost.lane.state = .lost ∧ (lost.profile 3).state = .bound
    ∧ lost.ProbesCounted ∧ (lost.profile 3).probeRef = false
    ∧ ∀ restarts ∈ [6, 7], ∀ c ∈ [PassCondition.waiting, .running], (probing lost 18 restarts c).lane.state = .lost
      ∧ ((probing lost 18 restarts c).profile 3).state = .bound ∧ (probing lost 18 restarts c).ProbesCounted
      ∧ ((probing lost 18 restarts c).profile 3).probeRef = true
      ∧ ((probing lost 18 restarts c).profile 3).restartRun = restarts := by
  unfold State.ProbesCounted
  decide +kernel

theorem test_hyp_InputRingAnswers :
    let l : Lane := { running.lane with validFrom := 14 }
    let fromV (b : Block) : Prop := (b - l.validFrom).toNat ≤ (l.blockCounter + 1 - l.validFrom).toNat
    let v : Block := 5
    ¬ fromV 13 ∧ fromV 14 ∧ (l.blockCounter - (14 : Block)).toNat < 8 ∧ fromV 20 ∧ fromV 21
      ∧ 8 ≤ (l.blockCounter - (21 : Block)).toNat ∧ ((12 : Block) - v).toNat ≤ ((21 : Block) - v).toNat
      ∧ 8 ≤ ((20 : Block) - (12 : Block)).toNat := by decide +kernel

/-- A DOT of N 2 over shared window 0 that port P1 has queued. -/
def dotJob : Job := .dot (.window (.shared 0) 0 1) (.window (.shared 0) 8 16) 2 false

/-- Port P1 has jobs queued, the job class has the turn, and the pointer names P3. -/
def jobReady : State :=
  { owned.modPort 1 (fun q => { q with jobs := [⟨.job dotJob, .waiting⟩] }) with
    engine := { owned.engine with turn := .job, pointer := 3 } }

/-- The job class has the turn and no job is runnable: none is queued, and the one SUSPENDED, if any, is held for an exception. -/
def noJobReady (held : Bool) : State :=
  { led.modPort 1 (fun q => { q with ctx := { q.ctx with errorPending := held } }) with
    engine := { led.engine with
      turn := .job, probes := if held then [probe] else []
      jobPass := if held then some { JobPass.start 1 dotJob with suspended := true } else none } }

/-- Jobs of no step, one of each kind that can be. -/
def emptyJobs : List Job :=
  let a : Span := .window (.shared 0) 0 1
  [.dot a a 0 false, .dot a a 0 true, .energy a 0 false, .energy a 0 true, .peak a 0, .sweep a a 0 2]

/-- Port P2 has this job queued and this many values on its stack; no probe is queued. -/
def emptyJobReady (job : Job) (n : Nat) : State :=
  owned.modPort 2 fun q => { q with
    jobs := [⟨.job job, .waiting⟩]
    ctx := { q.ctx with top := Fin.ofNat 8 (8 - n), tags := Vector.ofFn fun i => if 8 - n ≤ i.val then .valid else .empty } }

theorem test_hyp_ArbiterServesWork :
    (∃ (s : State) (pre post : List RouteEntry) (e : RouteEntry), s.engine.mac = .free
      ∧ s.engine.routes = pre ++ e :: post ∧ pre ≠ [] ∧ (∀ x ∈ pre, x.running = true) ∧ e.running = false)
    ∧ (∃ (s : State) (e : ProbeEntry), s.engine.mac = .free ∧ (∀ x ∈ s.engine.routes, x.running = true)
      ∧ s.engine.turn = .probe ∧ s.engine.probes = [e])
    ∧ (∃ (s : State) (j : JobPass), s.engine.mac = .free ∧ (∀ x ∈ s.engine.routes, x.running = true)
      ∧ s.engine.turn = .job ∧ s.engine.jobPass = some j ∧ (s.port j.port).ctx.errorPending = false)
    ∧ (jobReady.engine.mac = .free ∧ (∀ x ∈ jobReady.engine.routes, x.running = true) ∧ jobReady.engine.turn = .job
      ∧ jobReady.engine.jobPass = none
      ∧ (∀ j : Port, j < 2 → (jobReady.port (jobReady.engine.pointer + j)).runnableJob = none)
      ∧ (jobReady.port (jobReady.engine.pointer + 2)).ctx.errorPending = false
      ∧ (jobReady.port (jobReady.engine.pointer + 2)).jobs = [⟨.job dotJob, .waiting⟩] ∧ 0 < dotJob.steps)
    ∧ (∀ e : Bool, (noJobReady e).engine.mac = .free ∧ (noJobReady e).engine.routes = [] ∧ (noJobReady e).engine.turn = .job
      ∧ (noJobReady e).engine.probes = (if e then [probe] else [])
      ∧ (noJobReady e).engine.jobPass = (if e then some { JobPass.start 1 dotJob with suspended := true } else none)
      ∧ ((noJobReady e).port 1).ctx.errorPending = e ∧ ∀ p, ((noJobReady e).port p).jobs = [])
    ∧ (∀ n ∈ [0, 6, 7, 8], ∀ job ∈ emptyJobs, job.steps = 0
      ∧ ((emptyJobReady job n).port 2).jobs = [⟨.job job, .waiting⟩] ∧ ((emptyJobReady job n).port 2).ctx.depth = n
      ∧ ((emptyJobReady job n).port 2).ctx.errorPending = false ∧ (emptyJobReady job n).engine.probes = []
      ∧ (emptyJobReady job n).engine.turn = .probe ∧ (emptyJobReady job n).engine.jobPass = none
      ∧ (∀ j : Port, j < 2 → ((emptyJobReady job n).port j).runnableJob = none))
    ∧ ∃ s : State, s.engine.mac ≠ .free :=
  ⟨⟨{ busyEngine with engine := { busyEngine.engine with
      mac := .free, routes := busyEngine.engine.routes.reverse } },
      [⟨3, 18, .bank0, 20, true, .start (Vector.replicate 5 0), []⟩], [],
      ⟨3, 19, .bank0, 21, false, .start (Vector.replicate 5 0), []⟩, by decide +kernel⟩,
    ⟨{ led with engine := { led.engine with probes := [probe] } }, probe, by decide +kernel⟩,
    ⟨{ owned with engine := { owned.engine with turn := .job, jobPass := some { JobPass.start 1 dotJob with
        suspended := true } } }, { JobPass.start 1 dotJob with suspended := true }, by decide +kernel⟩,
    by decide +kernel,
    by decide +kernel, fun n hn job hj => by revert job; revert n; decide +kernel,
    busyEngine, by decide +kernel⟩

theorem test_hyp_StepBoundaries :
    (∃ s : State, s.engine.mac = .draining)
    ∧ (∃ (s : State) (pre post : List RouteEntry) (e : RouteEntry), s.engine.mac = .running .route
      ∧ s.engine.suspendAsked = false ∧ s.engine.routes = pre ++ e :: post ∧ (∀ x ∈ pre, x.running = false)
      ∧ e.running = true ∧ e.isLast s = false)
    ∧ (∀ asked : Bool, ∃ (s : State) (e : ProbeEntry), s.engine.mac = .running .probe ∧ s.engine.probes = [e]
      ∧ e.condition = .running ∧ e.isLast = false ∧ s.engine.suspendAsked = asked)
    ∧ ∀ asked : Bool, ∃ (s : State) (j : JobPass), s.engine.mac = .running .job ∧ s.engine.jobPass = some j
      ∧ j.isLast = false ∧ s.engine.suspendAsked = asked :=
  ⟨⟨{ running with engine := { running.engine with mac := .draining } }, rfl⟩,
    ⟨busyEngine, [⟨3, 19, .bank0, 21, false, .start (Vector.replicate 5 0), []⟩], [],
      ⟨3, 18, .bank0, 20, true, .start (Vector.replicate 5 0), []⟩, by decide +kernel⟩,
    fun asked => ⟨{ led with engine := { led.engine with
        mac := .running .probe, suspendAsked := asked, probes := [{ probe with condition := .running }] } },
      { probe with condition := .running }, by revert asked; decide +kernel⟩,
    fun asked => ⟨{ owned with engine := { owned.engine with
        mac := .running .job, suspendAsked := asked, jobPass := some (JobPass.start 1 dotJob) } },
      JobPass.start 1 dotJob, by revert asked; decide +kernel⟩⟩

/-- A pass of a job over spans at the end of shared window 0 and in a ring, at this lag and index. -/
def reading (lag index : Nat) : JobPass :=
  { JobPass.start 1 (.sweep (.window (.shared 0) 38 1) (.ring 15 20 31) 2 1) with lag := lag, index := index, best := 9 }

/-- The words of a span are there and are not, in a window and in a ring, and a SWEEP's steps end a lag and do not. -/
theorem test_hyp_JobStepsRead : owned.resolve (.shared 0) (38 + 1 * 1) = .address 139
    ∧ owned.resolve (.shared 0) (38 + 2 * 1) = .outside ∧ owned.resolve (.shared 1) 0 = .closed
    ∧ owned.lane.ringRead 15 20 31 = .sample 0 ∧ owned.lane.ringRead 15 20 32 = .gone
    ∧ owned.lane.ringRead 15 0 0 = .beforeV
    ∧ ((reading 0 0).beginStep owned).read = .words 0 0 ∧ ((reading 1 0).beginStep owned).read = .access
    ∧ ((reading 0 0).endStep = reading 0 0)
    ∧ (∀ v : Sample, { reading 0 0 with read := .words v v }.read = .words v v)
    ∧ (reading 0 1).index + 1 = 2 ∧ (reading 0 1).lag = 0 ∧ 0 < (reading 1 1).lag ∧ (9#48).toInt = 9 := by
  refine ⟨by decide +kernel, by decide +kernel, by decide +kernel, by decide +kernel, by decide +kernel, by decide +kernel,
    by decide +kernel, by decide +kernel, by decide +kernel, fun _ => rfl, rfl, rfl, by decide, by decide⟩

/-- A step ends an output sample and does not; and each target is there and is not. -/
theorem test_hyp_PassStepsRead : ((lastStep 1).endStep .default).2 = some 0
    ∧ ((FilterProgress.start (Vector.replicate 5 0)).endStep .default).2 = none
    ∧ owned.targetSample { probe with target := .window (some (.shared 0)) 39 } 0 = 0
    ∧ owned.resolve (.shared 0) (39 + 1) = .outside ∧ owned.gen.held (20 * 32 + 32 - 64 + 0 - 255) = none
    ∧ (led.profile 3).trimBlock ≠ some 18
    ∧ ((led.modProfile 3 fun q => { q with trimBlock := some 18 }).profile 3).trimBlock = some (19 - 1) := by decide +kernel

theorem test_hyp_DefaultSetPassesInput :
    (∃ pr : FilterProgress, pr.sub = 0 ∧ pr.x = 0x8000)
    ∧ (∃ (c : CoeffSet) (pr : FilterProgress), pr.history < c.tapCount.val - 1 ∧ pr.history = 62)
    ∧ ∀ n ∈ [(0 : Fin 65), 1, 64], ∀ sub ∈ [0, 1, 64, 65, 66, 70],
      ∃ (c : CoeffSet) (pr : FilterProgress), c.tapCount = n ∧ c.tapCount.val - 1 ≤ pr.history ∧ pr.sub = sub :=
  ⟨⟨{ FilterProgress.start (Vector.replicate 5 0) with x := 0x8000 }, rfl, rfl⟩,
    ⟨{ CoeffSet.default with tapCount := 64 }, { FilterProgress.start (Vector.replicate 5 0) with history := 62 },
      by decide, rfl⟩,
    fun n _ sub _ => ⟨{ CoeffSet.default with tapCount := n },
      { FilterProgress.start (Vector.replicate 5 0) with history := n.val - 1, sub := sub }, rfl, Nat.le_refl _, rfl⟩⟩

theorem test_hyp_RoutePassCompletes : (∀ e ∈ [EntryState.pending, .none], ∀ refs ∈ [1, 2],
    ∀ x ∈ [(ProfileState.bound, CommitStage.none, BankId.bank0), (.bound, .waitingSpare, .bank1),
      (.bound, .waitingSpare, .bank0), (.retiring, .none, .bank0)],
    let r : RouteEntry := ⟨3, 19, .bank0, 21, true, lastStep 32, List.replicate 31 0⟩
    let t : State := (playsBlock e).modProfile 3 fun q => { q with
      state := x.1, stage := x.2.1, live := x.2.2, refs0 := refs, deletingPort := some 0 }
    let s : State := { t with engine := { t.engine with routes := [r] } }
    s.engine.mac = .running .route ∧ s.engine.routes = [] ++ r :: [] ∧ r.running = true ∧ r.isLast s = true
      ∧ (s.profile r.profile).state = x.1 ∧ (s.profile r.profile).entryState r.block = e
      ∧ (s.profile r.profile).refs r.bank = refs ∧ (s.profile r.profile).refs .bank1 = 0
      ∧ (s.profile r.profile).probeRef = false ∧ (s.profile r.profile).deletingPort = some 0
      ∧ (s.profile r.profile).stage = x.2.1 ∧ (s.profile r.profile).spare = x.2.2.other) := by decide +kernel

/-- Profile 3 evaluates at this search position with this configuration, its probe in its last step and v at this block. -/
def evaluating (a : AdaptState) (q : SearchPosition) (c : AdaptConfig) (v : Block) : State :=
  { led.modProfile 3 (fun p => { p with
      adapt := a, probeRef := true, config := c, search := { q with window := some ⟨20, 18⟩ } }) with
    lane := { led.lane with validFrom := v }
    engine := { led.engine with
      mac := .running .probe, probes := [{ probe with condition := .running, progress := lastStep 64 }] } }

/-- An evaluation at this trial of this tap, with this best FoM. -/
def position (tap : Fin 5) (trial : Fin 32) (best : Option Int) : SearchPosition :=
  { SearchPosition.cleared with tap := tap, trial := trial, bestFom := best }

/-- The default configuration in this mode, with this acceptance. -/
def accepting (mode : Fin 4) (acceptance : Int) : AdaptConfig :=
  { AdaptConfig.default with mode := mode, acceptance := acceptance }

/-- Profile 3 evaluates, the whole window of its probe being at or after v. -/
def evaluated (x : AdaptState × SearchPosition × AdaptConfig) : State := evaluating x.1 x.2.1 x.2.2 1

theorem test_hyp_ProbePassCompletes :
    let e := { probe with condition := .running, progress := lastStep 64 }
    let fom (s : State) : Int := (s.profile 3).fomOf (e.endStep s)
    let stop : AdaptConfig := { accepting 3 0 with shapingMinimum := -510 }
    let round (best : Option Int) (current : Option Int) : SearchPosition :=
      { position 4 31 best with phase := .round, currentFom := current, rangeTop := 31 }
    (∀ a ∈ [AdaptState.searchShape, .searchTrim, .searchReshape, .tracking],
      let s := evaluating a (position 0 0 none) (accepting 2 0) 18
      s.engine.mac = .running .probe ∧ s.engine.probes = e :: [] ∧ e.condition = .running ∧ e.isLast = true
        ∧ (s.profile e.profile).state = .bound ∧ (s.profile e.profile).search.window = some ⟨20, 18⟩
        ∧ atOrAfter 18 s.lane.validFrom s.lane.blockCounter = true ∧ (s.profile e.profile).adapt = a)
    ∧ (let s := evaluating .searchShape (position 0 0 none) (accepting 2 0) 19
      s.engine.probes = e :: [] ∧ atOrAfter 18 s.lane.validFrom s.lane.blockCounter = false)
    ∧ (∃ trial sel, ((evaluating .searchShape (position 0 0 none) (accepting 2 0) 19).profile 3).Needs trial sel)
    ∧ (∀ trial ∈ [(14 : Fin 32), 15], -511 < fom (evaluated (.searchShape, position 0 trial (some (-511)), accepting 2 0))
      ∧ fom (evaluated (.searchShape, position 0 trial (some 510), accepting 2 0)) ≤ 510)
    ∧ stop.shapingMinimum ≤ fom (evaluated (.searchShape, position 0 3 none, stop)) ∧ stop.mode = 3
    ∧ (∀ acceptance ∈ [(-510 : Int), 510], ∀ mode ∈ [(1 : Fin 4), 2, 3],
      let b := fom (evaluated (.searchTrim, position 4 31 none, accepting mode acceptance))
      if acceptance = 510 then b < acceptance else acceptance ≤ b)
    ∧ (∀ tap ∈ [(3 : Fin 5), 4], ∀ run ∈ [(0 : Fin 3), 1],
      let q := { position tap 30 (some 510) with run := run }
      fom (evaluated (.searchTrim, q, accepting 2 0)) < 510 ∧ (run = 0 → q.run + 1 ≠ 2) ∧ (run = 1 → q.run + 1 = 2)
        ∧ q.trial ≠ (accepting 2 0).trimCeiling)
    ∧ (position 4 31 none).trial = (accepting 2 0).trimCeiling
    ∧ (∀ current ∈ [none, some (0 : Int)], ∀ best ∈ [none, some (-511), some (510 : Int)],
      let s := evaluated (.tracking, round best current, accepting 2 0)
      (s.profile 3).adapt = .tracking ∧ (s.profile 3).search.phase = .round ∧ (s.profile 3).search.currentFom = current
        ∧ (best = some (-511) → -511 < fom s) ∧ (best = some 510 → fom s < 510)
        ∧ (round best current).rangeTop.val ≤ (round best current).trial.val)
    ∧ ∃ q : SearchPosition, q.trial.val < q.rangeTop.val := by
  refine ⟨by decide +kernel, by decide +kernel, ⟨_, _, .inl ⟨.inl (by decide +kernel), rfl, rfl⟩⟩, by decide +kernel,
    by decide +kernel, rfl,
    by decide +kernel, by decide +kernel, rfl, by decide +kernel, { position 0 0 none with rangeTop := 1 }, by decide⟩

/-- A context with this many values, 5 the last and the others this one. -/
def stackOf (n : Nat) (v : Acc) : Context :=
  (List.replicate (n - 1) v ++ List.replicate (min n 1) 5).foldl (fun c v => c.pushRaw v .valid) Context.initial

/-- The job pass of port P1's job in its last step, which read this. -/
def endingPass (job : Job) (read : StepRead) (lag : Nat) : JobPass :=
  { JobPass.start 1 job with lag := lag, index := job.count - 1, peak := 3, read := read }

/-- That pass has the unit, and the context of port P1 is this. -/
def jobEnding (c : Context) (j : JobPass) : State :=
  { owned.modPort 1 (fun q => { q with jobs := [⟨.job j.job, .inPass⟩], ctx := c }) with
    engine := { owned.engine with mac := .running .job, jobPass := some j } }

/-- A pass of each job in its last step. -/
def endingJobs : List JobPass :=
  let a : Span := .window (.shared 0) 0 1
  [endingPass (.push 0xFFFFFFFF) .nothing 0, endingPass dotJob (.words 0x8000 0x8000) 0,
    endingPass (.energy a 2 false) (.words 2 2) 0, endingPass (.dot a a 1 true) (.words 2 2) 0,
    endingPass (.energy a 2048 true) (.words 2 2) 0, endingPass (.peak a 2) (.words 3 0) 0,
    endingPass (.peak a 2) (.words 0x8000 0) 0, endingPass (.sweep a a 2 0) (.words 1 1) 0,
    endingPass (.sweep a a 2 1) (.words 1 1) 1, { endingPass (.sweep a a 2 1) (.words 1 1) 1 with best := 9 },
    endingPass .drop .nothing 0, endingPass .scale .nothing 0,
    endingPass (.store (.shared 0) 39 1 .w16 0 false) .nothing 0,
    endingPass (.store (.shared 0) 38 1 .w32 47 true) .nothing 0,
    endingPass (.store (.shared 0) 39 1 .w32 0 true) .nothing 0]

theorem test_hyp_JobPassEnds : ∀ masks ∈ [0b11111#5, 0#5],
    let j := endingPass dotJob .access 0
    let s := jobEnding { stackOf 1 0 with masks := masks } j
    s.engine.mac = .running .job ∧ s.engine.jobPass = some j ∧ j.isLast = true
      ∧ (s.port j.port).jobs = [⟨.job dotJob, .inPass⟩] ∧ j.read = .access
      ∧ (s.port j.port).ctx.masks.getLsbD 4 = decide (masks = 0b11111) := by decide +kernel

theorem test_hyp_JobResultsReachStack :
    (∀ c : Context, ∀ j ∈ endingJobs, (jobEnding c j).engine.mac = .running .job
      ∧ (jobEnding c j).engine.jobPass = some j ∧ j.isLast = true ∧ ((jobEnding c j).port j.port).jobs = [⟨.job j.job, .inPass⟩]
      ∧ j.read ≠ .access ∧ ((jobEnding c j).port j.port).ctx = c)
    ∧ (∀ n ∈ [0, 1, 2, 6, 7, 8], let c := stackOf n 1
      c.depth = n ∧ tagsContiguous c.tags c.top = true ∧ (0 < n → c.tags.get c.top ≠ .empty))
    ∧ ((5#48).toInt + (4#48).toInt < 2 ^ 47 ∧ 2 ^ 47 ≤ (BitVec.ofInt 48 (2 ^ 47 - 1)).toInt + (4#48).toInt)
    ∧ (∀ k ∈ [-48, -47, 0, 1, 47, (48 : Int)], ∀ n ∈ [2, 8],
      ((stackOf n (BitVec.ofInt 48 k)).stack.get ((stackOf n (BitVec.ofInt 48 k)).top + 1)).toInt = k)
    ∧ (2 ^ 47 ≤ (5 * 2 ^ 47 : Int) ∧ (5 * 2 ^ 1 : Int) < 2 ^ 47)
    ∧ (∀ v ∈ [(32767 : Int), 32768, -32768, -32769], (v < -(2 ^ 15) ∨ 2 ^ 15 ≤ v) ↔ v = 32768 ∨ v = -32769)
    ∧ owned.resolve (.shared 0) 38 = .address 138 ∧ owned.resolve (.shared 0) 39 = .address 139
    ∧ (∀ a, owned.resolve (.shared 0) 40 ≠ .address a) ∧ Memory.wf owned.mem = true := by
  have hole : owned.resolve (.shared 0) 40 = .outside := by decide +kernel
  refine ⟨fun c j h => ⟨rfl, rfl, by revert j; decide +kernel, ?_, by revert j; decide +kernel, ?_⟩, by decide +kernel,
    by decide, by decide +kernel, by decide, by decide, by decide +kernel, by decide +kernel, by simp [hole],
    by decide +kernel⟩
  all_goals
    have hp : j.port = 1 := by revert j; decide +kernel
    rw [hp]
    rfl

/-- A stack of two values, the shift count second. -/
def shifting (count value : Acc) : Context := (Context.initial.pushRaw count .valid).pushRaw value .valid

theorem test_hyp_ScaleShiftsTop : ∀ k ∈ [-48, -47, 0, 1, 47, (48 : Int)], ∀ v ∈ [(0 : Int), 1],
    let c := shifting (BitVec.ofInt 48 k) (BitVec.ofInt 48 v)
    2 ≤ c.depth ∧ c.masks = 0b11111 ∧ (c.stack.get (c.top + 1)).toInt = k ∧ (c.stack.get c.top).toInt = v
      ∧ (k = 47 → v = 1 → 2 ^ 47 ≤ v * 2 ^ k.toNat) := by decide +kernel

/-! Commands: the frames are taken, and each clause has its state. -/

theorem test_hyp_OperandsAndRightsChecked :
    (∀ pl ∈ [[32], [3], [4], [16], [2], [0], [2, 0], [2, 1], [2, 2], [0, 3], [4, 0], [0x2000, 0x8000], [16, 1], [16, 1, 1],
        [32, 1, 1], [2, 1, 1], [0, 1, 1]], led.Takes (fr 1 pl) pl)
    ∧ (led.profile 4).state ≠ .bound ∧ (led.profile 3).state = .bound ∧ (led.profile 3).leader ≠ some 1
    ∧ windowName? 0 = none ∧ owned.Takes (fr 0 [15, 2]) [15, 2] ∧ (owned.slot 15).owner = some 0 :=
  ⟨takes_all (by decide +kernel), by decide +kernel, by decide +kernel, by decide +kernel, by decide,
    takes_fr (by decide +kernel), by decide +kernel⟩

/-- Every record is BOUND. -/
def full : State := { running with profiles := Vector.replicate 32 { Profile.cleared with state := .bound } }

theorem test_hyp_CreateBindsLowestFreeRecord :
    running.Takes (fr 0 [16]) [16] ∧ full.Takes (fr 0 [finWord (15 : Channel)]) [finWord (15 : Channel)]
    ∧ (∀ n, (full.profile n).state ≠ .free)
    ∧ ∃ s : State, s.Takes (fr 0 [finWord (15 : Channel)]) [finWord (15 : Channel)] ∧ (s.profile 31).state = .free
      ∧ ∀ m, m < 31 → (s.profile m).state ≠ .free :=
  ⟨takes_fr (by decide +kernel), takes_fr (by decide +kernel), by decide +kernel,
    full.modProfile 31 fun _ => .cleared, takes_fr (by decide +kernel), by decide +kernel⟩

/-- Profile 3 with this many references of its bank 0. -/
def readBy (refs : Nat) : State := led.modProfile 3 fun q => { q with refs0 := refs }

theorem test_hyp_DeleteRetiresProfile :
    (∃ s : State, s.Takes (fr 0 [finWord (3 : ProfileId)]) [finWord (3 : ProfileId)] ∧ (s.profile 3).state = .bound
      ∧ (s.profile 3).leader = some 0 ∧ s.profileInUse 3 = true)
    ∧ (∀ refs ∈ [0, 1], (readBy refs).Takes (fr 0 [finWord (3 : ProfileId)]) [finWord (3 : ProfileId)]
      ∧ ((readBy refs).profile 3).state = .bound ∧ ((readBy refs).profile 3).leader = some 0
      ∧ (readBy refs).profileInUse 3 = false ∧ (readBy refs).ProbesCounted
      ∧ ((readBy refs).profile 3).adapt = .idle ∧ ((readBy refs).profile 3).probeRef = false
      ∧ ((readBy refs).profile 3).refs0 + ((readBy refs).profile 3).refs1 = refs)
    ∧ (∀ c ∈ [PassCondition.waiting, .running, .suspended], ∀ refs ∈ [0, 1],
      let s := (probing led 18 3 c).modProfile 3 fun q => { q with refs0 := refs }
      s.Takes (fr 0 [finWord (3 : ProfileId)]) [finWord (3 : ProfileId)] ∧ (s.profile 3).state = .bound
        ∧ (s.profile 3).leader = some 0 ∧ s.profileInUse 3 = false ∧ s.ProbesCounted ∧ (s.profile 3).adapt = .searchShape
        ∧ (s.profile 3).refs0 + (s.profile 3).refs1 = refs
        ∧ ∃ x, s.engine.probes = [x] ∧ x.profile = 3 ∧ x.condition = c)
    ∧ ∃ s : State, (s.profile 3).state = .retiring ∧ (s.profile 3).refs0 = 0 ∧ (s.profile 3).refs1 = 0
      ∧ (s.profile 3).probeRef = false ∧ (s.profile 3).deletingPort = some 0 :=
  ⟨⟨busyEngine, takes_fr (by decide +kernel), by decide +kernel⟩,
    fun refs h => ⟨takes_fr (by revert refs; decide +kernel), by revert refs; decide +kernel, by revert refs; decide +kernel,
      by revert refs; decide +kernel, probesCounted_of (by revert refs; decide +kernel) rfl, by revert refs; decide +kernel⟩,
    fun c hc refs hr => ⟨takes_fr (by revert refs; revert c; decide +kernel), by revert refs; revert c; decide +kernel,
      by revert refs; revert c; decide +kernel, by revert refs; revert c; decide +kernel,
      by unfold State.ProbesCounted; revert refs; revert c; decide +kernel,
      by revert refs; revert c; decide +kernel, by revert refs; revert c; decide +kernel,
      { probe with condition := c, window := ⟨20, 18⟩ }, rfl, rfl, rfl⟩,
    running.modProfile 3 fun q => { q with state := .retiring, deletingPort := some 0 }, by decide +kernel⟩

/-- Profile 3 with this leader and these followers. -/
def membered (l : Option Port) (m : BitVec 4) : State :=
  running.modProfile 3 fun q => { q with state := .bound, leader := l, followers := m }

theorem test_hyp_LeaderAndFollowers :
    (∀ l ∈ [none, some (0 : Port), some 3], ∀ m ∈ [0b0100#4, 0b0001#4], (membered l m).Takes
      (fr 0 [finWord (3 : ProfileId)]) [finWord (3 : ProfileId)] ∧ ((membered l m).profile 3).state = .bound
      ∧ ((membered l m).profile 3).leader = l ∧ ((membered l m).profile 3).adapt = .idle
      ∧ ((membered l m).profile 3).stage = .none
      ∧ ((membered l m).profile 3).followers.getLsbD (0 : Port).val = decide (m = 0b0001)
      ∧ (membered l m).portUses 0 3 = false)
    ∧ (∀ x ∈ [(AdaptState.tracking, CommitStage.none), (.idle, .waitingSpare), (.idle, .waitingFlip)],
      let s := led.modProfile 3 fun q => { q with adapt := x.1, stage := x.2 }
      s.Takes (fr 0 [finWord (3 : ProfileId)]) [finWord (3 : ProfileId)] ∧ (s.profile 3).state = .bound
        ∧ (s.profile 3).leader = some 0 ∧ (s.profile 3).adapt = x.1 ∧ (s.profile 3).stage = x.2)
    ∧ ∃ s : State, s.Takes (fr 0 [finWord (3 : ProfileId)]) [finWord (3 : ProfileId)] ∧ (s.profile 3).state = .bound
      ∧ (s.profile 3).followers.getLsbD (0 : Port).val = true ∧ s.portUses 0 3 = true :=
  ⟨fun l hl m hm => ⟨takes_fr (by revert m; revert l; decide +kernel), by revert m; revert l; decide +kernel⟩,
    fun x h => ⟨takes_fr (by revert x; decide +kernel), by revert x; decide +kernel⟩,
    (membered (some 1) 0b0001).modSlot 0 fun t => { t with owner := some 0, pending := some (.profile 3) },
    takes_fr (by decide +kernel), by decide +kernel⟩

theorem test_hyp_ReadProfileGivesPart : ∀ pl ∈ [[3, 0, 64], [3, 1, 0], [3, 2, 63], [3, 3, 0], [3, 4, 63], [3, 4, 64], [3, 5, 0]],
    led.Takes (fr 1 pl) pl := takes_all (by decide +kernel)

/-- Profile 3, led by P0, in this adaptation state and commit stage. -/
def staged (a : AdaptState) (c : CommitStage) : State := led.modProfile 3 fun q => { q with adapt := a, stage := c }

theorem test_hyp_WriteCandidateSetsFields :
    (∀ a ∈ [AdaptState.idle, .tracking], ∀ c ∈ [CommitStage.none, .waitingSpare, .waitingFlip],
      (∀ pl ∈ [[3, 1, 15], [3, 1, (16 : Word)]], (staged a c).Takes (fr 0 pl) pl ∧ writeCandidateVerdict pl = .fits
        ∧ arg pl 0 = finWord (3 : ProfileId) ∧ ((staged a c).profile 3).state = .bound
        ∧ ((staged a c).profile 3).leader = some 0 ∧ ((staged a c).profile 3).adapt = a
        ∧ ((staged a c).profile 3).stage = c))
    ∧ (∀ p ∈ [(0 : Port), 1], ∀ pl ∈ [[32, 1, 15], [31, 1, 15], [3, 1, 15]], led.Takes (fr p pl) pl
      ∧ writeCandidateVerdict pl = .fits) ∧ (led.profile 31).state ≠ .bound ∧ (led.profile 3).leader ≠ some 1
    ∧ candidateOf [3, 1, 16] .default = none ∧ (candidateOf [3, 1, 15] .default).isSome = true
    ∧ (∃ start : Word, start.toNat + 56 ≤ 64) ∧ (∃ start : Word, 64 < start.toNat + 1)
    ∧ (∃ w ∈ [0, 31, 0, 0, (32 : Word)], 31 < w.toNat) ∧ ∃ w ∈ [0, 1, 0, 0, (2 : Word)], 1 < w.toNat :=
  ⟨fun a ha c hc pl hp => ⟨takes_fr (by revert pl; revert c; revert a; decide +kernel),
      by revert pl; revert c; revert a; decide +kernel⟩,
    fun p hp pl hl => ⟨takes_fr (by revert pl; revert p; decide +kernel), by revert pl; decide +kernel⟩,
    by decide +kernel, by decide +kernel, by decide +kernel, by decide +kernel, ⟨8, by decide⟩, ⟨64, by decide⟩,
    ⟨32, by decide, by decide⟩, 2, by decide, by decide⟩

theorem test_hyp_CommitCopiesToSpare :
    (∀ pl ∈ [[4], [(3 : Word)]], led.Takes (fr 0 pl) pl ∧ led.Takes (fr 1 pl) pl)
    ∧ (led.profile 4).state ≠ .bound ∧ (led.profile 3).leader ≠ some 1
    ∧ (∀ x ∈ [(AdaptState.tracking, CommitStage.none), (.idle, .waitingSpare), (.idle, .waitingFlip)],
      (staged x.1 x.2).Takes (fr 0 [finWord (3 : ProfileId)]) [finWord (3 : ProfileId)]
        ∧ ((staged x.1 x.2).profile 3).state = .bound ∧ ((staged x.1 x.2).profile 3).leader = some 0
        ∧ ((staged x.1 x.2).profile 3).adapt = x.1 ∧ ((staged x.1 x.2).profile 3).stage = x.2)
    ∧ (∀ live ∈ [BankId.bank0, .bank1], ∀ refs ∈ [0, 1],
      let s := led.modProfile 3 fun q => { q with live := live, refs0 := refs, refs1 := refs }
      s.Takes (fr 0 [finWord (3 : ProfileId)]) [finWord (3 : ProfileId)] ∧ (s.profile 3).state = .bound
        ∧ (s.profile 3).leader = some 0 ∧ (s.profile 3).adapt = .idle ∧ (s.profile 3).stage = .none
        ∧ (s.profile 3).live = live ∧ (s.profile 3).refs (s.profile 3).spare = refs)
    ∧ (∀ live ∈ [BankId.bank0, .bank1], let s := (staged .idle .waitingSpare).modProfile 3 fun q => { q with live := live }
      (s.profile 3).stage = .waitingSpare ∧ (s.profile 3).refs (s.profile 3).spare = 0 ∧ (s.profile 3).live = live)
    ∧ ∃ s : State, (s.profile 3).stage ≠ .waitingSpare :=
  ⟨fun pl h => ⟨takes_all (by decide +kernel) pl h, takes_all (by decide +kernel) pl h⟩, by decide +kernel,
    by decide +kernel, fun x h => ⟨takes_fr (by revert x; decide +kernel), by revert x; decide +kernel⟩,
    fun live hl refs hr => ⟨takes_fr (by revert refs; revert live; decide +kernel),
      by revert refs; revert live; decide +kernel⟩, by decide +kernel, led, by decide +kernel⟩

theorem test_hyp_SetFieldsOnLedProfiles :
    (∀ pl ∈ [[0xFFFF, 0xFFFF, 0x2000, 0, (1 : Word)], [8, 0, 1, 0, 3], [8, 0, 1, 0, 4]],
      (staged .tracking .none).Takes (fr 0 pl) pl ∧ setFieldsVerdict pl = .fits
        ∧ (configOf pl .default = none ↔ pl = [8, 0, 1, 0, 4]))
    ∧ ((staged .tracking .none).profile 3).adapt = .tracking
    ∧ (configOf [8, 0, 1, 0, 3] .default).isSome = true ∧ ((0 : Word) ++ (1 : Word) : BitVec 32).getLsbD 16 = false
    ∧ (windowName? (refWord 2 15)).isSome = true ∧ windowName? (refWord 2 16) = none
    ∧ (∃ w ∈ [0, 1, 0, 0, (2 : Word)], 1 < w.toNat)
    ∧ (∀ i ∈ fieldsOf [0xFFFF, 0xFFFF, 0x2000, 0, 1], 12 ≤ i) ∧ (led.profile 3).adapt = .idle :=
  ⟨fun pl h => ⟨takes_fr (by revert pl; decide +kernel), by revert pl; decide +kernel⟩, by decide +kernel,
    by decide +kernel, by decide, by decide +kernel, by decide +kernel, ⟨2, by decide, by decide⟩, by decide +kernel,
    by decide +kernel⟩

theorem test_hyp_ClearFlagsReportsAndClears :
    (∀ p ∈ [(0 : Port), 3], led.Takes (fr p [finWord (3 : ProfileId)]) [finWord (3 : ProfileId)])
    ∧ led.Takes (fr 0 [finWord (31 : ProfileId)]) [finWord (31 : ProfileId)] ∧ (led.profile 31).state ≠ .bound
    ∧ (led.profile 3).state = .bound ∧ (led.profile 3).leader = some 0 :=
  ⟨fun p h => takes_fr (by revert p; decide +kernel), takes_fr (by decide +kernel), by decide +kernel, by decide +kernel,
    by decide +kernel⟩

/-- Profile 3 may be asked to adapt: this mode, commit stage and lane state, the generator running or not, v at this block. -/
def adaptable (mode : Fin 4) (c : CommitStage) (l : LaneState) (g : Bool) (v : Block) : State :=
  { led.modProfile 3 (fun q => { q with stage := c, config := { q.config with mode := mode } }) with
    lane := { led.lane with state := l, validFrom := v }, gen := { led.gen with running := g } }

theorem test_hyp_AdaptStartsShapingSearch :
    ∀ s ∈ [adaptable 0 .none .running true 1, adaptable 1 .waitingFlip .running true 1, adaptable 1 .none .lost true 1,
        adaptable 1 .none .running false 1, adaptable 1 .none .running true 18, adaptable 2 .none .running true 18,
        adaptable 3 .none .running true 19],
      s.Takes (fr 0 [finWord (3 : ProfileId)]) [finWord (3 : ProfileId)] ∧ (s.profile 3).state = .bound
        ∧ (s.profile 3).leader = some 0 ∧ (s.profile 3).probeRef = false
        ∧ (s.profile 3).config.target = .generator 0
        ∧ (64 + max (s.profile 3).liveSet.tapCount.val 1 + 31) / 32 = 3 :=
  fun s h => ⟨takes_fr (by revert s; decide +kernel), by revert s; decide +kernel⟩

/-- The target of profile 3 is 32 words of this window, whose 40 words they end with or run past. -/
def targeting (nm : WindowName) (past : Bool) : State :=
  let s := owned.modProfile 3 fun q => { q with
    config := { q.config with target := .window nm (if past then 9 else 8), probeLength := .w32 } }
  s.modPort 0 fun q => { q with windows := vset q.windows 7 (some ⟨500, 40⟩) }

theorem test_hyp_TargetReady : (∀ nm ∈ [WindowName.shared 0, .priv 7], ∀ past : Bool,
      (targeting nm past).Takes (fr 0 [finWord (3 : ProfileId)]) [finWord (3 : ProfileId)]
        ∧ ((targeting nm past).profile 3).config.target = .window nm (if past then 9 else 8)
        ∧ ((targeting nm past).profile 3).config.probeLength.samples = 32
        ∧ ((targeting nm past).windowOf (nm.of 0)).map (·.length) = some 40)
    ∧ (targeting (.priv 6) false).windowOf (.priv 0 6) = none :=
  ⟨fun nm hn past => ⟨takes_fr (by revert past; revert nm; decide +kernel), by revert past; revert nm; decide +kernel⟩,
    by decide +kernel⟩

theorem test_hyp_AbortAndFreezeEndAdaptation :
    ∀ a ∈ [AdaptState.idle, .searchShape, .searchTrim, .searchReshape, .committing, .tracking],
      (staged a .none).Takes (fr 0 [finWord (3 : ProfileId)]) [finWord (3 : ProfileId)]
        ∧ ((staged a .none).profile 3).state = .bound ∧ ((staged a .none).profile 3).leader = some 0
        ∧ (staged a .none).ProbesCounted ∧ ((staged a .none).profile 3).adapt = a :=
  fun a h => ⟨takes_fr (by revert a; decide +kernel), by revert a; decide +kernel, by revert a; decide +kernel,
    probesCounted_of (by revert a; decide +kernel) rfl, by revert a; decide +kernel⟩

/-- Slot 15 with this owner. -/
def slotOf (p : Option Port) : State := led.modSlot 15 fun t => { t with owner := p }

theorem test_hyp_SlotCommandsByOwner :
    (∀ p ∈ [none, some (0 : Port), some 1],
      (slotOf p).Takes (fr 0 [finWord (15 : SlotId)]) [finWord (15 : SlotId)]
        ∧ (∀ b : Bool, (slotOf p).Takes (fr 0 [finWord (15 : SlotId), boolWord b]) [finWord (15 : SlotId), boolWord b])
        ∧ (∀ src ∈ [Source.silent, .dry 15, .generator, .profile 3, .profile 31],
          (slotOf p).Takes (fr 0 (finWord (15 : SlotId) :: sourceWords src)) (finWord (15 : SlotId) :: sourceWords src))
        ∧ ((slotOf p).slot 15).owner = p)
    ∧ ((slotOf (some 0)).profile 31).state ≠ .bound ∧ ((slotOf (some 0)).profile 3).leader = some 0
    ∧ (slotOf (some 0)).gen.claim ≠ some 0 ∧ generating.gen.claim = some 0
    ∧ (∀ p ∈ [some (0 : Port), some 1], ∀ pl ∈ [[finWord (15 : SlotId), 4, 0], [finWord (15 : SlotId), 1, 16],
        [finWord (15 : SlotId), 2, 32]], (slotOf p).Takes (fr 0 pl) pl ∧ ((slotOf p).slot 15).owner = p)
    ∧ ∃ s : State, (s.slot 15).owner = some 0 ∧ (s.profile 3).state = .bound ∧ (s.profile 3).leader ≠ some 0
      ∧ (s.profile 3).followers.getLsbD (0 : Port).val = false :=
  ⟨fun p h => ⟨takes_fr (by revert p; decide +kernel), fun b => takes_fr (by revert b; revert p; decide +kernel),
      fun src hs => takes_fr (by revert src; revert p; decide +kernel), by revert p; decide +kernel⟩, by decide +kernel,
    by decide +kernel, by decide +kernel, by decide +kernel,
    fun p h pl hp => ⟨takes_fr (by revert pl; revert p; decide +kernel), by revert pl; revert p; decide +kernel⟩,
    (membered none 0).modSlot 15 fun t => { t with owner := some 0 }, by decide +kernel⟩

/-- Every window of P0 and every shared window is open. -/
def allOpen : State :=
  { running.modPort 0 (fun q => { q with windows := Vector.replicate 8 (some ⟨0, 1⟩) }) with
    shared := Vector.replicate 16 (some ⟨⟨0, 1⟩, some 1⟩) }

theorem test_hyp_WindowsOpenAndClose :
    (∀ pl ∈ [[0, 0, 0], [1, 0x7FFF, 1], [0, 0, 0x8000], [1, 1, 0x8000], [0, 0x8000, (1 : Word)], [0, 0, 1], [1, 0, 1]],
      allOpen.Takes (fr 0 pl) pl ∧ owned.Takes (fr 0 pl) pl)
    ∧ (∀ k, (allOpen.port 0).windows.get k ≠ none) ∧ (∀ k, allOpen.shared.get k ≠ none)
    ∧ (owned.port 0).windows.get 0 = none ∧ owned.shared.get 1 = none ∧ (∀ j : Fin 16, j < 1 → owned.shared.get j ≠ none)
    ∧ (∀ pl ∈ [[refWord 1 7], [refWord 2 15], [refWord 2 0]],
      owned.Takes (fr 0 pl) pl ∧ allOpen.Takes (fr 0 pl) pl ∧ jobReady.Takes (fr 0 pl) pl)
    ∧ (WindowName.priv 7).word = refWord 1 7 ∧ (WindowName.shared 15).word = refWord 2 15
    ∧ owned.windowOf (WindowName.of (.priv 7) 0) = none ∧ owned.referenced (.shared 0) = false
    ∧ jobReady.referenced (.shared 0) = true ∧ allOpen.referenced (.priv 0 7) = false
    ∧ (owned.shared.get 0).bind (·.creator) = some 0 ∧ (allOpen.shared.get 15).bind (·.creator) = some 1 :=
  ⟨fun pl h => ⟨takes_all (by decide +kernel) pl h, takes_all (by decide +kernel) pl h⟩,
    by decide +kernel, by decide +kernel, by decide +kernel, by decide +kernel, by decide +kernel,
    fun pl h => ⟨takes_all (by decide +kernel) pl h, takes_all (by decide +kernel) pl h,
      takes_all (by decide +kernel) pl h⟩, rfl, rfl, by decide +kernel, by decide +kernel, by decide +kernel,
    by decide +kernel, by decide +kernel, by decide +kernel⟩

/-- Shared window 0 of port P0 with each reference of R115: by the source and by the target of a move, a job, a context
operation and the target of an adaptation; the last is the move of a stopped segment, which references nothing. -/
def referencing : List State :=
  let m : MoveRecord := ⟨.queued, .window (.shared 0) 0, .priv 7, 8, 2, .ascending, 0, 2, false⟩
  let moves (m : MoveRecord) : State := owned.modPort 1 fun q => { q with moves := vset q.moves 3 (some m) }
  [moves m, moves { m with source := .window (.priv 7) 0, target := .shared 0, state := .active },
    owned.modPort 1 fun q => { q with jobs := [⟨.job dotJob, .inPass⟩] },
    owned.modPort 1 fun q => { q with jobs := [⟨.job .drop, .waiting⟩, ⟨.context .saveEnv ⟨.shared 0, 8⟩, .waiting⟩] },
    owned.modProfile 3 fun q => { q with adapt := .tracking, config := { q.config with target := .window (.shared 0) 4 } },
    { moves { m with state := .active } with mover := ⟨some ⟨1, 3, 2, some ⟨32766, 32758⟩⟩, 0⟩ }]

theorem test_windowReferences : referencing.map (fun s => s.referenced (.shared 0)) = [true, true, true, true, true, false]
    ∧ (led.modProfile 3 fun q => { q with
        adapt := .tracking, config := { q.config with target := .window (.priv 7) 4 } }).referenced (.priv 0 7) = true := by
  decide +kernel

theorem test_hyp_ReferencedWindowStaysOpen : ∀ s ∈ referencing,
    s.Takes (fr 0 [refWord 2 0]) [refWord 2 0] ∧ (s.shared.get 0).bind (·.creator) = some 0 :=
  fun s h => ⟨takes_fr (by revert s; decide +kernel), by revert s; decide +kernel⟩

theorem test_hyp_WordsWriteAndRead :
    (∀ pl ∈ [[refWord 2 0, 40, natWord 0], [refWord 2 0, 39, natWord 1, 0], [refWord 2 0, 40, natWord 1, 0],
        [refWord 2 0, 0, natWord 40] ++ List.replicate 40 1, [refWord 2 0, 0, natWord 56] ++ List.replicate 56 1,
        [refWord 2 1, 0, natWord 0], [refWord 2 0, 0, 40], [refWord 2 0, 0, 41], [refWord 2 0, 41, 0], [refWord 2 0, 0, 60],
        [refWord 2 0, 0, 61], [refWord 2 1, 0, 60]], owned.Takes (fr 1 pl) pl)
    ∧ (WindowName.shared 0).word = refWord 2 0 ∧ owned.windowOf (.shared 0) = some ⟨100, 40⟩
    ∧ owned.windowOf (.shared 1) = none ∧ Window.Inside ⟨100, 40⟩ ∧ owned.MemoryCanonical :=
  ⟨takes_all (by decide +kernel), rfl, by decide +kernel, by decide +kernel, ⟨by decide, by decide⟩, rfl⟩

theorem test_hyp_OnlyWritersChangeMemory :
    let within : List Moment := [.inner .routePassComplete, .engine, .inner (.frame 0x33 (fr 0 [])), .slot 15]
    (∃ t, exec .frameSync State.reset = .next t) ∧ (∃ t, exec (.frameTaken ⟨zeroFrame, within⟩) ending = .next t)
    ∧ ∀ e, .inner e ∈ within → e ≠ .moveWordCopy ∧ e ≠ .jobPassEnd ∧ (∀ p, e ≠ .contextWordTransfer p)
      ∧ ∀ code f, e = .frame code f → code ≠ 0x32 ∧ code ≠ 0x51 := by
  refine ⟨⟨_, rfl⟩, ⟨_, rfl⟩, fun e h => ?_⟩
  simp only [List.mem_cons, Moment.inner.injEq, List.not_mem_nil, or_false, reduceCtorEq, false_or] at h
  rcases h with rfl | rfl <;> simp

/-- A move of this source to offset 8 of shared window 0. -/
def moveFrame (src : MoveSource) (count : Word) : List Word := moveSourceWords src ++ [refWord 2 0, 8, count]

/-- A move of no words, which ended when it was taken. -/
def anEndedMove : MoveRecord := ⟨.done, .ring 0 19 0, .shared 0, 8, 0, .ascending, 0, 0, false⟩

theorem test_hyp_MoveRecordsFillAndCollect :
    (∀ pl ∈ [[refWord 1 8, 0, 0, 0, refWord 2 0, 0, 1], [refWord 3 16, 0, 0, 0, refWord 2 0, 0, 1],
        [0, 0, 0, 0, refWord 2 0, 0, 1], [refWord 4 255, 0, 0, 0, refWord 2 16, 0, 1],
        [refWord 4 255, 0, 0, 0, refWord 2 0, 0, 2049], [refWord 4 0, 0, 0, 0, refWord 2 1, 0, 2048],
        [refWord 1 7, 0, 0, 0, refWord 2 0, 0, 1], [refWord 2 0, 40, 0, 0, refWord 2 0, 0, 1],
        [refWord 2 0, 0, 0, 0, refWord 2 0, 9, 32]], owned.Takes (fr 1 pl) pl ∧ pl.length = 7)
    ∧ owned.windowOf (.shared 1) = none ∧ owned.windowOf (.priv 1 7) = none
    ∧ windowName? (refWord 1 7) = some (.priv 7) ∧ windowName? (refWord 2 16) = none
    ∧ (∀ pl ∈ [moveFrame (.window (.shared 0) 0) 32, moveFrame (.window (.shared 0) 8) 32, moveFrame (.ring 15 19 255) 32,
        moveFrame (.generator 640 65535) 0], owned.Takes (fr 1 pl) pl)
    ∧ owned.windowOf (.shared 0) = some ⟨100, 40⟩ ∧ (8 : Word).toNat + (32 : Word).toNat ≤ 40 ∧ (32 : Word).toNat ≤ 2048
    ∧ (MoveSource.generator 640 65535).start < 65536
    ∧ (100 + 0 < 100 + 8 ∧ 100 + 8 < 100 + 0 + 32) ∧ (owned.port 1).moves.get 0 = none
    ∧ (∃ s : State, s.Takes (fr 1 (moveFrame (.ring 0 19 0) 32)) (moveFrame (.ring 0 19 0) 32)
      ∧ s.windowOf (.shared 0) = some ⟨100, 40⟩ ∧ ∀ k, (s.port 1).moves.get k ≠ none)
    ∧ ∀ st ∈ [MoveState.queued, .active, .done, .failed],
      let m : MoveRecord := ⟨st, .ring 0 19 0, .shared 0, 8, 32, .ascending, 0, 32, false⟩
      let s := owned.modPort 1 fun q => { q with moves := vset q.moves 3 (some m) }
      (∀ pl ∈ [[3, 0], [3, 1], [0, 1]], s.Takes (fr 1 pl) pl) ∧ (s.port 1).moves.get 3 = some m
        ∧ (s.port 1).moves.get 0 = none :=
  ⟨fun pl h => ⟨takes_fr (by revert pl; decide +kernel), by revert pl; decide +kernel⟩, by decide +kernel,
    by decide +kernel, by decide +kernel, by decide +kernel,
    takes_all (by decide +kernel), by decide +kernel, by decide, by decide, by decide, by decide, by decide +kernel,
    ⟨owned.modPort 1 fun q => { q with moves := Vector.replicate 4 (some anEndedMove) },
      takes_fr (by decide +kernel), by decide +kernel⟩,
    fun st h => ⟨takes_all (by revert st; decide +kernel), by revert st; decide +kernel, by revert st; decide +kernel⟩⟩

/-- Port P1's record 3 moves 2 words of this source to shared window 0, `left` of the segment to go. -/
def moving (src : MoveSource) (d : Direction) (moved left : Nat) (stopped : Option StopBases) : State :=
  let m : MoveRecord := ⟨.active, src, .shared 0, 8, 2, d, moved, 2 - moved, false⟩
  { owned.modPort 1 (fun q => { q with moves := vset q.moves 3 (some m), moveOrder := [3] }) with
    mover := ⟨some ⟨1, 3, left, stopped⟩, 0⟩, lane := { owned.lane with validFrom := 18 } }

theorem test_hyp_MoveUnitCopiesSegments :
    (∃ (s : State) (m : MoveRecord), s.mover.segment = none
      ∧ (∀ j : Port, j < 2 → (s.port (s.mover.pointer + j)).moveOrder = [])
      ∧ (s.port (s.mover.pointer + 2)).moveOrder = [3] ∧ (s.port (s.mover.pointer + 2)).moves.get 3 = some m)
    ∧ (∀ src ∈ [MoveSource.window (.shared 0) 0, .ring 15 20 30, .generator 640 0], ∀ d ∈ [Direction.ascending, .descending],
      ∀ moved ∈ [0, 1], ∀ left ∈ [1, 2],
      let s := moving src d moved left none
      let g : Segment := ⟨1, 3, left, none⟩
      let m : MoveRecord := ⟨.active, src, .shared 0, 8, 2, d, moved, 2 - moved, false⟩
      let next (o : Nat) : Nat := if m.direction = .ascending then o + m.moved else o + (m.remaining - 1)
      s.mover.segment = some g ∧ g.stopped = none ∧ (s.port g.port).moves.get g.record = some m ∧ 0 < m.remaining
        ∧ Memory.wf s.mem = true ∧ s.resolve (m.target.of g.port) (next m.offset) = .address (100 + next 8)
        ∧ (src = .window (.shared 0) 0 → s.resolve (.shared 0) (next 0) = .address (100 + next 0))
        ∧ (src = .ring 15 20 30 → s.lane.ringRead 15 20 (next 30) = .sample 0)
        ∧ (src = .generator 640 0 → s.gen.held (640 + BitVec.ofNat 32 (next 0)) = none))
    ∧ (∀ src ∈ [MoveSource.window (.priv 0) 0, .ring 15 20 30, .generator 640 0], ∀ moved ∈ [0, 1], ∀ left ∈ [1, 2],
      let base : StopBases := ⟨32766, 32758⟩
      let s := moving src .ascending moved left (some base)
      let g : Segment := ⟨1, 3, left, some base⟩
      let m : MoveRecord := ⟨.active, src, .shared 0, 8, 2, .ascending, moved, 2 - moved, false⟩
      s.mover.segment = some g ∧ (s.port g.port).moves.get g.record = some m ∧ 0 < m.remaining
        ∧ Memory.wf s.mem = true ∧ base.target + (8 + moved) < 32768 ∧ base.source + (0 + moved) < 32768
        ∧ (src = .ring 15 20 30 → s.lane.ringRead 15 20 (30 + moved) = .sample 0)
        ∧ (src = .generator 640 0 → s.gen.held (640 + BitVec.ofNat 32 (0 + moved)) = none))
    ∧ running.lane.ringRead 0 0 0 = .beforeV
    ∧ ∃ g : Generator, g.held 640 = some 0 :=
  ⟨⟨{ moving (.ring 0 20 0) .ascending 0 2 none with mover := ⟨none, 3⟩ },
      ⟨.active, .ring 0 20 0, .shared 0, 8, 2, .ascending, 0, 2, false⟩, by decide +kernel⟩, by decide +kernel,
    by decide +kernel, by decide +kernel, { Generator.initial with history := vset Generator.initial.history 128 ⟨some 640, 0⟩ },
    by decide +kernel⟩

/-- The five words of a span over shared window 0. -/
def spanWords : List Word := [refWord 2 0, 0, 16, 0, 0]

theorem test_hyp_JobCommandsQueue :
    (∀ pl ∈ [spanWords ++ spanWords ++ [2048, 1], spanWords ++ spanWords ++ [2049, 255], spanWords ++ [2048, 1],
        spanWords ++ [0], spanWords ++ [16, 47, 1], spanWords ++ [32, 0, 0], spanWords ++ [17, 0, 0],
        spanWords ++ [16, 48, 0], spanWords ++ [16, 0, 2], spanWords ++ spanWords ++ [0, 256],
        [refWord 3 15, 0, 0, 20, 0, 16, 0, 0], [refWord 4 0, 0, 1, 0, 0, 1], [1, 0x8000], []],
      owned.Takes (fr 1 pl) pl)
    ∧ spanAt? spanWords 0 = some (.window (.shared 0) 0 16)
    ∧ spanAt? (spanWords ++ spanWords) 5 = some (.window (.shared 0) 0 16)
    ∧ spanAt? [refWord 3 15, 0, 0, 20, 0] 0 = some (.ring 15 20 0) ∧ spanAt? [refWord 4 0, 0, 1, 0, 0] 0 = none
    ∧ (natWord (4 * 8192) >>> 13).toNat ∉ [1, 2, 3] ∧ (owned.windowOf (.shared 0)).isSome = true
    ∧ (owned.windowOf (.shared 1)).isSome = false :=
  ⟨fun pl h => takes_fr (by revert pl; decide +kernel), by decide +kernel, by decide +kernel, by decide +kernel,
    by decide +kernel, by decide, by decide +kernel, by decide +kernel⟩

theorem test_hyp_ContextCommandsQueue :
    (∀ pl ∈ [[refWord 2 0, 8], [refWord 2 0, 9], [refWord 2 0, 32], [refWord 2 0, 32767], [refWord 2 1, 0]],
      owned.Takes (fr 0 pl) pl)
    ∧ (WindowName.shared 0).word = refWord 2 0 ∧ (32767 : Word).toNat ≤ 32767
    ∧ owned.windowOf (.shared 1) = none ∧ owned.windowOf (.shared 0) = some ⟨100, 40⟩
    ∧ 8 + ContextOp.save.words ≤ 40 ∧ 40 < 9 + ContextOp.save.words ∧ 32 + ContextOp.saveEnv.words ≤ 40
    ∧ ∃ s : State, s.Takes (fr 0 [refWord 2 0, 8]) [refWord 2 0, 8] ∧ (s.port 0).ctx.errorPending = true
      ∧ (s.port 0).jobs = [] :=
  ⟨takes_all (by decide +kernel), rfl, by decide, by decide +kernel, by decide +kernel, by decide, by decide, by decide,
    owned.modPort 0 fun q => { q with ctx := { q.ctx with errorPending := true } }, takes_fr (by decide +kernel),
    by decide +kernel⟩

/-- Port P0's context logic has done this many words of an operation, these being its image. -/
def transferring (op : ContextOp) (done : Nat) (image : List Word) : State :=
  owned.modPort 0 fun q => { q with
    jobs := [⟨.context op ⟨.shared 0, 8⟩, .inContext⟩], ctxRun := some ⟨op, ⟨.shared 0, 8⟩, image, done⟩ }

theorem test_hyp_ContextLogicTransfers :
    (∀ op ∈ [ContextOp.save, .saveEnv, .restore, .restoreEnv],
      let s := owned.modPort 0 fun q => { q with jobs := [⟨.context op ⟨.shared 0, 8⟩, .waiting⟩] }
      (s.port 0).ctx.errorPending = false ∧ (s.port 0).ctxRun = none
        ∧ (s.port 0).jobs = [⟨.context op ⟨.shared 0, 8⟩, .waiting⟩])
    ∧ (∀ op ∈ [ContextOp.save, .saveEnv, .restore, .restoreEnv], ∀ done ∈ [0, op.words - 2, op.words - 1],
      let s := transferring op done []
      (s.port 0).ctxRun = some ⟨op, ⟨.shared 0, 8⟩, [], done⟩ ∧ Memory.wf s.mem = true
        ∧ (s.port 0).jobs = [⟨.context op ⟨.shared 0, 8⟩, .inContext⟩]
        ∧ s.resolve (.shared 0) (8 + done) = .address (108 + done))
    ∧ (Context.initial.loadFull (List.replicate 32 0)).isSome = true
    ∧ Context.initial.loadFull (0x60 :: List.replicate 31 0) = none
    ∧ (Context.initial.loadEnvironment (List.replicate 8 0)).isSome = true
    ∧ Context.initial.loadEnvironment (0x60 :: List.replicate 7 0) = none := by decide +kernel

/-- Images that are invalid for their rounding code, a tag code, a gap in the run of tags, a run that does not start at TOP, and
valid ones with TOP at 1, with the unused bits set, and cut short. -/
theorem test_imagesChecked : [[0x60], [0, 0, 3], [0, 0, 0b010001], [0, 0x400, 1], [0, 0x400, 0b0100], [0xFF9F, 0xFFFF, 0x4000],
      [], [0x40, 0, 0xAAAA]].map
    (fun ws => ((Context.initial.loadEnvironment ws).isSome, (Context.initial.loadFull ws).isSome))
      = [(false, false), (false, false), (false, false), (false, false), (true, true), (true, true), (true, true),
        (true, true)] := by
  decide +kernel

theorem test_hyp_SavedImageRestoresContext : ∃ c : Context, tagsContiguous c.tags c.top = true
    ∧ c.lastWindow &&& 0x1F00 = 0 ∧ c.depth = 8 :=
  ⟨{ Context.initial with tags := Vector.replicate 8 .wrapped, lastWindow := 0xE0FF }, by decide +kernel⟩

theorem test_hyp_SaveNowWritesImage :
    (∀ s ∈ [transferring .save 3 [], owned, owned.modPort 0 fun q => { q with jobs := [⟨.job dotJob, .waiting⟩] }],
      s.Takes (fr 0 [refWord 2 0, 8]) [refWord 2 0, 8] ∧ s.windowOf (.shared 0) = some ⟨100, 40⟩ ∧ Memory.wf s.mem = true)
    ∧ Window.Inside ⟨100, 40⟩ ∧ (8 : Word).toNat + 32 ≤ 40 ∧ (8 : Word).toNat ≤ 32767
    ∧ (∀ pl ∈ [[refWord 2 1, 8], [refWord 2 0, 9], [refWord 2 0, 32767]], owned.Takes (fr 0 pl) pl)
    ∧ owned.windowOf (.shared 1) = none ∧ 40 < (9 : Word).toNat + 32 :=
  ⟨fun s h => ⟨takes_fr (by revert s; decide +kernel), by revert s; decide +kernel⟩, ⟨by decide, by decide⟩, by decide,
    by decide, takes_all (by decide +kernel), by decide +kernel, by decide⟩

theorem test_hyp_ClearExceptionsEndsHold : running.Takes (fr 3 []) [] := takes_fr (by decide +kernel)

theorem test_hyp_ControlSetAndRead :
    (∀ pl ∈ [[0, 0x7F], [0x20, 0x7F], [0x40, 0x7F], [0x60, 0x7F], [0xFFFF, 0]], running.Takes (fr 0 pl) pl)
    ∧ (∃ s : State, s.Takes (fr 0 []) [] ∧ (s.port 0).jobs = [])
    ∧ ∀ c ∈ [EntryCondition.waiting, .inPass, .inContext], ∃ s : State, s.Takes (fr 0 []) []
      ∧ (s.port 0).jobs = [⟨.job .drop, c⟩] :=
  ⟨takes_all (by decide +kernel), ⟨running, takes_fr (by decide +kernel), by decide +kernel⟩,
    fun c h => ⟨running.modPort 0 fun q => { q with jobs := [⟨.job .drop, c⟩] }, takes_fr rfl, rfl⟩⟩

/-- The generator is held by this port, running or not. -/
def generatorOf (p : Option Port) (g : Bool) : State := { led with gen := { led.gen with claim := p, running := g } }

theorem test_hyp_ClaimGeneratorByClaim : ∀ p ∈ [none, some (0 : Port), some 3],
    (generatorOf p false).Takes (fr 0 []) [] ∧ (generatorOf p false).gen.claim = p :=
  fun p h => ⟨takes_fr (by revert p; decide +kernel), by revert p; decide +kernel⟩

theorem test_hyp_GeneratorSetAndReleased :
    (∀ pl ∈ [[0], [1, 0], [1, 4], [1, 5], [2, 15], [2, 16], [8, 1], [16, 0], [16, 1], [16, (2 : Word)], [17, 3, 0],
        4 :: List.replicate 16 0x8000, [8, 2], [27, 4, 15, 1, 0], [31, 3, 0] ++ List.replicate 16 0x8000 ++ [0, 1]],
      setGeneratorVerdict pl = .fits ∧ ∀ g : Bool, ∀ p ∈ [none, some (0 : Port)],
      (generatorOf p g).Takes (fr 0 pl) pl ∧ (generatorOf p g).gen.claim = p ∧ (generatorOf p g).gen.running = g)
    ∧ running.Takes (fr 0 []) [] ∧ running.gen.claim ≠ some 0 ∧ generating.Takes (fr 0 []) []
    ∧ generating.gen.claim = some 0 :=
  ⟨fun pl h => ⟨by revert pl; decide +kernel, fun g p hp =>
      ⟨takes_fr (by revert p; revert g; revert pl; decide +kernel), rfl, rfl⟩⟩, takes_fr (by decide +kernel),
    by decide +kernel, takes_fr (by decide +kernel), by decide +kernel⟩

theorem test_hyp_GeneratorMakesSamples : (∀ k ∈ [PatternKind.n7, .n11, .n15, .n23], ∃ g : Generator, g.kind = k
      ∧ g.level = 15 ∧ g.inversion = true)
    ∧ ∀ inv odd : Bool, ∃ g : Generator, g.kind = .user ∧ g.inversion = inv
    ∧ g.oddRepetition = odd ∧ g.userPosition = 15 ∧ g.pattern.get 15 = 0x8000 :=
  ⟨fun k _ => ⟨{ Generator.initial with kind := k, level := 15, inversion := true }, rfl, rfl, rfl⟩,
    fun inv odd => ⟨{ Generator.initial with
    kind := .user, inversion := inv, oddRepetition := odd, userPosition := 15, pattern := Vector.replicate 16 0x8000 },
    rfl, rfl, rfl, rfl, rfl⟩⟩

/-- Checker 1 is held by this port on channel 15. -/
def checkerOf (p : Option Port) : State := running.modChecker 1 fun c => { c with claim := p, channel := 15 }

theorem test_hyp_CheckerCommands : ∀ p ∈ [none, some (0 : Port), some 3],
    (∀ pl ∈ [[1, 0], [1, 15], [1], [1, 1], [1, 2]], (checkerOf p).Takes (fr 0 pl) pl)
      ∧ ((checkerOf p).checker 1).claim = p ∧ ((checkerOf p).checker 1).channel = 15 :=
  fun p h => ⟨takes_all (by revert p; decide +kernel), by revert p; decide +kernel⟩

/-- Sample k of the sequence N7 from its seed (R167). -/
def n7Words (k : Nat) : Word := (seqSample 0 ((fun r => (seqSample 0 r).2)^[k] 0x7F)).1

/-- Checker 1 has heard the first sample of N7, with this run of its first hypothesis. -/
def hearing (run : Nat) (pos : Fin 32) : State :=
  let r := running.modChecker 1 fun c => { c with
    claim := some 0, state := .searching, heard := [n7Words 0], runs := vset c.runs 0 run }
  { r with lane := { r.lane with position := pos } }

theorem test_hyp_LockedCheckerCounts :
    (∀ frozen : Bool, ∀ run ∈ [14, 15],
      let s := running.modChecker 1 fun c => { c with
        claim := some 0, state := .locked, hypothesis := some 7, frozen := frozen, errorRun := run }
      s.lane.state = .running ∧ s.lane.frameOpen = true ∧ s.lane.position = 0 ∧ (s.checker 1).state = .locked
        ∧ (s.checker 1).hypothesis = some 7 ∧ (s.checker 1).frozen = frozen ∧ (s.checker 1).errorRun = run
        ∧ (zeroFrame.get (s.checker 1).channel) = 0 ∧ ~~~(0 : Sample) ≠ (seqSample (hypSequence 7) (s.checker 1).reference).1
        ∧ ~~~(~~~(seqSample (hypSequence 7) (s.checker 1).reference).1)
            = (seqSample (hypSequence 7) (s.checker 1).reference).1)
    ∧ (∀ run ∈ [6, 7], ∀ pos ∈ [(0 : Fin 32), 31], let s := hearing run pos
      s.lane.state = .running ∧ s.lane.frameOpen = true ∧ s.lane.position = pos ∧ (s.checker 1).state = .searching
        ∧ (s.checker 1).claim = some 0 ∧ (s.checker 1).runs.get 0 = run)
    ∧ (n7Words 0 ++ n7Words 1 : BitVec 32).getLsbD 17 = true
    ∧ ∀ b < 16, (n7Words 0 ++ n7Words 1 : BitVec 32).getLsbD b
      = ((n7Words 0 ++ n7Words 1 : BitVec 32).getLsbD (b + 7) != (n7Words 0 ++ n7Words 1 : BitVec 32).getLsbD (b + 1)) := by
  decide +kernel

/-- The lock of a SEARCHING checker at its eighth predicted sample, the next sample heard being the second of N7; and a sample that
is not predicted clears the run. -/
theorem test_checkerLocks : (match exec (.frameTaken ⟨Vector.replicate 16 (n7Words 1), []⟩) (hearing 7 0) with
      | .next t => (t.checker 1).state == .locked && (t.checker 1).hypothesis == some 0
          && (t.port 0).notices.checkerLock.getLsbD 1
      | .fault _ | .refused _ => false) = true
    ∧ (match exec (.frameTaken ⟨zeroFrame, []⟩) (hearing 7 0) with
      | .next t => (t.checker 1).state == .searching && (t.checker 1).runs.get 0 == 0
      | .fault _ | .refused _ => false) = true := by decide +kernel

/-- Port P0 has this many replies waiting. -/
def replied (n : Nat) : State :=
  running.modPort 0 fun q => { q with replies := List.replicate n ⟨0x70, 1, .ok, [1]⟩ }

theorem test_hyp_TransactionsAndPolls :
    ((replied 8).port 0).replies.length ≤ 8 ∧ ((replied 8).port 0).ignoring = false ∧ ((replied 8).port 0).spi = none
    ∧ (∃ (s : State) (x : Transaction), (s.port 0).ignoring = false ∧ (s.port 0).spi = some x ∧ x.holdsReply = true
      ∧ x.outbound.length = 4)
    ∧ ∃ s : State, (s.port 0).ignoring = true :=
  ⟨by decide +kernel, by decide +kernel, by decide +kernel,
    ⟨(replied 1).modPort 0 fun q => { q with spi := some ⟨[0xA001, 0x7001, 0x0100, 1], true, false, false⟩ },
      ⟨[0xA001, 0x7001, 0x0100, 1], true, false, false⟩, by decide +kernel⟩,
    running.modPort 0 fun q => { q with ignoring := true }, by decide +kernel⟩

/-- The header of a frame in its bits: 15 to 8 the command code, 7 to 0 the tag; each code with the row that 10.3 gives it. -/
theorem test_headers :
    Instr.ofTransaction 3 [0b00010000_10000001, 1, 3] = .create ⟨3, 0b10000001, [1, 3]⟩
    ∧ Instr.ofTransaction 0 [0b00110010_00000000, 3, 0x4000, 0, 0] = .writeWords ⟨0, 0, [3, 0x4000, 0, 0]⟩
    ∧ Instr.ofTransaction 0 [0x65FF, 2, 1, 2] = .checkerClear ⟨0, 0xFF, [2, 1, 2]⟩
    ∧ Instr.ofTransaction 0 [0x0012] = .poll ⟨0, 0x12, []⟩ ∧ Instr.ofTransaction 0 [0x0F12] = .unknownCommand 0x0F ⟨0, 0x12, []⟩
    ∧ Instr.ofTransaction 2 [] = .transactionOfNoWholeWord 2 := ⟨rfl, rfl, rfl, rfl, rfl, rfl⟩

theorem test_hyp_RefusedAndDiscardedFrames :
    ((running.port 0).ignoring = false ∧ ((receive (fr 0 []) running).port 0).replies.length < 8)
    ∧ ((Instr.create ⟨0, 7, []⟩).command? = some (0x10, ⟨0, 7, []⟩)
      ∧ (Instr.checkerClear ⟨0, 7, [2, 1]⟩).command? = some (0x65, ⟨0, 7, [2, 1]⟩))
    ∧ (62 < (63 : Word).toNat) ∧ ([] : List Word).length < (1 : Word).toNat ∧ payloadRule 0x0F = none
    ∧ payloadRule 0xFF = none ∧ (fr 0 []).Carries []
    ∧ (∃ s : State, (s.port 0).ignoring = false ∧ 8 ≤ ((receive (fr 0 []) s).port 0).replies.length)
    ∧ (Instr.identify (fr 0 [])).command? = some (0x70, fr 0 []) ∧ (Instr.identify (fr 0 [])).action? = none
    ∧ (∀ pl ∈ [[], [0], [3, 0], [3, 63], [3, 64], [3, 4, 0], [3, 4, 0, 0], [3, 4, 0, 57], [3, 0, 57], [3, 0, 56], [32],
        [4, 1], [0, 0, 0, 2], [0, 0, 0xFFFF, 1]], running.Takes (fr 0 pl) pl)
    ∧ (∀ a : CheckerAction, (fr 0 [1, a.code]).actionWord = a.code)
    ∧ (Instr.checkerFreeze (fr 0 [1, 0])).command? = some (0x65, fr 0 [1, 0])
    ∧ (Instr.checkerFreeze (fr 0 [1, 0])).action? = some .freeze
    ∧ (fr 0 []).refused 0x0F = true ∧ ∃ s : State, (s.port 0).ignoring = true :=
  ⟨by decide +kernel, ⟨rfl, rfl⟩, by decide, by decide, by decide, by decide, ⟨by decide, 0, rfl⟩,
    ⟨(replied 8), by decide +kernel⟩, rfl, rfl, takes_all (by decide +kernel), fun a => by cases a <;> rfl, rfl, rfl,
    by decide +kernel, running.modPort 0 fun q => { q with ignoring := true }, by decide +kernel⟩

theorem test_hyp_IdentifyAndReadDevice : State.reset.Takes (fr 3 []) [] := takes_fr (by decide +kernel)

theorem test_hyp_FetchNoticesReportsAndEmpties : ∃ s : State, s.Takes (fr 0 []) []
    ∧ (s.port 0).notices = ⟨1, 2, 4, 0x80000000, 0x8000, 1, 8, true, true, some false, true, true, 2, 1⟩ :=
  ⟨running.modPort 0 fun q => { q with
    notices := ⟨1, 2, 4, 0x80000000, 0x8000, 1, 8, true, true, some false, true, true, 2, 1⟩ }, takes_fr rfl, rfl⟩

theorem test_hyp_KeepalivePeriods :
    (∀ pl ∈ [[0], [1], [9], [10], [60000], [60001]], running.Takes (fr 0 pl) pl)
    ∧ (running.port 0).keepPeriod = 0
    ∧ ∃ s : State, (s.port 0).keepPeriod ≠ 0 ∧ (s.port 0).countdown ≠ 0 :=
  ⟨takes_all (by decide +kernel), by decide +kernel,
    running.modPort 0 fun q => { q with keepPeriod := 10, countdown := 1 }, by decide +kernel⟩

theorem membersSound_of {s : State} (h : ∀ n : ProfileId, ((s.profile n).state ≠ .bound →
      (s.profile n).leader = none ∧ (s.profile n).followers = 0)
    ∧ ∀ p ∈ allPorts, (s.profile n).leader = some p → (s.profile n).followers.getLsbD p.val = false) :
    s.MembersSound := by
  refine fun n => ⟨(h n).1, fun p => (h n).2 p ?_⟩
  fin_cases p <;> simp [allPorts]

theorem test_hyp_PortResetClearsPort :
    (owned.Takes (fr 0 []) [] ∧ owned.MembersSound)
    ∧ (∀ p ∈ [(1 : Port), 2], ∃ g m w, let s := moving (.window (.shared 0) 0) .ascending 1 1 none
      s.Takes (fr p []) [] ∧ s.MembersSound ∧ s.mover.segment = some g ∧ (g.port = p ↔ p = 1) ∧ g.stopped = none
        ∧ (s.port 1).moves.get g.record = some m ∧ s.windowOf (m.target.of 1) = some w)
    ∧ (∀ a ∈ [AdaptState.idle, .searchShape, .searchTrim, .searchReshape, .committing, .tracking],
      let s := adapting a .cleared
      s.Takes (fr 0 []) [] ∧ s.MembersSound ∧ s.ProbesCounted ∧ (s.profile 3).leader = some 0
        ∧ (s.profile 3).followers.getLsbD (3 : Port).val = true ∧ (s.profile 3).adapt = a)
    ∧ (let s := (generating.modSlot 15 fun t => { t with owner := some 3, source := .generator }).modSlot 0 fun t =>
          { t with owner := some 3, pending := some .generator }
      s.Takes (fr 0 []) [] ∧ s.MembersSound ∧ s.gen.claim = some 0 ∧ (s.slot 15).owner = some 3
        ∧ (s.slot 15).source = .generator ∧ (s.slot 0).owner = some 3 ∧ (s.slot 0).pending = some .generator)
    ∧ ∃ (s : State) (x : Transaction), (s.port 0).keepPeriod ≠ 0 ∧ (s.port 0).countdown = 0 ∧ s.MembersSound
      ∧ (s.port 0).spi = some x :=
  ⟨⟨takes_fr (by decide +kernel), membersSound_of (by decide +kernel)⟩,
    fun p h => ⟨⟨1, 3, 1, none⟩, ⟨.active, .window (.shared 0) 0, .shared 0, 8, 2, .ascending, 1, 1, false⟩, ⟨100, 40⟩,
      takes_fr (by revert p; decide +kernel), membersSound_of (by decide +kernel), by revert p; decide +kernel⟩,
    fun a h => ⟨takes_fr (by revert a; decide +kernel), membersSound_of (by revert a; decide +kernel),
      probesCounted_of (by revert a; decide +kernel) rfl, by revert a; decide +kernel⟩,
    ⟨takes_fr (by decide +kernel), membersSound_of (by decide +kernel), by decide +kernel⟩,
    owned.modPort 0 fun q => { q with keepPeriod := 10, spi := some ⟨[0xA000, 0], false, false, false⟩ },
    ⟨[0xA000, 0], false, false, false⟩, by decide +kernel, by decide +kernel, membersSound_of (by decide +kernel),
    by decide +kernel⟩

/-- The invariants have a state and a step: reset is the state of ResetSatisfiesInvariants. -/
theorem test_hyp_Invariants : ∃ t, step { State.reset with pending := [.frameSync] } = .next t ∧ State.reset.MemoryCanonical
    ∧ State.reset.QueuesBounded ∧ State.reset.ProbesCounted :=
  ⟨State.reset, rfl, rfl, by
    intro p
    revert p
    decide +kernel, probesCounted_of (by decide +kernel) rfl⟩

end Sys2Proof.Tests
end

/-! SUPPORT. The lane, the block event and reset: the statements of 01_sample_flow_and_playout, and the lemmas they rest on. -/

namespace Sys2Proof.Machine

/-! ### Input rings (R7) -/

/-- Settles O11: the branches of the ring read are R7's three answers. -/
theorem inputRingAnswers : Obligations.InputRingAnswers := by
  intro l c j o b fromV
  have hread : l.ringRead c j o = if fromV then
      if (l.blockCounter - b).toNat < 8 then
        .sample (((l.rings.getD (l.blockCounter - b).toNat []).getD (o % 32) zeroFrame).get c)
      else .gone
    else .beforeV := by
    simp only [Lane.ringRead, atOrAfter, decide_eq_true_eq, fromV, b]
  refine ⟨fun h => ?_, fun h held => ?_, fun h old => ?_⟩
  · rw [hread, if_neg h]
  · rw [hread, if_pos h, if_pos held]
  · rw [hread, if_pos h, if_neg (by omega)]

/-! ### Reset (R17, R18, R45, R85, R112, R113, R128, R150, R164, R172, R186) -/

theorem get_replicate {α : Type} {n : Nat} (a : α) (i : Fin n) : (Vector.replicate n a).get i = a := by
  simp [Vector.get]

@[simp] theorem State.profile_reset (n : ProfileId) : State.reset.profile n = .cleared := get_replicate _ n
@[simp] theorem State.slot_reset (i : SlotId) : State.reset.slot i = .initial := get_replicate _ i
@[simp] theorem State.port_reset (p : Port) : State.reset.port p = .initial := get_replicate _ p
@[simp] theorem State.checker_reset (c : Fin 2) : State.reset.checker c = .initial := get_replicate _ c

/-- No window is open after reset (R113). -/
@[simp] theorem State.windowOf_reset (id : WindowId) : State.reset.windowOf id = none := by
  cases id with
  | priv p k => simp only [State.windowOf, State.port_reset]; exact get_replicate _ k
  | shared k => simp only [State.windowOf]; rw [show State.reset.shared.get k = none from get_replicate _ k]; rfl

/-- Every ring sample is zero after reset and clock return (R5, R9). -/
theorem zeroRings_get {b : List LaneFrame} (hb : b ∈ zeroRings) :
    b.length = 32 ∧ ∀ f ∈ b, ∀ c : Channel, f.get c = 0 := by
  rw [List.eq_of_mem_replicate hb]
  refine ⟨List.length_replicate, fun f hf c => ?_⟩
  rw [List.eq_of_mem_replicate hf]
  exact get_replicate _ c

/-- The generator's history is empty after reset (R164). -/
theorem Generator.held_initial (k : Block) : Generator.initial.held k = none := by
  have h : Generator.initial.history.get (Fin.ofNat 512 k.toNat) = ⟨none, 0⟩ := get_replicate _ _
  simp only [Generator.held, h]
  rfl

/-- A port that ignores the transaction in progress at the release of reset (R186). -/
def PortState.ignore (ps : PortState) : PortState := { ps with ignoring := true }

theorem State.foldl_ignore_port (low : BitVec 4) (s : State) (q : Port) :
    (allPorts.foldl (fun s (p : Port) => if low.getLsbD p.val then s.modPort p PortState.ignore else s) s).port q
      = if low.getLsbD q.val = true then (s.port q).ignore else s.port q := by
  simp only [allPorts, List.foldl_cons, List.foldl_nil]
  fin_cases q <;> (repeat' split) <;> simp_all [State.port_modPort]

theorem State.foldl_ignore_eq (low : BitVec 4) (l : List Port) : ∀ s : State, ∃ ps,
    l.foldl (fun s (p : Port) => if low.getLsbD p.val then s.modPort p PortState.ignore else s) s
      = { s with ports := ps } := by
  induction l with
  | nil => exact fun s => ⟨s.ports, rfl⟩
  | cons p l ih =>
    intro s
    rw [List.foldl_cons]
    split
    · obtain ⟨ps, h⟩ := ih (s.modPort p PortState.ignore)
      exact ⟨ps, h⟩
    · exact ih s

/-- POWER_ON_RESET leaves State.reset but for the ignored transactions and the model's own fields (log 24). -/
theorem exec_powerOnReset (low : BitVec 4) (s : State) : ∃ t, exec (.powerOnReset low) s = .next t
    ∧ (∀ p, t.port p = { State.reset.port p with ignoring := low.getLsbD p.val })
    ∧ ({ t with ports := State.reset.ports, choices := 0, pending := [] } : State) = State.reset := by
  refine ⟨_, rfl, fun p => ?_, ?_⟩
  · refine (State.foldl_ignore_port low _ p).trans ?_
    have hp : ({ State.reset with choices := s.choices, pending := s.pending } : State).port p = .initial :=
      State.port_reset p
    rw [hp, State.port_reset]
    split
    · next h => rw [h]; rfl
    · next h => rw [Bool.not_eq_true _ |>.mp h]; rfl
  · obtain ⟨ps, h⟩ := State.foldl_ignore_eq low allPorts { State.reset with choices := s.choices, pending := s.pending }
    exact congrArg (fun t : State => ({ t with ports := State.reset.ports, choices := 0, pending := [] } : State)) h

/-- Settles O3: each reset record has the listed values, and POWER_ON_RESET leaves them from any state. -/
theorem resetStateValues : Obligations.ResetStateValues := by
  unfold Obligations.ResetStateValues
  extract_lets r plain
  refine ⟨⟨rfl, rfl, rfl, rfl, rfl, rfl, rfl, rfl, fun b hb => zeroRings_get hb⟩, State.profile_reset, State.slot_reset,
    ?profile, ?slot, ?engine, fun _ => rfl, State.windowOf_reset, rfl, fun p => ?port, ?gen, fun c => ?checker,
    exec_powerOnReset⟩
  case profile =>
    refine ⟨rfl, rfl, rfl, rfl, rfl, rfl, rfl, rfl, rfl, rfl, rfl, rfl, rfl, rfl, rfl, rfl, rfl, rfl, rfl, ?_, rfl, rfl,
      rfl, rfl, rfl, rfl, rfl, fun e => ?_⟩
    · exact ⟨rfl, rfl, rfl, rfl, rfl, rfl, rfl, rfl, rfl, rfl, rfl, rfl, rfl, rfl, rfl⟩
    · rw [show Profile.cleared.ring.get e = .cleared from get_replicate _ e]
      exact ⟨rfl, rfl⟩
  case slot => exact ⟨rfl, rfl, rfl, rfl, rfl, rfl, rfl, rfl, rfl⟩
  case engine => exact ⟨rfl, rfl, rfl, rfl, rfl, rfl⟩
  case port =>
    have hp : r.port p = .initial := State.port_reset p
    have hi : r.interrupt p = false := by rw [State.interrupt, hp]; decide
    rw [hp]
    exact ⟨rfl, rfl, rfl, rfl, rfl, rfl, rfl, by decide, by decide, by decide, fun m => get_replicate _ m, hi⟩
  case gen => exact ⟨rfl, rfl, rfl, rfl, Generator.held_initial⟩
  case checker =>
    rw [show r.checker c = .initial from State.checker_reset c]
    exact ⟨rfl, rfl, rfl, rfl, rfl⟩

/-- Settles O56: after reset the tables are empty, so each invariant speaks of nothing or of a cleared record. -/
theorem resetSatisfiesInvariants : Obligations.ResetSatisfiesInvariants := by
  unfold Obligations.ResetSatisfiesInvariants
  extract_lets r
  have profile (n : ProfileId) : r.profile n = .cleared := State.profile_reset n
  have port (p : Port) : r.port p = .initial := State.port_reset p
  have noMove (p : Port) (m : Fin 4) : (r.port p).moves.get m = none := by rw [port]; exact get_replicate _ m
  refine ⟨rfl, fun id w h => ?windows, fun p => ?queues, fun n => ?members, fun i n h => ?slots, fun p => ?runs,
    fun n h => ?copies, fun n b => ?references, fun n => ?probes, fun p m x h => ?moves, fun p m h => ?orders,
    fun g h => ?segment⟩
  case windows => rw [State.windowOf_reset] at h; cases h
  case queues => rw [port]; exact ⟨by decide, by decide⟩
  case members => rw [profile]; exact ⟨fun _ => ⟨rfl, rfl⟩, fun p h => by cases h⟩
  case slots =>
    rw [State.slot_reset] at h
    rcases h with h | h <;> cases h
  case runs => rw [port]; decide
  case copies => rw [profile] at h; cases h
  case references => rw [profile]; cases b <;> rfl
  case probes => rw [profile]; exact ⟨rfl, rfl⟩
  case moves => rw [noMove] at h; cases h
  case orders => rw [port] at h; cases h
  case segment => cases h

end Sys2Proof.Machine

namespace Sys2Proof.Machine

/-! ### The output frame (R12 to R14, R16) -/

/-- What a slot plays in a zero period or while it plays muted (R14, R16). -/
theorem State.slotSample_of_silent {s : State} {t : Slot} (h : s.lane.zeroPeriod = true ∨ t.playingMuted = true)
    (i : Fin 32) : s.slotSample t i = 0 := by
  simp [State.slotSample, h]

/-- What a slot plays otherwise is its source's sample (R14). -/
theorem State.slotSample_of_playing {s : State} {t : Slot} (hz : s.lane.zeroPeriod = false)
    (hm : t.playingMuted = false) (i : Fin 32) : s.slotSample t i = match t.source with
      | .silent => 0
      | .dry c => s.lane.passSample c (s.lane.blockCounter - 2) i.val
      | .generator => if s.gen.running then s.gen.current else 0
      | .profile n => if t.foundValid then
          ((s.profile n).ring.get (ringIndex (s.lane.blockCounter - 2))).samples.getD i.val 0 else 0 := by
  simp only [State.slotSample, hz, hm, Bool.or_self, Bool.false_eq_true, if_false]
  cases t.source <;> rfl

theorem State.outputFrame_get (s : State) (i : SlotId) :
    s.outputFrame.samples.get i = s.slotSample (s.slot i) s.lane.position := by
  simp [State.outputFrame, State.slot]

/-- Settles O4: the output frame takes each slot's sample, by the source it plays. -/
theorem frameSyncPlaysSlots : Obligations.FrameSyncPlaysSlots := by
  refine ⟨fun s hr => ?sync, fun s hw => ?start⟩
  case sync =>
    have hexec : exec .frameSync s = .next (startOutput s) := by
      simp only [exec, execFrameSync, hr, if_true, finish]
    refine ⟨s.outputFrame, hexec, rfl, fun i => ?_⟩
    extract_lets t x
    have hx : x = s.slotSample t s.lane.position := s.outputFrame_get i
    refine ⟨fun h => hx.trans (State.slotSample_of_silent h _), fun hz hm => ?_⟩
    rw [State.slotSample_of_playing hz hm] at hx
    refine ⟨fun h => ?_, fun h => ?_, fun c h => ?_, fun n h => ?_⟩ <;> rw [hx, h]
  case start =>
    have hexec : exec .interfaceStart s = .next
        (startOutput { s with lane := { s.lane with state := .running, zeroPeriod := true } }) := by
      simp only [exec, execInterfaceStart, hw, if_true, finish]
    exact ⟨_, hexec, rfl, fun i =>
      (State.outputFrame_get _ i).trans (State.slotSample_of_silent (.inl rfl) _)⟩

/-! ### The generator's history (R169, R170) -/

/-- Two sample numbers that share no place in the history of 512. -/
theorem historyPlace_ne {m k : Block} (h : m.toNat % 512 ≠ k.toNat % 512) :
    Fin.ofNat 512 m.toNat ≠ Fin.ofNat 512 k.toNat := fun e => h (congrArg Fin.val e)

theorem Generator.held_record_same (g : Generator) (k : Block) (x : Sample) : (g.record k x).held k = some x := by
  simp [Generator.held, Generator.record]

theorem Generator.held_record_ne (g : Generator) {m k : Block} (x : Sample) (h : m.toNat % 512 ≠ k.toNat % 512) :
    (g.record k x).held m = g.held m := by
  simp only [Generator.held, Generator.record, vset_get_ne _ _ (historyPlace_ne h)]

/-- Making a sample moves the position alone. -/
theorem Generator.next_history (g : Generator) : g.next.2.history = g.history := by
  unfold Generator.next
  split <;> rfl

theorem Generator.next_running (g : Generator) : g.next.2.running = g.running := by
  unfold Generator.next
  split <;> rfl

theorem Generator.frame_running (g : Generator) (k : Block) : (g.frame k).running = g.running := by
  unfold Generator.frame
  split
  · exact g.next_running
  · rfl

/-- Withdrawing samples changes the history alone. -/
theorem Generator.withdraw_eq (g : Generator) (k : Block) : { g.withdraw k with history := g.history } = g := by
  simp only [Generator.withdraw]
  split <;> rfl

theorem Generator.held_withdraw_same (g : Generator) (k : Block) : (g.withdraw k).held k = none := by
  simp only [Generator.held, Generator.withdraw]
  split
  · simp only [vset_get_same, reduceCtorEq, if_false]
  · rfl

/-- A sample that is not held stays so when another is withdrawn. -/
theorem Generator.held_withdraw_of_none {g : Generator} {m : Block} (h : g.held m = none) (k : Block) :
    (g.withdraw k).held m = none := by
  simp only [Generator.held, Generator.withdraw] at h ⊢
  split
  · by_cases hk : Fin.ofNat 512 m.toNat = Fin.ofNat 512 k.toNat
    · simp only [hk, vset_get_same, reduceCtorEq, if_false]
    · simpa only [vset_get_ne _ _ hk] using h
  · exact h

theorem Generator.foldl_withdraw_eq (f : Nat → Block) (l : List Nat) : ∀ g : Generator,
    { l.foldl (fun g i => g.withdraw (f i)) g with history := g.history } = g := by
  induction l with
  | nil => exact fun _ => rfl
  | cons i l ih =>
    intro g
    have h := congrArg (fun r : Generator => { r with history := g.history }) (ih (g.withdraw (f i)))
    exact h.trans (g.withdraw_eq (f i))

theorem Generator.held_foldl_withdraw (f : Nat → Block) (m : Block) (l : List Nat) : ∀ g : Generator,
    g.held m = none ∨ (∃ i ∈ l, f i = m) → (l.foldl (fun g i => g.withdraw (f i)) g).held m = none := by
  induction l with
  | nil =>
    rintro g (h | ⟨i, hi, -⟩)
    · exact h
    · cases hi
  | cons i l ih =>
    intro g h
    refine ih _ ?_
    rcases h with h | ⟨j, hj, rfl⟩
    · exact .inl (Generator.held_withdraw_of_none h _)
    · rcases List.mem_cons.mp hj with rfl | hj
      · exact .inl (g.held_withdraw_same _)
      · exact .inr ⟨j, hj, rfl⟩

/-! ### The housekeeping tick and clock loss (R8, R170, R183) -/

/-- One more silent tick, up to four (R8). -/
theorem silentTicks_next (x : Fin 5) :
    (if x.val < Config.silentLimit then x + 1 else x).val = min 4 (x.val + 1) := by
  revert x
  decide

theorem exec_housekeepingTick (s : State) : ∃ t, exec .housekeepingTick s = .next t
    ∧ t.lane.silentTicks.val = min 4 (s.lane.silentTicks.val + 1)
    ∧ (∀ p, t.port p = (s.port p).tick)
    ∧ ({ t with lane := { t.lane with silentTicks := s.lane.silentTicks }, ports := s.ports } : State) = s :=
  ⟨_, rfl, silentTicks_next s.lane.silentTicks, fun p => vmap_get PortState.tick s.ports p, rfl⟩

/-- CLOCK_LOSS in RUNNING at four silent ticks. -/
theorem exec_clockLoss {s : State} (hr : s.lane.state = .running) (h4 : s.lane.silentTicks.val = 4) :
    exec .clockLoss s
      = .next ({ s with lane := s.lane.clockLoss, gen := withdrawBlock s.lane s.gen }.notifyAll .clockLost) := by
  simp only [exec, execClockLoss, finish, hr, h4, Config.silentLimit, true_and, if_true]

/-- CLOCK_LOSS before the fourth silent tick (log 2). -/
theorem exec_clockLoss_early {s : State} (h : s.lane.silentTicks.val < 4) : exec .clockLoss s = .next s := by
  have hn : ¬ (s.lane.state = .running ∧ s.lane.silentTicks.val = Config.silentLimit) := by
    rintro ⟨-, h4⟩
    exact absurd h4 (Nat.ne_of_lt h)
  simp only [exec, execClockLoss, finish, if_neg hn]

/-- Settles O9: the tick counts, and at the fourth silent tick the loss withdraws the samples of the block in progress. -/
theorem tickAndClockLoss : Obligations.TickAndClockLoss := by
  refine ⟨exec_housekeepingTick, fun s hr h4 => ⟨_, exec_clockLoss hr h4, ?_⟩, fun s h => exec_clockLoss_early h⟩
  generalize hu : ({ s with lane := s.lane.clockLoss, gen := withdrawBlock s.lane s.gen } : State) = u
  have ht : u.notifyAll .clockLost = { u with ports := (u.notifyAll .clockLost).ports } :=
    (onlyNotices_notifyAll u .clockLost).state
  have hport (p : Port) : u.port p = s.port p := by subst hu; rfl
  have hgen : u.gen = withdrawBlock s.lane s.gen := by subst hu; rfl
  refine ⟨?lane, fun p => ?port, fun i hi => ?withdrawn, ?gen, ?rest⟩ <;> rw [ht]
  case lane => subst hu; rfl
  case port =>
    refine (State.port_notifyAll u .clockLost p).trans ?_
    rw [hport]
    rfl
  case withdrawn =>
    show u.gen.held _ = none
    rw [hgen]
    exact Generator.held_foldl_withdraw (sampleNumber (s.lane.blockCounter + 1)) _ _ _
      (.inr ⟨i, List.mem_range.mpr hi, rfl⟩)
  case gen =>
    show { u.gen with history := s.gen.history } = s.gen
    rw [hgen]
    exact Generator.foldl_withdraw_eq _ _ s.gen
  case rest => subst hu; rfl

end Sys2Proof.Machine

namespace Sys2Proof.Machine

/-! ### Additions to the notice sets (R181) -/

theorem getLsbD_insertBit {n : Nat} (m : BitVec n) (i j : Fin n) :
    (insertBit m i.val).getLsbD j.val = (m.getLsbD j.val || decide (i = j)) := by
  have hj := j.isLt
  have hbit : (1#n <<< i.val).getLsbD j.val = decide (i = j) := by
    simp only [BitVec.getLsbD_shiftLeft, BitVec.getLsbD_one, Fin.ext_iff]
    by_cases h : i.val = j.val
    · simp [h]; omega
    · simp [h]; omega
  rw [insertBit, BitVec.getLsbD_or, hbit]

/-- The bit g of the notice sets is set by notice j and by no other, and no addition clears it. -/
def Notices.SetBy (g : Notices → Bool) (j : Notice) : Prop := ∀ ns k, g (ns.add k) = (g ns || decide (k = j))

theorem Notices.setBy_adaptDone (n : ProfileId) : Notices.SetBy (fun ns => ns.adaptDone.getLsbD n.val) (.adaptDone n) := by
  intro ns k
  cases k with
  | adaptDone m => simpa [Notices.add] using getLsbD_insertBit ns.adaptDone m n
  | _ => simp [Notices.add]

theorem Notices.setBy_committed (n : ProfileId) : Notices.SetBy (fun ns => ns.committed.getLsbD n.val) (.committed n) := by
  intro ns k
  cases k with
  | committed m => simpa [Notices.add] using getLsbD_insertBit ns.committed m n
  | _ => simp [Notices.add]

theorem Notices.setBy_profileGone (n : ProfileId) :
    Notices.SetBy (fun ns => ns.profileGone.getLsbD n.val) (.profileGone n) := by
  intro ns k
  cases k with
  | profileGone m => simpa [Notices.add] using getLsbD_insertBit ns.profileGone m n
  | _ => simp [Notices.add]

theorem Notices.SetBy.foldl {g : Notices → Bool} {j : Notice} (hg : Notices.SetBy g j) (ks : List Notice) :
    ∀ ns : Notices, g (ks.foldl Notices.add ns) = (g ns || decide (j ∈ ks)) := by
  induction ks with
  | nil => simp
  | cons k ks ih =>
    intro ns
    rw [List.foldl_cons, ih, hg, Bool.or_assoc]
    simp [eq_comm]

/-- From s to t the ports change in their notice sets alone, by additions that satisfy K. -/
def State.Adds (K : Notice → Prop) (s t : State) : Prop :=
  ∀ p, ∃ ks : List Notice, (∀ k ∈ ks, K k)
    ∧ t.port p = { s.port p with notices := ks.foldl Notices.add (s.port p).notices }

namespace State.Adds

variable {K L : Notice → Prop} {s t u : State}

theorem of_ports (h : t.ports = s.ports) : s.Adds K t :=
  fun p => ⟨[], by simp, by rw [State.port, h]; rfl⟩

theorem refl (s : State) : s.Adds K s := of_ports rfl

theorem trans (a : s.Adds K t) (b : t.Adds K u) : s.Adds K u := by
  intro p
  obtain ⟨ks, hks, ha⟩ := a p
  obtain ⟨ls, hls, hb⟩ := b p
  refine ⟨ks ++ ls, fun k hk => (List.mem_append.mp hk).elim (hks k) (hls k), ?_⟩
  rw [hb, ha, List.foldl_append]

theorem mono (a : s.Adds K t) (h : ∀ k, K k → L k) : s.Adds L t := fun p =>
  let ⟨ks, hks, ha⟩ := a p
  ⟨ks, fun k hk => h k (hks k hk), ha⟩

theorem notify (s : State) (p : Port) {k : Notice} (h : K k) : s.Adds K (s.notify p k) := by
  intro q
  rw [State.port_notify]
  split
  · next e => exact ⟨[k], by simpa using h, by rw [e]; rfl⟩
  · exact ⟨[], by simp, rfl⟩

theorem notifyOpt (s : State) (p : Option Port) {k : Notice} (h : K k) : s.Adds K (s.notifyOpt p k) := by
  cases p with
  | none => exact refl s
  | some q => exact notify s q h

theorem notifySet (s : State) (m : BitVec 4) {k : Notice} (h : K k) : s.Adds K (s.notifySet m k) := by
  intro q
  rw [State.port_notifySet]
  split
  · exact ⟨[k], by simpa using h, rfl⟩
  · exact ⟨[], by simp, rfl⟩

theorem notifyMembers (s : State) (n : ProfileId) {k : Notice} (h : K k) : s.Adds K (s.notifyMembers n k) :=
  (notifyOpt s _ h).trans (notifySet _ _ h)

theorem notifyAll (s : State) {k : Notice} (h : K k) : s.Adds K (s.notifyAll k) :=
  fun q => ⟨[k], by simpa using h, State.port_notifyAll s k q⟩

theorem port (a : s.Adds K t) (p : Port) : t.port p = { s.port p with notices := (t.port p).notices } := by
  obtain ⟨ks, -, ha⟩ := a p
  rw [ha]

/-- A notice that a port has is there until it is fetched. -/
theorem kept {g : Notices → Bool} {j : Notice} (hg : Notices.SetBy g j) (a : s.Adds K t) {p : Port}
    (h : g (s.port p).notices = true) : g (t.port p).notices = true := by
  obtain ⟨ks, -, ha⟩ := a p
  simp only [ha, hg.foldl, h, Bool.true_or]

/-- A notice that is not among the additions is there just if it was. -/
theorem bit_eq {g : Notices → Bool} {j : Notice} (hg : Notices.SetBy g j) (a : s.Adds K t) (hK : ¬ K j) (p : Port) :
    g (t.port p).notices = g (s.port p).notices := by
  obtain ⟨ks, hks, ha⟩ := a p
  have hj : j ∉ ks := fun h => hK (hks j h)
  simp only [ha, hg.foldl, hj, decide_false, Bool.or_false]

end State.Adds

theorem PortState.noticed_bit {g : Notices → Bool} {j : Notice} (hg : Notices.SetBy g j) (ps : PortState) :
    g (ps.noticed j).notices = true := by
  simp [PortState.noticed, hg ps.notices j]

/-- The leader and every follower are told (R34, R103). -/
theorem State.told_notifyMembers {g : Notices → Bool} {j : Notice} (hg : Notices.SetBy g j) (s : State) (n : ProfileId)
    {q : Port} (h : (s.profile n).leader = some q ∨ (s.profile n).followers.getLsbD q.val = true) :
    g ((s.notifyMembers n j).port q).notices = true := by
  have hset := State.port_notifySet (s.notifyOpt (s.profile n).leader j) (s.profile n).followers j q
  rw [State.notifyMembers, hset]
  split
  · exact PortState.noticed_bit hg _
  · next hf =>
    rw [h.resolve_right hf]
    simp only [State.notifyOpt, State.port_notify, if_true]
    exact PortState.noticed_bit hg _

/-! ### What a turn for one profile leaves of the others -/

/-- A notice about profile m. -/
def Notice.OfProfile (m : ProfileId) (k : Notice) : Prop := k = .committed m ∨ k = .adaptDone m ∨ k = .profileGone m

/-- The probes of profile n, in the order of the queue. -/
def Engine.probesOf (e : Engine) (n : ProfileId) : List ProbeEntry := e.probes.filter fun x => x.profile == n

theorem Engine.mem_probesOf {e : Engine} {n : ProfileId} {x : ProbeEntry} :
    x ∈ e.probesOf n ↔ x ∈ e.probes ∧ x.profile = n := by
  simp [Engine.probesOf]

theorem Engine.probesOf_eq_nil {e : Engine} {n : ProfileId} : e.probesOf n = [] ↔ ∀ x ∈ e.probes, x.profile ≠ n := by
  simp [Engine.probesOf]

theorem Engine.probeOf_eq_head? (e : Engine) (n : ProfileId) : e.probeOf n = (e.probesOf n).head? :=
  List.head?_filter.symm

/-- t is s but for the record of profile m, its probes, the unit and its suspension request, and notices about m; a unit that drains
goes on draining. -/
structure ProfileTurn (m : ProfileId) (s t : State) : Prop where
  only     : ProfileOnly m s t
  probes   : ∀ n, n ≠ m → t.engine.probesOf n = s.engine.probesOf n
  draining : s.engine.mac = .draining → t.engine.mac = .draining
  adds     : s.Adds (Notice.OfProfile m) t

namespace ProfileTurn

variable {m : ProfileId} {s t u : State}

theorem refl (m : ProfileId) (s : State) : ProfileTurn m s s := ⟨.refl m s, fun _ _ => rfl, id, .refl s⟩

theorem trans (a : ProfileTurn m s t) (b : ProfileTurn m t u) : ProfileTurn m s u :=
  ⟨a.only.trans b.only, fun n h => (b.probes n h).trans (a.probes n h), fun h => b.draining (a.draining h),
    a.adds.trans b.adds⟩

/-- A turn that leaves the engine as it is. -/
theorem of_engine (only : ProfileOnly m s t) (engine : t.engine = s.engine) (adds : s.Adds (Notice.OfProfile m) t) :
    ProfileTurn m s t :=
  ⟨only, fun n _ => by rw [engine], fun h => by rw [engine]; exact h, adds⟩

theorem modProfile (m : ProfileId) (s : State) (f : Profile → Profile) : ProfileTurn m s (s.modProfile m f) :=
  .of_engine (profileOnly_modProfile m s f) rfl (.of_ports rfl)

theorem modSearch (m : ProfileId) (s : State) (f : SearchPosition → SearchPosition) : ProfileTurn m s (s.modSearch m f) :=
  modProfile m s _

theorem of_onlyNotices (h : OnlyNotices s t) (adds : s.Adds (Notice.OfProfile m) t) : ProfileTurn m s t :=
  .of_engine (h.profileOnly m) (by rw [h.state]) adds

theorem notifyOpt (s : State) (p : Option Port) {k : Notice} (h : k.OfProfile m) : ProfileTurn m s (s.notifyOpt p k) :=
  of_onlyNotices (onlyNotices_notifyOpt s p k) (.notifyOpt s p h)

theorem notifyMembers (s : State) (n : ProfileId) {k : Notice} (h : k.OfProfile m) :
    ProfileTurn m s (s.notifyMembers n k) :=
  of_onlyNotices (onlyNotices_notifyMembers s n k) (.notifyMembers s n h)

theorem freeTest (m : ProfileId) (s : State) : ProfileTurn m s (freeTest m s) := by
  unfold Machine.freeTest
  split
  · exact (notifyOpt s _ (.inr (.inr rfl))).trans (modProfile m _ _)
  · exact .refl m s

theorem dropReference (m : ProfileId) (b : BankId) (s : State) : ProfileTurn m s (dropReference m b s) :=
  ((modProfile m s _).trans (modProfile m _ _)).trans (freeTest m _)

theorem routeExpired (m : ProfileId) (k : Block) (b : BankId) (s : State) : ProfileTurn m s (routeExpired m k b s) :=
  (modProfile m s _).trans (dropReference m b _)

end ProfileTurn

/-! ### The probe queue under the controller (R69 to R71) -/

@[simp] theorem Engine.probes_dropRunningProbe (e : Engine) (n : ProfileId) : (e.dropRunningProbe n).probes = e.probes := by
  rw [Engine.dropRunningProbe_eq]

/-- A unit that drains goes on draining when a probe is thrown away. -/
theorem Engine.dropRunningProbe_draining {e : Engine} (n : ProfileId) (h : e.mac = .draining) :
    (e.dropRunningProbe n).mac = .draining := by
  unfold Engine.dropRunningProbe
  split
  · split
    · rfl
    · exact h
  · exact h

/-- Throwing away the running probe leaves its step to drain (R70, R71). -/
theorem Engine.dropRunningProbe_mac {e : Engine} {n : ProfileId} {x : ProbeEntry} (h : e.probeOf n = some x)
    (hx : x.condition = .running) : (e.dropRunningProbe n).mac = .draining := by
  simp only [Engine.dropRunningProbe, h, hx, if_true]

/-- A filter that holds for no entry the update touches does not see it. -/
theorem filter_updateFirst_of_not {α : Type} (p q : α → Bool) (f : α → α) (h : ∀ a, p a = true → q a = false ∧ q (f a) = false)
    (l : List α) : (updateFirst p f l).filter q = l.filter q := by
  induction l with
  | nil => rfl
  | cons a l ih =>
    by_cases hp : p a = true
    · obtain ⟨h1, h2⟩ := h a hp
      simp [updateFirst, hp, h1, h2]
    · simp [updateFirst, hp, List.filter_cons, ih]

/-- The first entry that the filter lets through is the one updated. -/
theorem filter_updateFirst {α : Type} (p : α → Bool) (f : α → α) (h : ∀ a, p a = true → p (f a) = true) {l xs : List α} {x : α}
    (hl : l.filter p = x :: xs) : (updateFirst p f l).filter p = f x :: xs := by
  induction l with
  | nil => cases hl
  | cons a l ih =>
    by_cases hp : p a = true
    · rw [List.filter_cons_of_pos hp] at hl
      obtain ⟨rfl, rfl⟩ := List.cons.inj hl
      simp [updateFirst, hp, h a hp]
    · rw [List.filter_cons_of_neg hp] at hl
      rw [updateFirst, if_neg hp, List.filter_cons_of_neg hp, ih hl]

namespace ProfileTurn

theorem queueProbe (e : ProbeEntry) (s : State) : ProfileTurn e.profile s (queueProbe e s) := by
  refine ⟨profileOnly_queueProbe e s, fun n h => ?_, id, .of_ports rfl⟩
  simp [Machine.queueProbe, Engine.probesOf, h.symm]

theorem restartProbe (m : ProfileId) (w : ProbeWindow) (s : State) : ProfileTurn m s (restartProbe m w s) := by
  refine ⟨profileOnly_restartProbe m w s, fun n h => ?_, Engine.dropRunningProbe_draining m, .of_ports rfl⟩
  simp only [Machine.restartProbe, Engine.probesOf, Engine.probes_dropRunningProbe]
  refine filter_updateFirst_of_not _ _ _ (fun x hx => ?_) _
  have hx' : x.profile = m := by simpa using hx
  simp [ProbeEntry.reset, hx', h.symm]

theorem withdrawProbe (m : ProfileId) (s : State) : ProfileTurn m s (withdrawProbe m s) := by
  unfold Machine.withdrawProbe
  split
  · exact .refl m s
  · refine ((?_ : ProfileTurn m s _).trans (modProfile m _ _)).trans (freeTest m _)
    refine ⟨profileOnly_probes m s _ ?_, fun n h => ?_, Engine.dropRunningProbe_draining m, .of_ports rfl⟩
    · simp only
      rw [Engine.dropRunningProbe_eq]
    · simp only [Engine.probesOf, Engine.probes_dropRunningProbe, List.filter_filter]
      refine List.filter_congr fun x _ => ?_
      by_cases hx : x.profile = n
      · simp [hx, h]
      · simp [hx]

theorem endAdaptation (m : ProfileId) (o : Outcome) (s : State) : ProfileTurn m s (endAdaptation m o s) :=
  ((withdrawProbe m s).trans (modProfile m _ _)).trans (notifyMembers _ m (.inr (.inl rfl)))

theorem tryQueue (m : ProfileId) (s : State) : ProfileTurn m s (tryQueue m s) := by
  unfold Machine.tryQueue
  simp only
  split
  · exact .refl m s
  · split
    · exact endAdaptation m _ s
    · split
      · exact (queueProbe ((s.profile m).probeEntry m _) s).trans (modSearch m _ _)
      · exact .refl m s

theorem overrun (m : ProfileId) (b : Block) (s : State) : ProfileTurn m s (overrun m b s) := by
  unfold Machine.overrun
  simp only
  split
  · exact ((modProfile m s _).trans (modSearch m _ _)).trans (restartProbe m _ _)
  · exact (modProfile m s _).trans (endAdaptation m _ _)

theorem startRound (m : ProfileId) (s : State) : ProfileTurn m s (startRound m s) :=
  (modProfile m s _).trans (tryQueue m _)

theorem controllerEvent (k : Block) (flipped : List ProfileId) (s : State) (m : ProfileId) :
    ProfileTurn m s (controllerEvent k flipped s m) := by
  unfold Machine.controllerEvent
  simp only
  split
  · split
    · split
      · exact overrun m k s
      · exact .refl m s
    · exact .refl m s
  · split
    · exact tryQueue m s
    · split
      · split
        · exact startRound m s
        · exact modSearch m s _
      · exact .refl m s

theorem adaptFlip (m : ProfileId) (s : State) : ProfileTurn m s (adaptFlip m s) := by
  unfold Machine.adaptFlip
  extract_lets p s'
  have hs : ProfileTurn m s s' := by
    simp only [s']
    split
    · exact (modProfile m s _).trans (notifyMembers _ m (.inr (.inl rfl)))
    · exact .refl m s
  split
  · exact hs.trans (modProfile m _ _)
  · exact hs.trans (modProfile m _ _)

theorem bankFlip (k : Block) (s : State) (m : ProfileId) : ProfileTurn m s (bankFlip k s m) := by
  unfold Machine.bankFlip
  simp only
  have flipped := (modProfile m s fun p => { p with
      live := p.spare, generation := p.generation + 1, stage := .none, flipEvent := none }).trans
    (notifyMembers _ m (k := .committed m) (.inl rfl))
  split
  · split
    · exact flipped.trans (adaptFlip m _)
    · exact flipped
  · exact .refl m s

end ProfileTurn

end Sys2Proof.Machine

namespace Sys2Proof.Machine

/-! ### Folds of turns -/

/-- A reflexive and transitive relation that every turn makes, as long as P holds, is made by a list of turns. -/
theorem foldl_relates {α : Type} {Rel : State → State → Prop} {P : State → Prop} (refl : ∀ s, Rel s s)
    (trans : ∀ s t u, Rel s t → Rel t u → Rel s u) (hP : ∀ s t, Rel s t → P s → P t) (step : State → α → State)
    (l : List α) (h : ∀ s, P s → ∀ a ∈ l, Rel s (step s a)) : ∀ s, P s → Rel s (l.foldl step s) := by
  induction l with
  | nil => exact fun s _ => refl s
  | cons a l ih =>
    intro s hs
    have ha := h s hs a List.mem_cons_self
    exact trans _ _ _ ha (ih (fun u hu b hb => h u hu b (List.mem_cons_of_mem a hb)) _ (hP _ _ ha hs))

/-- An entry of a list without repetition splits it. -/
theorem split_of_mem {α : Type} {l : List α} (hl : l.Nodup) {a : α} (ha : a ∈ l) :
    ∃ pre post, l = pre ++ a :: post ∧ a ∉ pre ∧ a ∉ post := by
  obtain ⟨pre, post, rfl⟩ := List.append_of_mem ha
  obtain ⟨-, hpost, hdisj⟩ := List.nodup_append.mp hl
  exact ⟨pre, post, rfl, fun h => hdisj a h a List.mem_cons_self rfl, (List.nodup_cons.mp hpost).1⟩

theorem mem_allProfiles (n : ProfileId) : n ∈ allProfiles := by
  revert n
  decide

theorem nodup_allProfiles : allProfiles.Nodup := by decide

/-! ### What the parts of a block event leave -/

/-- t is s but for profiles, slots, the routes, the probes, the unit and its suspension request, notices, and the count of
choices. -/
structure EventOnly (s t : State) : Prop where
  state  : t = { s with
    profiles := t.profiles, slots := t.slots, engine := t.engine, ports := t.ports, choices := t.choices }
  engine : t.engine = { s.engine with
    mac := t.engine.mac, suspendAsked := t.engine.suspendAsked, routes := t.engine.routes, probes := t.engine.probes }
  adds   : s.Adds (fun _ => True) t

namespace EventOnly

variable {s t u : State}

theorem refl (s : State) : EventOnly s s := ⟨rfl, rfl, .refl s⟩

theorem trans (a : EventOnly s t) (b : EventOnly t u) : EventOnly s u := by
  refine ⟨?_, ?_, a.adds.trans b.adds⟩
  · rw [b.state, a.state]
  · rw [b.engine, a.engine]

theorem lane (h : EventOnly s t) : t.lane = s.lane := by rw [h.state]
theorem gen (h : EventOnly s t) : t.gen = s.gen := by rw [h.state]

theorem foldl {α : Type} (step : State → α → State) (h : ∀ s a, EventOnly s (step s a)) (l : List α) (s : State) :
    EventOnly s (l.foldl step s) :=
  foldl_relates (P := fun _ => True) refl (fun _ _ _ => trans) (fun _ _ _ _ => trivial) step l (fun s _ a _ => h s a) s trivial

end EventOnly

theorem ProfileTurn.eventOnly {m : ProfileId} {s t : State} (h : ProfileTurn m s t) : EventOnly s t := by
  refine ⟨?_, ?_, h.adds.mono fun _ _ => trivial⟩ <;> rw [h.only.state]
  rw [h.only.engine]

theorem ProfileTurn.routes {m : ProfileId} {s t : State} (h : ProfileTurn m s t) : t.engine.routes = s.engine.routes := by
  rw [h.only.engine]

theorem ProfileTurn.slots {m : ProfileId} {s t : State} (h : ProfileTurn m s t) : t.slots = s.slots := by
  rw [h.only.state]

/-- From s to t the record of profile n goes over as R says, its probes stay, a unit that drains goes on draining, and no port is
told that the adaptation of profile n is done. -/
structure Keeps (n : ProfileId) (R : Profile → Profile → Prop) (s t : State) : Prop where
  event    : EventOnly s t
  record   : R (s.profile n) (t.profile n)
  probes   : t.engine.probesOf n = s.engine.probesOf n
  draining : s.engine.mac = .draining → t.engine.mac = .draining
  adds     : s.Adds (fun k => k ≠ .adaptDone n) t

namespace Keeps

variable {n : ProfileId} {R S : Profile → Profile → Prop} {s t u : State}

theorem refl (n : ProfileId) (s : State) : Keeps n Eq s s := ⟨.refl s, rfl, rfl, id, .refl s⟩

theorem trans {Q : Profile → Profile → Prop} (hR : ∀ {p q r}, R p q → S q r → Q p r) (a : Keeps n R s t)
    (b : Keeps n S t u) : Keeps n Q s u :=
  ⟨a.event.trans b.event, hR a.record b.record, b.probes.trans a.probes, fun h => b.draining (a.draining h),
    a.adds.trans b.adds⟩

theorem mono (h : ∀ {p q}, R p q → S p q) (a : Keeps n R s t) : Keeps n S s t := { a with record := h a.record }

/-- Before and after a turn that leaves the record as it is. -/
theorem of_eq_left (a : Keeps n Eq s t) (b : Keeps n R t u) : Keeps n R s u :=
  a.trans (by rintro p _ r rfl h; exact h) b

theorem of_eq_right (a : Keeps n R s t) (b : Keeps n Eq t u) : Keeps n R s u :=
  a.trans (by rintro p q _ h rfl; exact h) b

theorem profile_eq (a : Keeps n Eq s t) : t.profile n = s.profile n := a.record.symm

/-- Turns that each keep profile n, one after another. -/
theorem foldl {α : Type} (step : State → α → State) (l : List α) (h : ∀ s, ∀ a ∈ l, Keeps n Eq s (step s a)) (s : State) :
    Keeps n Eq s (l.foldl step s) :=
  foldl_relates (P := fun _ => True) (refl n) (fun _ _ _ => of_eq_left) (fun _ _ _ _ => trivial) step l
    (fun s _ a ha => h s a ha) s trivial

end Keeps

/-- A turn for another profile. -/
theorem ProfileTurn.keeps {m n : ProfileId} {s t : State} (h : ProfileTurn m s t) (hn : n ≠ m) : Keeps n Eq s t :=
  ⟨h.eventOnly, (h.only.other n hn).symm, h.probes n hn, h.draining, h.adds.mono fun k hk e => by
    subst e
    rcases hk with hk | hk | hk <;> cases hk
    exact hn rfl⟩

/-- Turns for a list of profiles that names profile n once: those before and after it keep n. -/
theorem Keeps.foldl_turns {step : State → ProfileId → State} (h : ∀ s m, ProfileTurn m s (step s m)) {l : List ProfileId}
    (hl : l.Nodup) {n : ProfileId} (hn : n ∈ l) (s : State) :
    ∃ u, Keeps n Eq s u ∧ Keeps n Eq (step u n) (l.foldl step s) := by
  obtain ⟨pre, post, rfl, hpre, hpost⟩ := split_of_mem hl hn
  have others (l : List ProfileId) (hl : n ∉ l) (s : State) : Keeps n Eq s (l.foldl step s) :=
    .foldl step l (fun s m hm => (h s m).keeps fun e : n = m => hl (e ▸ hm)) s
  refine ⟨pre.foldl step s, others pre hpre s, ?_⟩
  rw [List.foldl_append, List.foldl_cons]
  exact others post hpost _

/-- Turns for a list of profiles, of which the one for profile n does nothing. -/
theorem Keeps.foldl_turns_of_idle {step : State → ProfileId → State} (h : ∀ s m, ProfileTurn m s (step s m))
    {P : Profile → Prop} {n : ProfileId} (idle : ∀ s, P (s.profile n) → step s n = s) (l : List ProfileId) :
    ∀ s, P (s.profile n) → Keeps n Eq s (l.foldl step s) :=
  foldl_relates (P := fun s => P (s.profile n)) (refl n) (fun _ _ _ => of_eq_left) (fun _ _ k hp => k.record ▸ hp) step l
    fun s hs m _ => by
      by_cases e : m = n
      · rw [e, idle s hs]; exact refl n s
      · exact (h s m).keeps (Ne.symm e)

/-! ### The slot map's part (R50) -/

/-- t is s but for its slots and notices of late slots. -/
structure SlotsOnly (s t : State) : Prop where
  state : t = { s with slots := t.slots, ports := t.ports }
  adds  : s.Adds (fun k => ∃ i, k = .slotLate i) t

namespace SlotsOnly

variable {s t u : State}

theorem refl (s : State) : SlotsOnly s s := ⟨rfl, .of_ports rfl⟩

theorem trans (a : SlotsOnly s t) (b : SlotsOnly t u) : SlotsOnly s u :=
  ⟨by rw [b.state, a.state], a.adds.trans b.adds⟩

theorem slotEvent (k : Block) (s : State) (i : SlotId) : SlotsOnly s (slotEvent k s i) := by
  unfold Machine.slotEvent
  extract_lets t s'
  have hs' : SlotsOnly s s' := ⟨rfl, .of_ports rfl⟩
  split
  · exact hs'.trans ⟨by rw [(onlyNotices_notifyOpt s' _ _).state], .notifyOpt s' _ ⟨i, rfl⟩⟩
  · exact hs'

theorem foldl_slotEvent (k : Block) (l : List SlotId) (s : State) : SlotsOnly s (l.foldl (Machine.slotEvent k) s) :=
  foldl_relates (P := fun _ => True) refl (fun _ _ _ => trans) (fun _ _ _ _ => trivial)
    (Machine.slotEvent k) l (fun s _ i _ => slotEvent k s i) s trivial

theorem slotMapEvent (k : Block) (taken : List SlotId) (s : State) : SlotsOnly s (slotMapEvent k taken s) :=
  foldl_slotEvent k _ s

theorem profile (h : SlotsOnly s t) (n : ProfileId) : t.profile n = s.profile n := by rw [h.state]; rfl
theorem engine (h : SlotsOnly s t) : t.engine = s.engine := by rw [h.state]

theorem eventOnly (h : SlotsOnly s t) : EventOnly s t :=
  ⟨by rw [h.state], by rw [h.engine], h.adds.mono fun _ _ => trivial⟩

theorem keeps (h : SlotsOnly s t) (n : ProfileId) : Keeps n Eq s t :=
  ⟨h.eventOnly, (h.profile n).symm, by rw [h.engine], fun d => by rw [h.engine]; exact d,
    h.adds.mono fun k ⟨i, hi⟩ e => by rw [hi] at e; cases e⟩

end SlotsOnly

/-! ### The generator and the checkers at a frame (R1, R169, R173, R174) -/

/-- t is s but for its checkers and their notices. -/
structure CheckersOnly (s t : State) : Prop where
  state : t = { s with checkers := t.checkers, ports := t.ports }
  adds  : s.Adds (fun k => ∃ i, k = .checkerLock i ∨ k = .checkerLost i) t

namespace CheckersOnly

variable {s t u : State}

theorem refl (s : State) : CheckersOnly s s := ⟨rfl, .of_ports rfl⟩

theorem trans (a : CheckersOnly s t) (b : CheckersOnly t u) : CheckersOnly s u :=
  ⟨by rw [b.state, a.state], a.adds.trans b.adds⟩

theorem modChecker (s : State) (i : Fin 2) (f : Checker → Checker) : CheckersOnly s (s.modChecker i f) :=
  ⟨rfl, .of_ports rfl⟩

theorem notifyOpt (s : State) (p : Option Port) {k : Notice} {i : Fin 2} (h : k = .checkerLock i ∨ k = .checkerLost i) :
    CheckersOnly s (s.notifyOpt p k) :=
  ⟨by rw [(onlyNotices_notifyOpt s p k).state], .notifyOpt s p ⟨i, h⟩⟩

theorem checkerFrame (frame : LaneFrame) (s : State) (i : Fin 2) : CheckersOnly s (checkerFrame frame s i) := by
  simp only [Machine.checkerFrame]
  split
  · split
    · exact (modChecker s i _).trans (notifyOpt _ _ (.inl rfl))
    · exact modChecker s i _
  · split
    · exact (modChecker s i _).trans (notifyOpt _ _ (.inr rfl))
    · exact modChecker s i _
  · exact refl s
  · exact refl s

end CheckersOnly

/-- The state that the other blocks find at the block event which this frame brings on: the generator and the checkers have taken
the frame, and the lane has completed the block (R3 to R6). -/
def State.blockCompleted (s : State) (frame : LaneFrame) : State :=
  let l : Lane := { s.lane with frameOpen := false, output := none }
  { frameEvent frame s with lane := l.blockEvent (l.assembly ++ [frame]) }

theorem frameEvent_checkersOnly (frame : LaneFrame) (s : State) :
    CheckersOnly { s with gen := s.gen.frame (sampleNumber (s.lane.blockCounter + 1) s.lane.position.val) }
      (frameEvent frame s) := by
  simp only [frameEvent, List.foldl_cons, List.foldl_nil]
  exact (CheckersOnly.checkerFrame frame _ 0).trans (.checkerFrame frame _ 1)

/-- The frame event changes the generator, the checkers and notices of lock. -/
theorem frameEvent_eq (frame : LaneFrame) (s : State) : frameEvent frame s = { s with
    gen := s.gen.frame (sampleNumber (s.lane.blockCounter + 1) s.lane.position.val)
    checkers := (frameEvent frame s).checkers, ports := (frameEvent frame s).ports } := by
  rw [(frameEvent_checkersOnly frame s).state]

theorem frameEvent_adds (frame : LaneFrame) (s : State) :
    s.Adds (fun k => ∃ i, k = .checkerLock i ∨ k = .checkerLost i) (frameEvent frame s) :=
  (State.Adds.of_ports (s := s) rfl).trans (frameEvent_checkersOnly frame s).adds

section
variable (s : State) (frame : LaneFrame)

@[simp] theorem blockCompleted_profiles : (s.blockCompleted frame).profiles = s.profiles := by
  rw [State.blockCompleted, frameEvent_eq]
@[simp] theorem blockCompleted_profile (n : ProfileId) : (s.blockCompleted frame).profile n = s.profile n := by
  rw [State.profile, blockCompleted_profiles]; rfl
@[simp] theorem blockCompleted_slots : (s.blockCompleted frame).slots = s.slots := by
  rw [State.blockCompleted, frameEvent_eq]
@[simp] theorem blockCompleted_engine : (s.blockCompleted frame).engine = s.engine := by
  rw [State.blockCompleted, frameEvent_eq]
@[simp] theorem blockCompleted_mem : (s.blockCompleted frame).mem = s.mem := by
  rw [State.blockCompleted, frameEvent_eq]
@[simp] theorem blockCompleted_shared : (s.blockCompleted frame).shared = s.shared := by
  rw [State.blockCompleted, frameEvent_eq]
@[simp] theorem blockCompleted_mover : (s.blockCompleted frame).mover = s.mover := by
  rw [State.blockCompleted, frameEvent_eq]
@[simp] theorem blockCompleted_gen : (s.blockCompleted frame).gen
    = s.gen.frame (sampleNumber (s.lane.blockCounter + 1) s.lane.position.val) := by
  rw [State.blockCompleted, frameEvent_eq]
@[simp] theorem blockCompleted_blockCounter : (s.blockCompleted frame).lane.blockCounter = s.lane.blockCounter + 1 := rfl
@[simp] theorem blockCompleted_laneState : (s.blockCompleted frame).lane.state = s.lane.state := rfl

theorem blockCompleted_adds :
    s.Adds (fun k => ∃ i, k = .checkerLock i ∨ k = .checkerLost i) (s.blockCompleted frame) :=
  (frameEvent_adds frame s).trans (.of_ports rfl)

@[simp] theorem blockCompleted_profileInUse (n : ProfileId) :
    (s.blockCompleted frame).profileInUse n = s.profileInUse n := by
  simp [State.profileInUse]

end

/-- FRAME_TAKEN in RUNNING with a frame open. -/
theorem exec_frameTaken {s : State} (frame : LaneFrame) (within : List Moment) (hr : s.lane.state = .running)
    (ho : s.lane.frameOpen = true) :
    exec (.frameTaken ⟨frame, within⟩) s = .next (takeFrame frame within (frameEvent frame s)) := by
  simp only [exec, execFrameTaken, finish, hr, ho, and_self, if_true]

/-- FRAME_TAKEN at position 31 brings on block event B + 1. -/
theorem exec_frameTaken_last {s : State} (frame : LaneFrame) (within : List Moment) (hr : s.lane.state = .running)
    (ho : s.lane.frameOpen = true) (h31 : s.lane.position = 31) :
    exec (.frameTaken ⟨frame, within⟩) s
      = .next (blockEventTaken (s.lane.blockCounter + 1) within (s.blockCompleted frame)) := by
  have hl : (frameEvent frame s).lane = s.lane := by rw [frameEvent_eq]
  rw [exec_frameTaken frame within hr ho]
  simp only [takeFrame, hl, h31, if_true]
  rfl

/-! ### The table's part: references, expiry, copies (R31 to R42) -/

/-- q is p but for what the table's own operations write, the live set, the bank of block B and a commit that does not wait for
the spare staying as they are. -/
structure TableOnly (B : Block) (p q : Profile) : Prop where
  record  : q = { p with
    bank0 := q.bank0, bank1 := q.bank1, refs0 := q.refs0, refs1 := q.refs1, stage := q.stage, flipEvent := q.flipEvent
    expiredCount := q.expiredCount, trim := q.trim, trimBlock := q.trimBlock, ring := q.ring }
  liveSet : q.liveSet = p.liveSet
  bankFor : q.bankFor B = p.bankFor B
  settled : p.stage ≠ .waitingSpare →
    q.stage = p.stage ∧ q.flipEvent = p.flipEvent ∧ q.bank0 = p.bank0 ∧ q.bank1 = p.bank1

namespace TableOnly

variable {B : Block} {p q r : Profile}

theorem refl (B : Block) (p : Profile) : TableOnly B p p := ⟨rfl, rfl, rfl, fun _ => ⟨rfl, rfl, rfl, rfl⟩⟩

theorem trans (a : TableOnly B p q) (b : TableOnly B q r) : TableOnly B p r := by
  refine ⟨by rw [b.record, a.record], b.liveSet.trans a.liveSet, b.bankFor.trans a.bankFor, fun h => ?_⟩
  obtain ⟨s1, f1, x1, y1⟩ := a.settled h
  obtain ⟨s2, f2, x2, y2⟩ := b.settled (s1 ▸ h)
  exact ⟨s2.trans s1, f2.trans f1, x2.trans x1, y2.trans y1⟩

theorem expireBlock (B k : Block) (p : Profile) : TableOnly B p (p.expireBlock k) := by
  unfold Profile.expireBlock
  extract_lets i e p'
  have hp' : p' = { p with ring := p'.ring } := by
    simp only [p']
    split <;> rfl
  rw [hp']
  exact ⟨rfl, rfl, rfl, fun _ => ⟨rfl, rfl, rfl, rfl⟩⟩

theorem setRefs (B : Block) (p : Profile) (b : BankId) (x : Nat) : TableOnly B p (p.setRefs b x) := by
  cases b <;> exact ⟨rfl, rfl, rfl, fun _ => ⟨rfl, rfl, rfl, rfl⟩⟩

/-- A copy goes to the spare bank and flips after block B (R33). -/
theorem copyIfDue (B : Block) (p : Profile) : TableOnly B p (p.copyIfDue B) := by
  unfold Profile.copyIfDue
  split
  · next h =>
    obtain ⟨hs, -⟩ := h
    refine ⟨?_, ?_, ?_, fun h => absurd hs h⟩
    · cases hl : p.live <;> simp [Profile.setBank, Profile.spare, BankId.other, hl]
    · cases hl : p.live <;> simp [Profile.liveSet, Profile.bank, Profile.setBank, Profile.spare, BankId.other, hl]
    · cases hl : p.live <;> simp [Profile.bankFor, Profile.setBank, Profile.spare, BankId.other, hl, hs]
  · exact .refl B p

theorem queueBlock (B k : Block) (p : Profile) : TableOnly B p (p.queueBlock k) := by
  unfold Profile.queueBlock
  extract_lets b p'
  have h : TableOnly B p p' := setRefs B p b _
  exact h.trans ⟨rfl, rfl, rfl, fun _ => ⟨rfl, rfl, rfl, rfl⟩⟩

theorem clockReturn (B : Block) (p : Profile) : TableOnly B p p.clockReturn :=
  ⟨rfl, rfl, rfl, fun _ => ⟨rfl, rfl, rfl, rfl⟩⟩

theorem state (h : TableOnly B p q) : q.state = p.state := by rw [h.record]

end TableOnly

/-- The record after a dropped reference of bank b, B being the block counter: the copy and the end of retirement that may follow
(R21, R33). -/
def Profile.afterDrop (B : Block) (b : BankId) (p : Profile) : Profile :=
  let q := (p.setRefs b (p.refs b - 1)).copyIfDue B
  if q.retired then .cleared else q

theorem freeTest_profile (n : ProfileId) (s : State) :
    (freeTest n s).profile n = if (s.profile n).retired then .cleared else s.profile n := by
  unfold freeTest
  split
  · exact State.profile_modProfile_same _ n _
  · rfl

theorem dropReference_profile (n : ProfileId) (b : BankId) (s : State) :
    (dropReference n b s).profile n = (s.profile n).afterDrop s.lane.blockCounter b := by
  simp only [dropReference, freeTest_profile, tryCopy, Profile.afterDrop, State.profile_modProfile_same,
    State.lane_modProfile]

theorem routeExpired_profile (n : ProfileId) (k : Block) (b : BankId) (s : State) :
    (routeExpired n k b s).profile n = ((s.profile n).expireBlock k).afterDrop s.lane.blockCounter b := by
  rw [routeExpired, dropReference_profile, State.profile_modProfile_same, State.lane_modProfile]

theorem Profile.retired_of_bound {p : Profile} (h : p.state = .bound) : p.retired = false := by
  simp [Profile.retired, h]

theorem freeTest_of_bound {n : ProfileId} {s : State} (h : (s.profile n).state = .bound) : freeTest n s = s := by
  simp [freeTest, Profile.retired_of_bound h]

/-- A dropped reference of a profile that is not freed. -/
theorem TableOnly.afterDrop (B : Block) (b : BankId) {p : Profile} (h : p.state = .bound) :
    TableOnly B p (p.afterDrop B b) := by
  have hq : TableOnly B p ((p.setRefs b (p.refs b - 1)).copyIfDue B) := (setRefs B p b _).trans (copyIfDue B _)
  have hr := Profile.retired_of_bound (hq.state.trans h)
  simpa only [Profile.afterDrop, hr, Bool.false_eq_true, if_false] using hq

/-! ### The engine's part (R64, R65, R83) -/

/-- A record kept as it is goes over as the table may have it. -/
theorem Keeps.table {n : ProfileId} {B : Block} {s t : State} (h : Keeps n Eq s t) : Keeps n (TableOnly B) s t :=
  h.mono (by rintro p _ rfl; exact .refl B p)

theorem Keeps.trans_table {n : ProfileId} {B : Block} {s t u : State} (a : Keeps n (TableOnly B) s t)
    (b : Keeps n (TableOnly B) t u) : Keeps n (TableOnly B) s u := a.trans (fun h g => h.trans g) b

/-- What the engine has the table do for each entry of a list, step by step: a BOUND profile keeps all but the table's fields. -/
theorem Keeps.foldl_table {α : Type} {n : ProfileId} {B : Block} (about : α → ProfileId) (step : State → α → State)
    (turn : ∀ s a, ProfileTurn (about a) s (step s a))
    (own : ∀ s a, about a = n → s.lane.blockCounter = B → (s.profile n).state = .bound →
      Keeps n (TableOnly B) s (step s a))
    (l : List α) (s : State) (hB : s.lane.blockCounter = B) (hb : (s.profile n).state = .bound) :
    Keeps n (TableOnly B) s (l.foldl step s) := by
  refine foldl_relates (P := fun s => s.lane.blockCounter = B ∧ (s.profile n).state = .bound)
    (fun s => (Keeps.refl n s).table) (fun _ _ _ => Keeps.trans_table)
    (fun s t k h => ⟨(congrArg Lane.blockCounter k.event.lane).trans h.1, k.record.state.trans h.2⟩) step l
    (fun s ⟨hB, hb⟩ a _ => ?_) s ⟨hB, hb⟩
  by_cases e : about a = n
  · exact own s a e hB hb
  · exact ((turn s a).keeps (Ne.symm e)).table

/-- A dropped reference of a BOUND profile. -/
theorem Keeps.dropReference {n : ProfileId} (b : BankId) {s : State} (hb : (s.profile n).state = .bound) :
    Keeps n (TableOnly s.lane.blockCounter) s (dropReference n b s) := by
  have hbound : ((tryCopy n (s.modProfile n fun p => p.setRefs b (p.refs b - 1))).profile n).state = .bound := by
    simp only [tryCopy, State.profile_modProfile_same]
    exact ((TableOnly.setRefs s.lane.blockCounter _ b _).trans (.copyIfDue _ _)).state.trans hb
  have heq : Machine.dropReference n b s = tryCopy n (s.modProfile n fun p => p.setRefs b (p.refs b - 1)) :=
    freeTest_of_bound hbound
  refine ⟨(ProfileTurn.dropReference n b s).eventOnly, ?_, ?_, ?_, ?_⟩
  · rw [dropReference_profile]; exact .afterDrop _ b hb
  all_goals rw [heq]
  · rfl
  · exact id
  · exact .of_ports rfl

/-- The engine without some of its route entries. -/
theorem Keeps.setRoutes (n : ProfileId) (s : State) (l : List RouteEntry) :
    Keeps n Eq s { s with engine := { s.engine with routes := l } } :=
  ⟨⟨rfl, rfl, .of_ports rfl⟩, rfl, rfl, id, .of_ports rfl⟩

/-- The expiry at block event B leaves a BOUND profile all but the table's fields. -/
theorem Keeps.expireRoutes {n : ProfileId} {B : Block} (k : Block) {s : State} (hB : s.lane.blockCounter = B)
    (hb : (s.profile n).state = .bound) : Keeps n (TableOnly B) s (expireRoutes k s) := by
  refine of_eq_left (setRoutes n s _) (foldl_table RouteEntry.profile _ (fun s e => .routeExpired _ _ _ s) ?_ _ _ hB hb)
  rintro s e rfl hB hb
  have hx : Keeps e.profile (TableOnly B) s (s.modProfile e.profile fun p => p.expireBlock e.block) :=
    ⟨(ProfileTurn.modProfile _ s _).eventOnly, by rw [State.profile_modProfile_same]; exact .expireBlock B _ _, rfl, id,
      .of_ports rfl⟩
  subst hB
  exact hx.trans_table (dropReference e.bank (hx.record.state.trans hb))

/-- Clock return drops the references of the WAITING entries (R42, R83). -/
theorem Keeps.removeRoutes {n : ProfileId} {B : Block} {s : State} (hB : s.lane.blockCounter = B)
    (hb : (s.profile n).state = .bound) : Keeps n (TableOnly B) s (removeRoutes s) := by
  refine of_eq_left (setRoutes n s _) (foldl_table RouteEntry.profile _ (fun s e => .dropReference _ _ s) ?_ _ _ hB hb)
  rintro s e rfl rfl hb
  exact dropReference e.bank hb

/-- A fold of turns leaves the route queue. -/
theorem foldl_turns_routes {α : Type} (about : α → ProfileId) (step : State → α → State)
    (turn : ∀ s a, ProfileTurn (about a) s (step s a)) (l : List α) (s : State) :
    (l.foldl step s).engine.routes = s.engine.routes ∧ (l.foldl step s).slots = s.slots :=
  foldl_relates (P := fun _ => True) (Rel := fun s t => t.engine.routes = s.engine.routes ∧ t.slots = s.slots)
    (fun _ => ⟨rfl, rfl⟩) (fun _ _ _ a b => ⟨b.1.trans a.1, b.2.trans a.2⟩) (fun _ _ _ _ => trivial) step l
    (fun s _ a _ => ⟨(turn s a).routes, (turn s a).slots⟩) s trivial

theorem expireRoutes_routes (k : Block) (s : State) :
    (expireRoutes k s).engine.routes = s.engine.routes.filter fun e => !(!e.running && e.deadline == k) :=
  (foldl_turns_routes RouteEntry.profile _ (fun s _ => .routeExpired _ _ _ s) _ _).1

theorem expireRoutes_slots (k : Block) (s : State) : (expireRoutes k s).slots = s.slots :=
  (foldl_turns_routes RouteEntry.profile _ (fun s _ => .routeExpired _ _ _ s) _ _).2

theorem removeRoutes_routes (s : State) : (removeRoutes s).engine.routes = s.engine.routes.filter fun e => e.running :=
  (foldl_turns_routes RouteEntry.profile _ (fun s _ => .dropReference _ _ s) _ _).1

theorem removeRoutes_slots (s : State) : (removeRoutes s).slots = s.slots :=
  (foldl_turns_routes RouteEntry.profile _ (fun s _ => .dropReference _ _ s) _ _).2

theorem EventOnly.expireRoutes (k : Block) (s : State) : EventOnly s (expireRoutes k s) :=
  (Keeps.setRoutes 0 s _).event.trans (.foldl (fun s (e : RouteEntry) => routeExpired e.profile e.block e.bank s)
    (fun s e => (ProfileTurn.routeExpired e.profile e.block e.bank s).eventOnly) _ _)

theorem EventOnly.removeRoutes (s : State) : EventOnly s (removeRoutes s) :=
  (Keeps.setRoutes 0 s _).event.trans (.foldl (fun s (e : RouteEntry) => dropReference e.profile e.bank s)
    (fun s e => (ProfileTurn.dropReference e.profile e.bank s).eventOnly) _ _)

/-- The engine asks for a route pass of profile n (R51, R65). -/
def State.asksFor (s : State) (taken : List SlotId) (n : ProfileId) : Bool :=
  (s.profile n).state == .bound && s.profileActive taken n

/-- The route entry of block k that the engine appends for profile n (R65). -/
def State.newRoute (s : State) (k : Block) (n : ProfileId) : RouteEntry :=
  ⟨n, k, (s.profile n).bankFor k, k + 2, false, .start (Vector.replicate 5 0), []⟩

/-- What the engine's question does for the profiles of a list: an entry for each that it asks for, and the request to suspend. -/
structure RoutesQueued (k : Block) (taken : List SlotId) (l : List ProfileId) (s t : State) : Prop where
  state    : t = { s with profiles := t.profiles, engine := t.engine }
  engine   : t.engine = { s.engine with
    routes := s.engine.routes ++ (l.filter (s.asksFor taken)).map (s.newRoute k)
    suspendAsked := s.engine.suspendAsked || (l.any (s.asksFor taken) && s.engine.mac.runsSuspendable) }
  profile  : ∀ n, t.profile n = if n ∈ l ∧ s.asksFor taken n = true then (s.profile n).queueBlock k else s.profile n

theorem Profile.state_queueBlock (p : Profile) (k : Block) : (p.queueBlock k).state = p.state :=
  (TableOnly.queueBlock k k p).state

theorem RoutesQueued.asksFor {k : Block} {taken : List SlotId} {l : List ProfileId} {s t : State}
    (h : RoutesQueued k taken l s t) : t.asksFor taken = s.asksFor taken := by
  funext n
  have hactive : t.profileActive taken n = s.profileActive taken n := by rw [h.state]; rfl
  have hstate : (t.profile n).state = (s.profile n).state := by
    rw [h.profile]
    split
    · exact Profile.state_queueBlock _ k
    · rfl
  rw [State.asksFor, hactive, hstate, State.asksFor]

theorem queueActive_queued (k : Block) (taken : List SlotId) (s : State) (n : ProfileId) :
    RoutesQueued k taken [n] s (queueActive k taken s n) := by
  by_cases h : (s.profile n).state = .bound ∧ s.profileActive taken n = true
  · have ha : s.asksFor taken n = true := by simp [State.asksFor, h]
    rw [queueActive, if_pos h]
    refine ⟨rfl, ?_, fun m => ?_⟩
    · simp [queueRoute, ha, State.newRoute]
    · refine (State.profile_modProfile s n m fun p => p.queueBlock k).trans ?_
      by_cases e : m = n
      · subst e; simp [ha]
      · simp [e]
  · have ha : s.asksFor taken n = false := by
      simpa [State.asksFor] using h
    rw [queueActive, if_neg h]
    refine ⟨rfl, by simp [ha], fun m => ?_⟩
    rw [if_neg]
    rintro ⟨hm, hq⟩
    rw [List.mem_singleton.mp hm, ha] at hq
    cases hq

/-- The question for a list of profiles, each once. -/
theorem foldl_queueActive_queued (k : Block) (taken : List SlotId) {l : List ProfileId} (hl : l.Nodup) :
    ∀ s, RoutesQueued k taken l s (l.foldl (queueActive k taken) s) := by
  induction l with
  | nil => exact fun s => ⟨rfl, by simp, fun n => by simp⟩
  | cons a l ih =>
    intro s
    obtain ⟨ha, hl⟩ := List.nodup_cons.mp hl
    have h1 := queueActive_queued k taken s a
    have h2 := ih hl (queueActive k taken s a)
    have kept (n : ProfileId) (hn : n ≠ a) : (queueActive k taken s a).profile n = s.profile n := by
      rw [h1.profile, if_neg]
      rintro ⟨hm, -⟩
      exact hn (List.mem_singleton.mp hm)
    have entries : (l.filter (s.asksFor taken)).map ((queueActive k taken s a).newRoute k)
        = (l.filter (s.asksFor taken)).map (s.newRoute k) := by
      refine List.map_congr_left fun n hn => ?_
      have hne : n ≠ a := fun e => ha (e ▸ (List.mem_filter.mp hn).1)
      rw [State.newRoute, kept n hne, State.newRoute]
    rw [List.foldl_cons]
    refine ⟨by rw [h2.state, h1.state], ?_, fun n => ?_⟩
    · rw [h2.engine, h1.asksFor, entries, h1.engine]
      cases hq : s.asksFor taken a <;> simp [hq, Bool.or_assoc]
      cases s.engine.mac.runsSuspendable <;> simp
    · rw [h2.profile, h1.asksFor]
      by_cases e : n = a
      · subst e
        rw [if_neg (fun h => ha h.1), h1.profile]
        simp
      · rw [kept n e]
        simp [e]

theorem RoutesQueued.keeps {k B : Block} {taken : List SlotId} {l : List ProfileId} {s t : State}
    (h : RoutesQueued k taken l s t) (n : ProfileId) : Keeps n (TableOnly B) s t := by
  have hports : t.ports = s.ports := by rw [h.state]
  refine ⟨⟨by rw [h.state], by rw [h.engine], .of_ports hports⟩, ?_, by rw [h.engine]; rfl, fun d => by rw [h.engine]; exact d,
    .of_ports hports⟩
  rw [h.profile]
  split
  · exact .queueBlock B k _
  · exact .refl B _

/-- The engine's whole part of block event k. -/
theorem engineRest_queued (k : Block) (taken : List SlotId) (s : State) :
    RoutesQueued k taken allProfiles (expireRoutes k s) (engineRest k taken 0 s) :=
  foldl_queueActive_queued k taken nodup_allProfiles _

/-- The engine's whole part of block event k leaves a BOUND profile all but the table's fields. -/
theorem Keeps.engineRest {n : ProfileId} {B : Block} (k : Block) (taken : List SlotId) {s : State}
    (hB : s.lane.blockCounter = B) (hb : (s.profile n).state = .bound) :
    Keeps n (TableOnly B) s (engineRest k taken 0 s) :=
  (expireRoutes k hB hb).trans_table ((engineRest_queued k taken s).keeps n)

theorem EventOnly.engineRest (k : Block) (taken : List SlotId) (s : State) : EventOnly s (engineRest k taken 0 s) :=
  (expireRoutes k s).trans ((engineRest_queued k taken s).keeps 0 (B := k)).event

/-! ### FRAME_TAKEN (R1, R3, R5, R6, R169, R170) -/

theorem EventOnly.controllerBlockEvent (k : Block) (treated flipped : List ProfileId) (s : State) :
    EventOnly s (controllerBlockEvent k treated flipped s) := by
  have choices : EventOnly s { s with choices := s.choices + 1 } := ⟨rfl, rfl, .of_ports rfl⟩
  exact choices.trans (.foldl _ (fun s n => (ProfileTurn.controllerEvent k flipped s n).eventOnly) _ _)

theorem EventOnly.bankFlips (k : Block) (s : State) : EventOnly s (bankFlips k s) :=
  .foldl _ (fun s n => (ProfileTurn.bankFlip k s n).eventOnly) _ s

/-- A block event with nothing else falling within it. -/
theorem EventOnly.blockEventTaken_nil (k : Block) (s : State) : EventOnly s (blockEventTaken k [] s) := by
  rw [Machine.blockEventTaken_nil]
  exact (((engineRest k [] s).trans (controllerBlockEvent k [] [] _)).trans (bankFlips k _)).trans
    (SlotsOnly.slotMapEvent k [] _).eventOnly

end Sys2Proof.Machine

namespace Sys2Proof.Machine

/-- A running generator at a frame: its sample is the current output and stands in the history under its number (R169, R170). -/
theorem Generator.frame_of_running {g : Generator} (hg : g.running = true) (number : Block) :
    g.frame number = { g.next.2 with current := g.next.1, history := (g.frame number).history }
      ∧ (g.frame number).held number = some g.next.1
      ∧ ∀ m : Block, m.toNat % 512 ≠ number.toNat % 512 → (g.frame number).held m = g.held m := by
  have hf : g.frame number = g.next.2.record number g.next.1 := by simp only [Generator.frame, hg, if_true]
  rw [hf]
  refine ⟨rfl, Generator.held_record_same _ number _, fun m hm => ?_⟩
  rw [Generator.held_record_ne _ _ hm]
  simp only [Generator.held, Generator.next_history]

theorem Generator.frame_of_stopped {g : Generator} (hg : g.running = false) (number : Block) : g.frame number = g := by
  simp [Generator.frame, hg]

/-- What FRAME_TAKEN leaves when nothing else falls within the block event that it may bring on. -/
theorem exec_frameTaken_event {s : State} {frame : LaneFrame} {within : List Moment} (hr : s.lane.state = .running)
    (ho : s.lane.frameOpen = true) (hw : s.lane.position = 31 → within = []) :
    ∃ t, exec (.frameTaken ⟨frame, within⟩) s = .next t
      ∧ t.gen = s.gen.frame (sampleNumber (s.lane.blockCounter + 1) s.lane.position.val)
      ∧ t.mem = s.mem ∧ t.shared = s.shared ∧ t.mover = s.mover ∧ s.Adds (fun _ => True) t
      ∧ (s.lane.position.val < 31 →
        t.lane = { s.lane with
          assembly := s.lane.assembly ++ [frame], position := s.lane.position + 1, frameOpen := false, output := none }
        ∧ t.profiles = s.profiles ∧ t.slots = s.slots ∧ t.engine = s.engine)
      ∧ (s.lane.position = 31 → EventOnly (s.blockCompleted frame) t) := by
  have adds := (frameEvent_adds frame s).mono (L := fun _ => True) fun _ _ => trivial
  by_cases h31 : s.lane.position = 31
  · have hevent := EventOnly.blockEventTaken_nil (s.lane.blockCounter + 1) (s.blockCompleted frame)
    have adds' : s.Adds (fun _ => True) (s.blockCompleted frame) := adds.trans (.of_ports rfl)
    obtain rfl := hw h31
    refine ⟨_, exec_frameTaken_last frame [] hr ho h31, ?_, ?_, ?_, ?_, adds'.trans hevent.adds,
      fun h => absurd (congrArg Fin.val h31) (Nat.ne_of_lt h), fun _ => hevent⟩ <;> rw [hevent.state] <;> simp
  · have hpos : (frameEvent frame s).lane.position ≠ 31 := by rw [frameEvent_eq]; exact h31
    refine ⟨_, exec_frameTaken frame within hr ho, ?_⟩
    rw [takeFrame_of_lt hpos]
    refine ⟨?_, ?_, ?_, ?_, adds.trans (.of_ports rfl), fun _ => ⟨?_, ?_, ?_, ?_⟩, fun h => absurd h h31⟩ <;>
      rw [frameEvent_eq]

/-- Settles O5: the generator takes the frame before the lane does, and no part of the block event but the lane's own writes the
lane, the generator or the memory. -/
theorem frameTakenFillsBlock : Obligations.FrameTakenFillsBlock := by
  intro s frame within hr ho hw
  obtain ⟨t, hexec, hgen, hmem, hshared, hmover, hadds, hbefore, hlast⟩ := exec_frameTaken_event (frame := frame) hr ho hw
  refine ⟨t, hexec, fun hg => ?_, fun hg => ?_, hmem, hshared, hmover, fun p => ?_, hbefore, fun h31 => ?_⟩
  · rw [hgen]
    exact Generator.frame_of_running hg _
  · rw [hgen, Generator.frame_of_stopped hg]
  · rw [hadds.port p]
  · have hevent := hlast h31
    refine ⟨?_, ?_, ?_, ?_⟩
    · rw [hevent.lane]
      have hv : s.lane.blockCounter + 1 + 1 = s.lane.blockCounter + 2 := by bv_omega
      have hk : s.lane.blockCounter + 1 - 7 = s.lane.blockCounter - 6 := by bv_omega
      simp only [State.blockCompleted, Lane.blockEvent, hv, hk]
    all_goals rw [hevent.engine, blockCompleted_engine]

end Sys2Proof.Machine

namespace Sys2Proof.Machine

/-! ### The adaptation of one profile, from one moment to a later one -/

/-- Keeps without its frame on the rest of the part. -/
structure Spares (n : ProfileId) (R : Profile → Profile → Prop) (s t : State) : Prop where
  record   : R (s.profile n) (t.profile n)
  probes   : t.engine.probesOf n = s.engine.probesOf n
  draining : s.engine.mac = .draining → t.engine.mac = .draining
  adds     : s.Adds (fun k => k ≠ .adaptDone n) t

theorem Keeps.spares {n : ProfileId} {R : Profile → Profile → Prop} {s t : State} (h : Keeps n R s t) : Spares n R s t :=
  ⟨h.record, h.probes, h.draining, h.adds⟩

theorem Spares.trans {n : ProfileId} {R S Q : Profile → Profile → Prop} {s t u : State}
    (hR : ∀ {p q r}, R p q → S q r → Q p r) (a : Spares n R s t) (b : Spares n S t u) : Spares n Q s u :=
  ⟨hR a.record b.record, b.probes.trans a.probes, fun h => b.draining (a.draining h), a.adds.trans b.adds⟩

/-- The two records agree in what the controller reads and writes. -/
structure SameControl (p q : Profile) : Prop where
  same      : q.SameAdaptation p
  liveSet   : q.liveSet = p.liveSet
  leader    : q.leader = p.leader
  followers : q.followers = p.followers
  config    : q.config = p.config

theorem Profile.SameAdaptation.refl (p : Profile) : p.SameAdaptation p := ⟨rfl, rfl, rfl, rfl, rfl, rfl, rfl⟩

theorem Profile.SameAdaptation.trans {p q r : Profile} (a : p.SameAdaptation q) (b : q.SameAdaptation r) :
    p.SameAdaptation r := by
  obtain ⟨a1, a2, a3, a4, a5, a6, a7⟩ := a
  obtain ⟨b1, b2, b3, b4, b5, b6, b7⟩ := b
  exact ⟨a1.trans b1, a2.trans b2, a3.trans b3, a4.trans b4, a5.trans b5, a6.trans b6, a7.trans b7⟩

namespace SameControl

variable {p q r : Profile}

theorem trans (a : SameControl p q) (b : SameControl q r) : SameControl p r :=
  ⟨b.same.trans a.same, b.liveSet.trans a.liveSet, b.leader.trans a.leader, b.followers.trans a.followers,
    b.config.trans a.config⟩

theorem windowTo (h : SameControl p q) (b : Block) : q.windowTo b = p.windowTo b := by
  obtain ⟨-, -, hc, -⟩ := h.same
  simp only [Profile.windowTo, hc, h.config]

theorem probeTarget (h : SameControl p q) : q.probeTarget = p.probeTarget := by
  simp only [Profile.probeTarget, h.config, h.leader]

theorem restarted (h : SameControl p q) :
    SameControl { p with restartRun := p.restartRun + 1 } { q with restartRun := q.restartRun + 1 } := by
  obtain ⟨ha, hs, hc, ho, hr, hp, hf⟩ := h.same
  exact ⟨⟨ha, hs, hc, ho, congrArg (· + 1) hr, hp, hf⟩, h.liveSet, h.leader, h.followers, h.config⟩

end SameControl

theorem TableOnly.sameControl {B : Block} {p q : Profile} (h : TableOnly B p q) : SameControl p q := by
  refine ⟨⟨?_, ?_, ?_, ?_, ?_, ?_, ?_⟩, h.liveSet, ?_, ?_, ?_⟩ <;> rw [h.record]

theorem Keeps.control {n : ProfileId} {B : Block} {s t : State} (h : Keeps n (TableOnly B) s t) :
    Spares n SameControl s t := (h.mono TableOnly.sameControl).spares

theorem Spares.trans_control {n : ProfileId} {s t u : State} (a : Spares n SameControl s t)
    (b : Spares n SameControl t u) : Spares n SameControl s u := a.trans (fun h g => h.trans g) b

/-! ### How an adaptation fails (R71, R103) -/

/-- The probe queue holds the probes of profile n that its record says it has (R68, R92, R93). -/
def State.ProbeCounted (s : State) (n : ProfileId) : Prop :=
  (s.engine.probesOf n).length = boolNat (s.profile n).probeRef
    ∧ (s.profile n).search.window.isSome = (s.profile n).probeRef

theorem State.ProbesCounted.probeCounted {s : State} (h : s.ProbesCounted) (n : ProfileId) : s.ProbeCounted n := h n

theorem Spares.probeCounted {n : ProfileId} {s t : State} (h : Spares n SameControl s t) (hc : s.ProbeCounted n) :
    t.ProbeCounted n := by
  obtain ⟨-, hs, -, -, -, -, hf⟩ := h.record.same
  rw [State.ProbeCounted, h.probes, hs, hf]
  exact hc

/-- No probe reference, no probe. -/
theorem State.ProbeCounted.none {s : State} {n : ProfileId} (h : s.ProbeCounted n) (hf : (s.profile n).probeRef = false) :
    s.engine.probesOf n = [] := by
  have hl := h.1
  rw [hf] at hl
  exact List.eq_nil_of_length_eq_zero hl

/-- A probe of profile n is the only one, and the one that the controller finds. -/
theorem State.ProbeCounted.only {s : State} {n : ProfileId} (h : s.ProbeCounted n) {x : ProbeEntry}
    (hx : x ∈ s.engine.probes) (hn : x.profile = n) :
    s.engine.probesOf n = [x] ∧ s.engine.probeOf n = some x ∧ (s.profile n).probeRef = true := by
  have hm : x ∈ s.engine.probesOf n := Engine.mem_probesOf.mpr ⟨hx, hn⟩
  have hl := h.1
  cases hf : (s.profile n).probeRef with
  | false => rw [h.none hf] at hm; cases hm
  | true =>
    rw [hf] at hl
    obtain ⟨y, hy⟩ := List.length_eq_one_iff.mp hl
    rw [hy] at hm
    obtain rfl := List.mem_singleton.mp hm
    exact ⟨hy, by rw [Engine.probeOf_eq_head?, hy]; rfl, rfl⟩

/-- A withdrawal from a BOUND profile (R71). -/
theorem withdrawProbe_bound {s : State} {n : ProfileId} (hb : (s.profile n).state = .bound) (hc : s.ProbeCounted n) :
    (withdrawProbe n s).engine.probesOf n = [] ∧ (withdrawProbe n s).profile n = { s.profile n with probeRef := false } := by
  cases hx : s.engine.probeOf n with
  | none =>
    have hnil : s.engine.probesOf n = [] := by rwa [Engine.probeOf_eq_head?, List.head?_eq_none_iff] at hx
    have hf : (s.profile n).probeRef = false := by
      have hl := hc.1
      rw [hnil] at hl
      cases h : (s.profile n).probeRef with
      | false => rfl
      | true => rw [h] at hl; cases hl
    have hw : withdrawProbe n s = s := by simp only [withdrawProbe, hx]
    rw [hw]
    exact ⟨hnil, by rw [← hf]⟩
  | some x =>
    simp only [withdrawProbe, hx]
    rw [freeTest_of_bound (by rw [State.profile_modProfile_same]; exact hb)]
    refine ⟨?_, State.profile_modProfile_same _ n _⟩
    simp [Engine.probesOf]

theorem OnlyNotices.profile {s t : State} (h : OnlyNotices s t) (n : ProfileId) : t.profile n = s.profile n := by
  rw [h.state]; rfl

theorem OnlyNotices.engine {s t : State} (h : OnlyNotices s t) : t.engine = s.engine := by rw [h.state]

/-- The end of a BOUND profile's adaptation without a commit (R103). -/
theorem endAdaptation_fails {s : State} {n : ProfileId} (o : Outcome) (hb : (s.profile n).state = .bound)
    (hc : s.ProbeCounted n) : (endAdaptation n o s).Fails n (s.profile n) o := by
  obtain ⟨hnil, hp⟩ := withdrawProbe_bound hb hc
  unfold endAdaptation
  extract_lets s'
  have hnotices : OnlyNotices s' (s'.notifyMembers n (.adaptDone n)) := onlyNotices_notifyMembers s' n _
  have hs' : s'.profile n = { s.profile n with
      candidate := (s.profile n).liveSet, lastOutcome := o, adapt := .idle, probeRef := false
      search := { (s.profile n).search with phase := .none, window := none } } := by
    simp only [s', State.profile_modProfile_same, hp]
    rfl
  refine ⟨?_, ?_, fun q hq => ?_⟩
  · rw [hnotices.profile, hs']
    exact .refl _
  · rw [hnotices.engine]
    exact Engine.probesOf_eq_nil.mp hnil
  · refine State.told_notifyMembers (Notices.setBy_adaptDone n) s' n ?_
    rw [hs']
    exact hq

/-- A failure stays as it is told. -/
theorem State.Fails.later {t u : State} {n : ProfileId} {p : Profile} {o : Outcome} (h : t.Fails n p o)
    (k : Spares n SameControl t u) : u.Fails n p o := by
  obtain ⟨hsame, hnil, htold⟩ := h
  exact ⟨k.record.same.trans hsame, Engine.probesOf_eq_nil.mp (k.probes.trans (Engine.probesOf_eq_nil.mpr hnil)),
    fun q hq => k.adds.kept (Notices.setBy_adaptDone n) (htold q hq)⟩

/-- A failure from a record is one from an earlier record with the same control fields. -/
theorem State.Fails.earlier {t : State} {n : ProfileId} {p q : Profile} {o : Outcome} (h : t.Fails n q o)
    (k : SameControl p q) : t.Fails n p o := by
  obtain ⟨hsame, hnil, htold⟩ := h
  obtain ⟨-, hs, -, -, hr, hp, -⟩ := k.same
  refine ⟨hsame.trans ⟨rfl, ?_, k.liveSet, rfl, hr, hp, rfl⟩, hnil, fun x hx => htold x ?_⟩
  · simp only [hs]
  · rw [k.leader, k.followers]
    exact hx

/-! ### A probe that overruns (R70, R94, R95) -/

/-- The trial sets of a record have its candidate's taps. -/
theorem Profile.tapCount_trialSet (p : Profile) : p.trialSet.tapCount = p.candidate.tapCount := by
  unfold Profile.trialSet
  extract_lets q
  split
  · rfl
  · rfl
  · rfl
  · split <;> rfl
  · rfl
  · rfl

theorem Profile.windowAt_eq_windowTo (p : Profile) (b : Block) : p.windowAt b = p.windowTo b := by
  simp only [Profile.windowAt, Profile.windowTo, probeBlocks, Profile.tapCount_trialSet]

theorem overrun_restarts {s : State} {n : ProfileId} (b : Block) (h : (s.profile n).restartRun < 7) :
    overrun n b s = restartProbe n ((s.profile n).windowTo b) (s.modProfile n fun p => { p with
      restartRun := p.restartRun + 1, search := { p.search with window := some ((s.profile n).windowTo b) } }) := by
  have hl : (s.profile n).restartRun + 1 < Config.restartLimit := Nat.succ_lt_succ h
  simp only [overrun, hl, if_true, Profile.windowAt_eq_windowTo, State.modSearch, State.modProfile_modProfile]

theorem overrun_starves {s : State} {n : ProfileId} (b : Block) (h : 7 ≤ (s.profile n).restartRun) :
    overrun n b s = endAdaptation n .starved (s.modProfile n fun p => { p with restartRun := p.restartRun + 1 }) := by
  have hl : ¬ (s.profile n).restartRun + 1 < Config.restartLimit := Nat.not_lt.mpr (Nat.succ_le_succ h)
  simp only [overrun, hl, if_false]

@[simp] theorem restartProbe_profile (n m : ProfileId) (w : ProbeWindow) (s : State) :
    (restartProbe n w s).profile m = s.profile m := rfl

/-- Ending an adaptation throws its running probe away. -/
theorem endAdaptation_draining {s : State} {n : ProfileId} {x : ProbeEntry} (o : Outcome) (h : s.engine.probeOf n = some x)
    (hx : x.condition = .running) : (endAdaptation n o s).engine.mac = .draining := by
  have hw : (withdrawProbe n s).engine.mac = .draining := by
    simp only [withdrawProbe, h]
    exact (ProfileTurn.freeTest n _).draining (Engine.dropRunningProbe_mac h hx)
  unfold endAdaptation
  rw [(onlyNotices_notifyMembers _ n _).engine]
  exact hw

theorem overrun_overruns {s : State} {n : ProfileId} (b : Block) (hb : (s.profile n).state = .bound)
    (hc : s.ProbeCounted n) : State.Overruns s (overrun n b s) n b := by
  have hbump (f : Profile → Profile) : (s.modProfile n f).engine = s.engine := rfl
  rcases Nat.lt_or_ge (s.profile n).restartRun 7 with h7 | h7
  · rw [overrun_restarts b h7]
    refine ⟨fun x hx hn => ⟨fun hr => ?_, fun _ => ?_⟩, fun _ => ?_, fun h => absurd h (Nat.not_le.mpr h7)⟩
    · exact Engine.dropRunningProbe_mac (hc.only hx hn).2.1 hr
    · obtain ⟨hone, -, -⟩ := hc.only hx hn
      refine (Engine.mem_probesOf (n := n)).mp ?_ |>.1
      simp only [restartProbe, Engine.probesOf, Engine.probes_dropRunningProbe, hbump]
      rw [filter_updateFirst _ _ (fun y hy => by simpa [ProbeEntry.reset] using hy) hone]
      exact List.mem_cons_self
    · rw [restartProbe_profile, State.profile_modProfile_same]
      exact .refl _
  · rw [overrun_starves b h7]
    have hp := State.profile_modProfile_same s n fun p => { p with restartRun := p.restartRun + 1 }
    refine ⟨fun x hx hn => ⟨fun hr => ?_, fun h => absurd h (Nat.not_lt.mpr h7)⟩, fun h => absurd h (Nat.not_lt.mpr h7),
      fun _ => ?_⟩
    · exact endAdaptation_draining .starved (hc.only hx hn).2.1 hr
    · have hf := endAdaptation_fails (n := n) .starved
        (s := s.modProfile n fun p => { p with restartRun := p.restartRun + 1 }) (by rw [hp]; exact hb)
        (by rw [State.ProbeCounted, hp]; exact hc)
      rwa [hp] at hf

/-- An overrun that comes after what spares the profile, and before what spares it. -/
theorem State.Overruns.within {s u v t : State} {n : ProfileId} {b : Block} (before : Spares n SameControl s u)
    (h : State.Overruns u v n b) (after : Spares n SameControl v t) : State.Overruns s t n b := by
  obtain ⟨hprobe, hgoes, hends⟩ := h
  obtain ⟨-, hs, -, -, hr, -, -⟩ := before.record.same
  have hw := before.record.windowTo b
  rw [hr] at hprobe hgoes hends
  refine ⟨fun x hx hn => ?_, fun h7 => ?_, fun h7 => ?_⟩
  · have hm : x ∈ u.engine.probes ∧ x.profile = n := by
      rw [← Engine.mem_probesOf, before.probes]
      exact Engine.mem_probesOf.mpr ⟨hx, hn⟩
    obtain ⟨hd, hnew⟩ := hprobe x hm.1 hm.2
    refine ⟨fun hrun => after.draining (hd hrun), fun h7 => ?_⟩
    have hnew' := Engine.mem_probesOf.mpr ⟨hnew h7, hn⟩
    rw [← after.probes, hw] at hnew'
    exact (Engine.mem_probesOf.mp hnew').1
  · refine after.record.same.trans ((hgoes h7).trans ?_)
    obtain ⟨ha, -, hcand, ho, -, hp, hf⟩ := before.record.same
    exact ⟨ha, by simp only [hs, hw], hcand, ho, rfl, hp, hf⟩
  · have hfail := (hends h7).later after
    rw [← hr] at hfail
    exact hfail.earlier before.record.restarted

end Sys2Proof.Machine

namespace Sys2Proof.Machine

/-! ### Clock return (R9, R16, R42, R83, R95) -/

/-- The record holds no output: every output ring entry is without a block, and the trim history is empty (R42). -/
def Profile.Flushed (p : Profile) : Prop :=
  (∀ e : Fin 4, (p.ring.get e).block = none) ∧ p.trim = Vector.replicate 5 0 ∧ p.trimBlock = none

namespace Profile.Flushed

variable {p q : Profile}

theorem entryState (h : p.Flushed) (j : Block) : p.entryState j = .none := by
  simp [Profile.entryState, h.1 (ringIndex j)]

theorem of_eq (h : p.Flushed) (hr : q.ring = p.ring) (ht : q.trim = p.trim) (hb : q.trimBlock = p.trimBlock) : q.Flushed := by
  rw [Flushed, hr, ht, hb]
  exact h

theorem clockReturn (p : Profile) : p.clockReturn.Flushed := ⟨fun e => by simp [Profile.clockReturn], rfl, rfl⟩

theorem cleared : Profile.cleared.Flushed :=
  ⟨fun e => by rw [show Profile.cleared.ring.get e = .cleared from get_replicate _ e]; rfl, rfl, rfl⟩

theorem afterDrop (h : p.Flushed) (B : Block) (b : BankId) : (p.afterDrop B b).Flushed := by
  have hs : (p.setRefs b (p.refs b - 1)).Flushed := by cases b <;> exact h.of_eq rfl rfl rfl
  have hc : ((p.setRefs b (p.refs b - 1)).copyIfDue B).Flushed := by
    unfold Profile.copyIfDue
    split
    · generalize p.setRefs b (p.refs b - 1) = r at hs
      cases hl : r.spare <;> exact hs.of_eq rfl rfl rfl
    · exact hs
  simp only [Profile.afterDrop]
  split
  · exact cleared
  · exact hc

theorem freeTest {n : ProfileId} {s : State} (h : (s.profile n).Flushed) : ((freeTest n s).profile n).Flushed := by
  rw [freeTest_profile]
  split
  · exact cleared
  · exact h

theorem withdrawProbe {n : ProfileId} {s : State} (h : (s.profile n).Flushed) : ((withdrawProbe n s).profile n).Flushed := by
  unfold Machine.withdrawProbe
  split
  · exact h
  · refine freeTest ?_
    rw [State.profile_modProfile_same]
    exact h.of_eq rfl rfl rfl

theorem endAdaptation {n : ProfileId} {s : State} (o : Outcome) (h : (s.profile n).Flushed) :
    ((endAdaptation n o s).profile n).Flushed := by
  unfold Machine.endAdaptation
  rw [(onlyNotices_notifyMembers _ n _).profile, State.profile_modProfile_same]
  exact (withdrawProbe h).of_eq rfl rfl rfl

theorem overrun {n : ProfileId} {s : State} (b : Block) (h : (s.profile n).Flushed) : ((overrun n b s).profile n).Flushed := by
  rcases Nat.lt_or_ge (s.profile n).restartRun 7 with h7 | h7
  · rw [overrun_restarts b h7, restartProbe_profile, State.profile_modProfile_same]
    exact h.of_eq rfl rfl rfl
  · rw [overrun_starves b h7]
    refine endAdaptation .starved ?_
    rw [State.profile_modProfile_same]
    exact h.of_eq rfl rfl rfl

/-- Turns that keep the record of their own profile flushed keep every record so. -/
theorem foldl {α : Type} (about : α → ProfileId) (step : State → α → State)
    (turn : ∀ s a, ProfileTurn (about a) s (step s a))
    (own : ∀ s a, (s.profile (about a)).Flushed → ((step s a).profile (about a)).Flushed) (l : List α) (s : State)
    (h : ∀ n, (s.profile n).Flushed) (n : ProfileId) : ((l.foldl step s).profile n).Flushed := by
  refine foldl_relates (P := fun _ => True) (Rel := fun s t => (∀ n, (s.profile n).Flushed) → ∀ n, (t.profile n).Flushed)
    (fun _ => id) (fun _ _ _ a b h => b (a h)) (fun _ _ _ _ => trivial) step l (fun s _ a _ h n => ?_) s trivial h n
  by_cases e : n = about a
  · exact e ▸ own s a (h _)
  · rw [(turn s a).only.other n e]
    exact h n

theorem removeRoutes {s : State} (h : ∀ n, (s.profile n).Flushed) (n : ProfileId) :
    ((removeRoutes s).profile n).Flushed := by
  unfold Machine.removeRoutes
  extract_lets gone e s'
  refine foldl RouteEntry.profile _ (fun s e => .dropReference e.profile e.bank s) (fun s e h => ?_) gone s' h n
  rw [dropReference_profile]
  exact h.afterDrop _ _

end Profile.Flushed

/-- The controller's clock return for one profile (R95). -/
def clockReturnTurn (s : State) (n : ProfileId) : State :=
  if (s.profile n).probeRef then overrun n s.lane.blockCounter s else s

theorem controllerClockReturn_eq (s : State) : controllerClockReturn s = allProfiles.foldl clockReturnTurn s := rfl

theorem ProfileTurn.clockReturnTurn (s : State) (n : ProfileId) : ProfileTurn n s (clockReturnTurn s n) := by
  unfold Machine.clockReturnTurn
  split
  · exact overrun n _ s
  · exact .refl n s

/-- The part right after the lane's and the table's part of a clock return (R9, R42). -/
def State.clockBack (s : State) : State :=
  { s with lane := s.lane.clockReturn, profiles := vmap Profile.clockReturn s.profiles }

/-- The part when every block has taken a clock return but for the output frame and the notices. -/
def State.flushed (s : State) : State := controllerClockReturn (removeRoutes s.clockBack)

theorem exec_clockReturn {s : State} (h : s.lane.state = .lost) :
    exec .clockReturn s = .next ((startOutput s.flushed).notifyAll .clockBack) := by
  simp only [exec, execClockReturn, finish, h, if_true]
  rfl

theorem State.clockBack_profile (s : State) (n : ProfileId) : s.clockBack.profile n = (s.profile n).clockReturn :=
  vmap_get _ _ _

theorem State.flushed_event (s : State) : EventOnly s.clockBack s.flushed :=
  (EventOnly.removeRoutes _).trans (.foldl _ (fun s n => (ProfileTurn.clockReturnTurn s n).eventOnly) _ _)

theorem State.flushed_routes (s : State) :
    s.flushed.engine.routes = s.engine.routes.filter fun e => e.running := by
  have hfold := (foldl_turns_routes id clockReturnTurn ProfileTurn.clockReturnTurn allProfiles (removeRoutes s.clockBack)).1
  rw [State.flushed, controllerClockReturn_eq, hfold, removeRoutes_routes]
  rfl

theorem State.flushed_slots (s : State) : s.flushed.slots = s.slots := by
  have hfold := (foldl_turns_routes id clockReturnTurn ProfileTurn.clockReturnTurn allProfiles (removeRoutes s.clockBack)).2
  rw [State.flushed, controllerClockReturn_eq, hfold, removeRoutes_slots]
  rfl

theorem State.flushed_profile (s : State) (n : ProfileId) : (s.flushed.profile n).Flushed := by
  have hback (n : ProfileId) : (s.clockBack.profile n).Flushed := by rw [State.clockBack_profile]; exact .clockReturn _
  rw [State.flushed, controllerClockReturn_eq]
  refine Profile.Flushed.foldl id clockReturnTurn ProfileTurn.clockReturnTurn (fun s n h => ?_) allProfiles _
    (Profile.Flushed.removeRoutes hback) n
  simp only [clockReturnTurn]
  split
  · exact h.overrun _
  · exact h

theorem State.flushed_lane (s : State) : s.flushed.lane = s.lane.clockReturn := s.flushed_event.lane

/-- A BOUND profile at a clock return: the controller's turn for it comes between what spares it. -/
theorem State.flushed_turn {s : State} {n : ProfileId} (hb : (s.profile n).state = .bound) :
    ∃ u, Spares n SameControl s u ∧ u.lane.blockCounter = s.lane.blockCounter ∧ (u.profile n).state = .bound
      ∧ Spares n SameControl (clockReturnTurn u n) s.flushed := by
  have hback : TableOnly s.lane.blockCounter (s.profile n) (s.clockBack.profile n) := by
    rw [State.clockBack_profile]
    exact .clockReturn _ _
  have hremove : Keeps n (TableOnly s.lane.blockCounter) s.clockBack (removeRoutes s.clockBack) :=
    Keeps.removeRoutes rfl (hback.state.trans hb)
  obtain ⟨u, hu, hafter⟩ := Keeps.foldl_turns ProfileTurn.clockReturnTurn nodup_allProfiles (mem_allProfiles n)
    (removeRoutes s.clockBack)
  have hbefore : Keeps n (TableOnly s.lane.blockCounter) s.clockBack u := hremove.of_eq_right hu
  have hlane : u.lane = s.lane.clockReturn := hbefore.event.lane
  refine ⟨u, ?_, by rw [hlane]; rfl, hbefore.record.state.trans (hback.state.trans hb),
    (hafter.table (B := 0)).control⟩
  exact ⟨hback.sameControl.trans hbefore.record.sameControl, hbefore.probes, hbefore.draining,
    (State.Adds.of_ports rfl).trans hbefore.adds⟩

/-- The end of a clock return begins an output frame and tells the ports (R9, R16). -/
theorem clockReturn_end (s : State) : (startOutput s).notifyAll .clockBack = { s with
    lane := { s.lane with output := some s.outputFrame, frameOpen := true, silentTicks := 0 }
    ports := ((startOutput s).notifyAll .clockBack).ports } := (onlyNotices_notifyAll (startOutput s) .clockBack).state

theorem spares_clockReturn_end (n : ProfileId) (s : State) :
    Spares n SameControl s ((startOutput s).notifyAll .clockBack) := by
  have hadds : s.Adds (fun k => k ≠ .adaptDone n) ((startOutput s).notifyAll .clockBack) :=
    (State.Adds.of_ports (s := s) (t := startOutput s) rfl).trans (.notifyAll _ (by simp))
  refine ⟨?_, ?_, ?_, hadds⟩ <;> rw [clockReturn_end]
  · exact ((Keeps.refl n s).table (B := 0)).record.sameControl
  · exact id

/-- What a clock return does to the adaptation of a BOUND profile (R95). -/
theorem clockReturn_adaptation {s : State} {n : ProfileId} (hb : (s.profile n).state = .bound) (hc : s.ProbesCounted) :
    let t := (startOutput s.flushed).notifyAll .clockBack
    ((s.profile n).probeRef = true → State.Overruns s t n s.lane.blockCounter)
      ∧ ((s.profile n).probeRef = false → (t.profile n).SameAdaptation (s.profile n)
          ∧ ∀ x ∈ t.engine.probes, x.profile ≠ n) := by
  intro t
  obtain ⟨u, hbefore, hB, hbu, hmid⟩ := State.flushed_turn hb
  have hafter : Spares n SameControl (clockReturnTurn u n) t :=
    hmid.trans_control (spares_clockReturn_end n _)
  have hcount := hbefore.probeCounted (hc.probeCounted n)
  have href : (u.profile n).probeRef = (s.profile n).probeRef := by
    obtain ⟨-, -, -, -, -, -, h⟩ := hbefore.record.same
    exact h
  refine ⟨fun h => ?_, fun h => ?_⟩
  · have hturn : clockReturnTurn u n = overrun n s.lane.blockCounter u := by
      simp only [clockReturnTurn, href, h, hB, if_true]
    rw [hturn] at hafter
    exact State.Overruns.within hbefore (overrun_overruns _ hbu hcount) hafter
  · have hturn : clockReturnTurn u n = u := by
      simp only [clockReturnTurn, href, h, Bool.false_eq_true, if_false]
    rw [hturn] at hafter
    exact ⟨hafter.record.same.trans hbefore.record.same,
      Engine.probesOf_eq_nil.mp (hafter.probes.trans (hcount.none (href.trans h)))⟩

/-- Settles O10: the lane and the table are flushed first; then each probe overruns in its own profile's turn. -/
theorem clockReturnFlushesHistory : Obligations.ClockReturnFlushesHistory := by
  intro s hlost
  refine ⟨_, exec_clockReturn hlost, ?_⟩
  have adaptation {n} (hb : (s.profile n).state = .bound) := clockReturn_adaptation hb
  have hlane := s.flushed_lane
  have hprofile := s.flushed_profile
  have hroutes := s.flushed_routes
  have hslots := s.flushed_slots
  obtain ⟨hmem, hgen, hcheckers⟩ : s.flushed.mem = s.mem ∧ s.flushed.gen = s.gen ∧ s.flushed.checkers = s.checkers := by
    rw [s.flushed_event.state]
    exact ⟨rfl, rfl, rfl⟩
  generalize s.flushed = u at *
  have hnotices (p : Port) := State.port_notifyAll (startOutput u) .clockBack p
  have hstate := clockReturn_end u
  generalize (startOutput u).notifyAll .clockBack = t at *
  have htlane : t.lane = { s.lane.clockReturn with
      output := some u.outputFrame, frameOpen := true, silentTicks := 0 } := by rw [hstate, ← hlane]
  have htprofile (n : ProfileId) : t.profile n = u.profile n := by rw [hstate]; rfl
  refine ⟨?laneState, ?counter, ?validFrom, ?ticks, ?rings, ?assembly, ?position, ?zeroPeriod, ?frameOpen, ?output,
    fun n j => ?entries, fun n => ?trim, ?routes, fun p => ?notices, ?slots, ?mem, ?gen, ?checkers,
    fun n hb hc => adaptation hb hc⟩
  case ticks | frameOpen => rw [htlane]
  case laneState | counter | validFrom | rings | assembly | position | zeroPeriod =>
    rw [htlane]
    rfl
  case output =>
    refine ⟨u.outputFrame, by rw [htlane], ?_, fun i => ?_⟩
    · rw [State.outputFrame, hlane]
      rfl
    · rw [State.outputFrame_get]
      exact State.slotSample_of_silent (.inl (by rw [hlane]; rfl)) _
  case entries => rw [htprofile]; exact (hprofile n).entryState j
  case trim => rw [htprofile]; exact (hprofile n).2
  case routes => rw [hstate, hroutes]
  case notices => rw [hnotices]; rfl
  case slots => rw [hstate, hslots]
  case mem => rw [hstate, hmem]
  case gen => rw [hstate, hgen]
  case checkers => rw [hstate, hcheckers]

end Sys2Proof.Machine

namespace Sys2Proof.Machine

/-! ### The record under the controller -/

theorem queueProbe_profile (n : ProfileId) (w : ProbeWindow) (p : Profile) (s : State) :
    (queueProbe (p.probeEntry n w) s).profile n = { s.profile n with probeRef := true } :=
  State.profile_modProfile_same _ n _

/-- q is p but for what the controller writes (5.1). -/
def AdaptOnly (p q : Profile) : Prop :=
  q = { p with
    candidate := q.candidate, adapt := q.adapt, search := q.search, restartRun := q.restartRun, probesRun := q.probesRun
    lastOutcome := q.lastOutcome, probeRef := q.probeRef }

namespace AdaptOnly

variable {n : ProfileId} {s : State}

theorem refl (p : Profile) : AdaptOnly p p := rfl

theorem trans {p q r : Profile} (a : AdaptOnly p q) (b : AdaptOnly q r) : AdaptOnly p r := by
  rw [AdaptOnly, b, a]

theorem state {p q : Profile} (h : AdaptOnly p q) : q.state = p.state := by rw [h]
theorem stage {p q : Profile} (h : AdaptOnly p q) : q.stage = p.stage := by rw [h]

theorem withdrawProbe (hb : (s.profile n).state = .bound) : AdaptOnly (s.profile n) ((withdrawProbe n s).profile n) := by
  unfold Machine.withdrawProbe
  split
  · exact refl _
  · rw [freeTest_of_bound (by rw [State.profile_modProfile_same]; exact hb), State.profile_modProfile_same]
    rfl

theorem endAdaptation (o : Outcome) (hb : (s.profile n).state = .bound) :
    AdaptOnly (s.profile n) ((endAdaptation n o s).profile n) := by
  unfold Machine.endAdaptation
  rw [(onlyNotices_notifyMembers _ n _).profile, State.profile_modProfile_same]
  exact (withdrawProbe hb).trans rfl

theorem tryQueue (hb : (s.profile n).state = .bound) : AdaptOnly (s.profile n) ((tryQueue n s).profile n) := by
  unfold Machine.tryQueue
  extract_lets p w
  split
  · exact refl _
  · split
    · exact endAdaptation _ hb
    · split
      · rw [State.modSearch, State.profile_modProfile_same, queueProbe_profile]
        rfl
      · exact refl _

theorem overrun (b : Block) (hb : (s.profile n).state = .bound) :
    AdaptOnly (s.profile n) ((overrun n b s).profile n) := by
  rcases Nat.lt_or_ge (s.profile n).restartRun 7 with h7 | h7
  · rw [overrun_restarts b h7, restartProbe_profile, State.profile_modProfile_same]
    rfl
  · rw [overrun_starves b h7]
    have h := endAdaptation (n := n) (s := s.modProfile n fun p => { p with restartRun := p.restartRun + 1 }) .starved
      (by rw [State.profile_modProfile_same]; exact hb)
    rw [State.profile_modProfile_same] at h
    exact trans (q := { s.profile n with restartRun := (s.profile n).restartRun + 1 }) rfl h

theorem startRound (hb : (s.profile n).state = .bound) : AdaptOnly (s.profile n) ((startRound n s).profile n) := by
  unfold Machine.startRound
  refine trans ?_ (tryQueue (by rw [State.profile_modProfile_same]; exact hb))
  rw [State.profile_modProfile_same]
  rfl

theorem controllerEvent (k : Block) (flipped : List ProfileId) (hb : (s.profile n).state = .bound) :
    AdaptOnly (s.profile n) ((controllerEvent k flipped s n).profile n) := by
  unfold Machine.controllerEvent
  simp only
  split
  · split
    · split
      · exact overrun k hb
      · exact refl _
    · exact refl _
  · split
    · exact tryQueue hb
    · split
      · split
        · exact startRound hb
        · rw [State.modSearch, State.profile_modProfile_same]
          rfl
      · exact refl _

end AdaptOnly

/-! ### The attempt at an evaluation (R91, R92) -/

/-- The needed evaluation is the one in hand. -/
theorem Profile.Needs.eq {p : Profile} {trial : CoeffSet} {sel : SelectionKind} (h : p.Needs trial sel) :
    trial = p.trialSet ∧ sel = p.selectionKind ∧ (p.probeRef = false → p.wantsProbe = true) := by
  rcases h with ⟨ha | ha, rfl, rfl⟩ | ⟨ha, rfl, rfl⟩ | ⟨ha, hphase, rfl, ⟨hc, rfl⟩ | ⟨hc, rfl⟩⟩
  all_goals simp_all [Profile.trialSet, Profile.selectionKind, Profile.wantsProbe]

theorem Profile.needs_of_wantsProbe {p : Profile} (h : p.wantsProbe = true) : p.Needs p.trialSet p.selectionKind := by
  unfold Profile.wantsProbe at h
  cases ha : p.adapt <;> simp [ha] at h <;> simp only [Profile.trialSet, Profile.selectionKind, ha]
  case searchShape => exact .inl ⟨.inl ha, rfl, rfl⟩
  case searchReshape => exact .inl ⟨.inr ha, rfl, rfl⟩
  case searchTrim => exact .inr (.inl ⟨ha, rfl, rfl⟩)
  case tracking =>
    refine .inr (.inr ⟨ha, h.2, rfl, ?_⟩)
    split
    · next hc => exact .inl ⟨hc, rfl⟩
    · next hc => exact .inr ⟨hc, rfl⟩

theorem Profile.Needs.earlier {p q : Profile} (k : SameControl p q) {trial : CoeffSet} {sel : SelectionKind}
    (h : q.Needs trial sel) : p.Needs trial sel := by
  obtain ⟨ha, hs, hc, -⟩ := k.same
  unfold Profile.Needs at h ⊢
  rw [ha, hs, hc] at h
  exact h

theorem SameControl.symm {p q : Profile} (k : SameControl p q) : SameControl q p := by
  obtain ⟨⟨ha, hs, hc, ho, hr, hp, hf⟩, hl, hd, hw, hg⟩ := k
  exact ⟨⟨ha.symm, hs.symm, hc.symm, ho.symm, hr.symm, hp.symm, hf.symm⟩, hl.symm, hd.symm, hw.symm, hg.symm⟩

/-- An attempt stays as it is made, with the lane and the generator. -/
theorem State.Attempts.later {t u : State} {n : ProfileId} {B : Block} {p : Profile} (h : t.Attempts n p)
    (k : Keeps n (TableOnly B) t u) : u.Attempts n p := by
  obtain ⟨trial, sel, hneeds, hfails, hwaits, hqueues⟩ := h
  refine ⟨trial, sel, hneeds, ?_⟩
  rw [k.event.lane, k.event.gen]
  have hsame := k.control.record.same
  refine ⟨fun h => (hfails h).later k.control, fun ha hn => ?_, fun ha hq => ?_⟩
  · obtain ⟨h1, h2⟩ := hwaits ha hn
    exact ⟨hsame.trans h1, Engine.probesOf_eq_nil.mp (k.probes.trans (Engine.probesOf_eq_nil.mpr h2))⟩
  · obtain ⟨h1, h2, h3⟩ := hqueues ha hq
    have mem (x : ProbeEntry) : (x ∈ u.engine.probes ∧ x.profile = n) ↔ x ∈ t.engine.probes ∧ x.profile = n := by
      rw [← Engine.mem_probesOf, k.probes, Engine.mem_probesOf]
    exact ⟨hsame.trans h1, ((mem _).mpr ⟨h2, rfl⟩).1, fun x hx hn => h3 x ((mem x).mp ⟨hx, hn⟩).1 hn⟩

/-- An attempt from a record is one from an earlier record with the same control fields. -/
theorem State.Attempts.earlier {t : State} {n : ProfileId} {p q : Profile} (k : SameControl p q) (h : t.Attempts n q) :
    t.Attempts n p := by
  obtain ⟨trial, sel, hneeds, hfails, hwaits, hqueues⟩ := h
  refine ⟨trial, sel, hneeds.earlier k, ?_⟩
  rw [k.config, k.windowTo, k.probeTarget] at *
  obtain ⟨ha, hs, hc, ho, hr, hp, hf⟩ := k.same
  refine ⟨fun h => (hfails h).earlier k, fun h1 h2 => ?_, fun h1 h2 => ?_⟩
  · obtain ⟨hsame, hnil⟩ := hwaits h1 h2
    exact ⟨hsame.trans k.same, hnil⟩
  · obtain ⟨hsame, hmem⟩ := hqueues h1 h2
    exact ⟨hsame.trans ⟨ha, by simp only [hs], hc, ho, hr, hp, rfl⟩, hmem⟩

/-- The target is the generator. -/
theorem Target.isGenerator_iff (g : Target) : g.isGenerator = true ↔ ∃ lag, g = .generator lag := by
  cases g <;> simp [Target.isGenerator]

/-- The attempt that queues a probe (R69, R92). -/
theorem tryQueue_queues {s : State} {n : ProfileId} (hw : (s.profile n).wantsProbe = true)
    (hg : ((s.profile n).config.target.isGenerator && !s.gen.running) = false) (hr : s.lane.state = .running)
    (ho : atOrAfter ((s.profile n).windowTo s.lane.blockCounter).oldest s.lane.validFrom s.lane.blockCounter = true) :
    tryQueue n s = (queueProbe ((s.profile n).probeEntry n ((s.profile n).windowTo s.lane.blockCounter)) s).modSearch n
      fun q => { q with window := some ((s.profile n).windowTo s.lane.blockCounter) } := by
  have hclock : s.clockPresent = true := by rw [State.clockPresent, hr]; rfl
  simp only [tryQueue, hw, hg, hclock, Profile.windowAt_eq_windowTo, ho, Bool.not_true, Bool.false_eq_true, if_false,
    Bool.and_self, if_true]

/-- The attempt for a BOUND profile whose evaluation waits for its probe (R92). -/
theorem tryQueue_attempts {s : State} {n : ProfileId} (hb : (s.profile n).state = .bound) (hc : s.ProbeCounted n)
    (hw : (s.profile n).wantsProbe = true) : (tryQueue n s).Attempts n (s.profile n) := by
  have hf : (s.profile n).probeRef = false := by
    simp only [Profile.wantsProbe, Bool.and_eq_true, Bool.not_eq_true'] at hw
    exact hw.1
  have hevent := (ProfileTurn.tryQueue n s).eventOnly
  refine ⟨_, _, Profile.needs_of_wantsProbe hw, ?_⟩
  rw [hevent.lane, hevent.gen]
  extract_lets w able allowed e
  have hable : ((s.profile n).config.target.isGenerator && !s.gen.running) = true ↔ ¬ able := by
    simp only [Bool.and_eq_true, Target.isGenerator_iff, Bool.not_eq_true', able, not_or, not_forall, not_not,
      Bool.not_eq_true]
  have hallowed : (s.clockPresent && atOrAfter w.oldest s.lane.validFrom s.lane.blockCounter) = true ↔ allowed := by
    simp only [Bool.and_eq_true, State.clockPresent, beq_iff_eq, allowed]
  have hwindow : (s.profile n).windowAt s.lane.blockCounter = w := Profile.windowAt_eq_windowTo _ _
  have hnil := hc.none hf
  refine ⟨fun h => ?fails, fun ha hn => ?waits, fun ha hq => ?queues⟩
  case fails =>
    have ht : tryQueue n s = endAdaptation n .noTarget s := by
      simp only [tryQueue, hw, hable.mpr h, Bool.not_true, Bool.false_eq_true, if_false, if_true]
    rw [ht]
    exact endAdaptation_fails _ hb hc
  case waits =>
    have ht : tryQueue n s = s := by
      simp only [tryQueue, hw, mt hable.mp (not_not.mpr ha), mt hallowed.mp hn, hwindow, Bool.not_true, Bool.false_eq_true,
        if_false]
    rw [ht]
    exact ⟨.refl _, Engine.probesOf_eq_nil.mp hnil⟩
  case queues =>
    have ht : tryQueue n s = (queueProbe e s).modSearch n fun q => { q with window := some w } :=
      tryQueue_queues hw (Bool.not_eq_true _ |>.mp (mt hable.mp (not_not.mpr ha))) hq.1 hq.2
    have hprobes : (tryQueue n s).engine.probes = s.engine.probes ++ [e] := by rw [ht]; rfl
    have hprofile : (tryQueue n s).profile n = { s.profile n with
        probeRef := true, search := { (s.profile n).search with window := some w } } := by
      rw [ht, State.modSearch, State.profile_modProfile_same]
      exact congrArg (fun p : Profile => { p with search := { p.search with window := some w } })
        (queueProbe_profile n w (s.profile n) s)
    rw [hprobes, hprofile]
    refine ⟨.refl _, by simp, fun x hx hn => ?_⟩
    rcases List.mem_append.mp hx with hx | hx
    · exact absurd hn (Engine.probesOf_eq_nil.mp hnil x hx)
    · exact List.mem_singleton.mp hx

/-! ### The controller's turn for one profile at a block event (R92, R94, R104) -/

/-- A countdown with ticks left counts one down (R104). -/
theorem controllerEvent_counts {k : Block} {flipped : List ProfileId} {s : State} {n : ProfileId}
    (hf : (s.profile n).probeRef = false) (ha : (s.profile n).adapt = .tracking) (hp : (s.profile n).search.phase ≠ .round)
    (hn : n ∉ flipped) (hcount : 2 ≤ (s.profile n).search.countdown.val) :
    controllerEvent k flipped s n = s.modSearch n fun q => { q with countdown := q.countdown - 1 } := by
  have h1 : ¬ (s.profile n).search.countdown.val ≤ 1 := by omega
  simp [controllerEvent, hf, Profile.wantsProbe, Profile.countsDown, ha, hp, hn, h1]

/-- A countdown that runs out starts a round (R104). -/
theorem controllerEvent_starts {k : Block} {flipped : List ProfileId} {s : State} {n : ProfileId}
    (hf : (s.profile n).probeRef = false) (ha : (s.profile n).adapt = .tracking) (hp : (s.profile n).search.phase ≠ .round)
    (hn : n ∉ flipped) (hcount : (s.profile n).search.countdown = 1) :
    controllerEvent k flipped s n = startRound n s := by
  simp [controllerEvent, hf, Profile.wantsProbe, Profile.countsDown, ha, hp, hn, hcount]

/-- An evaluation that waits is attempted (R92). -/
theorem controllerEvent_attempts {k : Block} {flipped : List ProfileId} {s : State} {n : ProfileId}
    (hf : (s.profile n).probeRef = false) (hw : (s.profile n).wantsProbe = true) :
    controllerEvent k flipped s n = tryQueue n s := by
  simp [controllerEvent, hf, hw]

/-- A probe whose oldest block leaves the rings overruns, and no other does (R94). -/
theorem controllerEvent_probes {k : Block} {flipped : List ProfileId} {s : State} {n : ProfileId} {w : ProbeWindow}
    (hf : (s.profile n).probeRef = true) (hw : (s.profile n).search.window = some w) :
    controllerEvent k flipped s n = if k = w.oldest + 8 then overrun n k s else s := by
  simp [controllerEvent, hf, hw]

/-- A profile without a probe, an evaluation that waits or a countdown that runs has no turn. -/
theorem controllerEvent_idle {k : Block} {flipped : List ProfileId} {s : State} {n : ProfileId}
    (hf : (s.profile n).probeRef = false) (hw : (s.profile n).wantsProbe = false)
    (hc : (s.profile n).countsDown = false ∨ n ∈ flipped) : controllerEvent k flipped s n = s := by
  have h : ((s.profile n).countsDown && !flipped.contains n) = false := by
    rcases hc with h | h <;> simp [h]
  simp only [controllerEvent, hf, hw, h, Bool.false_eq_true, if_false]

/-- The start of a round attempts its first evaluation (R104). -/
theorem startRound_attempts {s : State} {n : ProfileId} (hb : (s.profile n).state = .bound) (hc : s.ProbeCounted n)
    (hf : (s.profile n).probeRef = false) (ha : (s.profile n).adapt = .tracking) :
    (startRound n s).Attempts n { s.profile n with search := { (s.profile n).search with
      phase := .round, countdown := 0, roundWeights := (s.profile n).candidate.weights, currentFom := none
      lastFom := none, tap := 0 } } := by
  unfold startRound
  generalize hu : (s.modProfile n fun p => { p with search := { p.search with
    phase := .round, countdown := 0, roundWeights := p.candidate.weights, currentFom := none, lastFom := none, tap := 0 } }) = u
  have hp : u.profile n = { s.profile n with search := { (s.profile n).search with
      phase := .round, countdown := 0, roundWeights := (s.profile n).candidate.weights, currentFom := none
      lastFom := none, tap := 0 } } := by
    rw [← hu, State.profile_modProfile_same]
  have hcu : u.ProbeCounted n := by
    rw [State.ProbeCounted, hp, ← hu]
    exact hc
  rw [← hp]
  exact tryQueue_attempts (by rw [hp]; exact hb) hcu (by simp [hp, Profile.wantsProbe, hf, ha])

end Sys2Proof.Machine

namespace Sys2Proof.Machine

/-! ### One profile in a block event (R4) -/

theorem State.controllerOrder_nodup (s : State) : s.controllerOrder.Nodup :=
  (List.perm_insertionSort _ _).nodup_iff.mpr (nodup_allProfiles.filter _)

theorem State.mem_controllerOrder {s : State} {n : ProfileId} :
    n ∈ s.controllerOrder ↔ (s.profile n).controllerDue = true := by
  simp [State.controllerOrder, mem_allProfiles]

/-- A draw of the controller's order touches no profile. -/
theorem Keeps.draw (n : ProfileId) (s : State) : Keeps n Eq s { s with choices := s.choices + 1 } :=
  ⟨⟨rfl, rfl, .of_ports rfl⟩, rfl, rfl, id, .of_ports rfl⟩

theorem Profile.not_controllerDue {p : Profile} (h : p.controllerDue = false) :
    p.probeRef = false ∧ p.wantsProbe = false ∧ p.countsDown = false := by
  simpa [Profile.controllerDue, and_assoc] using h

/-- The controller's part: the turn for a profile not yet treated comes between turns for others, or is one that does nothing. -/
theorem Keeps.controllerBlockEvent {n : ProfileId} (k : Block) {treated : List ProfileId} (flipped : List ProfileId)
    (hn : n ∉ treated) (s : State) : ∃ u, Keeps n Eq s u
      ∧ Keeps n Eq (controllerEvent k flipped u n) (controllerBlockEvent k treated flipped s) := by
  unfold Machine.controllerBlockEvent
  extract_lets order
  generalize hv : ({ s with choices := s.choices + 1 } : State) = v
  have hdraw : Keeps n Eq s v := hv ▸ Keeps.draw n s
  have hturn := ProfileTurn.controllerEvent k flipped
  by_cases hdue : (s.profile n).controllerDue = true
  · have hmem : n ∈ order := List.mem_filter.mpr ⟨State.mem_controllerOrder.mpr hdue, by simpa using hn⟩
    obtain ⟨u, hu, hafter⟩ := Keeps.foldl_turns hturn (s.controllerOrder_nodup.filter _) hmem v
    exact ⟨u, hdraw.of_eq_left hu, hafter⟩
  · have hnot : n ∉ order := fun h => hdue (State.mem_controllerOrder.mp (List.mem_filter.mp h).1)
    obtain ⟨hf, hw, hc⟩ := Profile.not_controllerDue (Bool.not_eq_true _ |>.mp hdue)
    have hidle : Machine.controllerEvent k flipped v n = v := by
      rw [← hdraw.profile_eq] at hf hw hc
      exact controllerEvent_idle hf hw (.inl hc)
    refine ⟨v, hdraw, ?_⟩
    rw [hidle]
    exact Keeps.foldl _ _ (fun s m hm => (hturn s m).keeps fun e : n = m => hnot (e ▸ hm)) v

/-- The controller treats no profile twice. -/
theorem Keeps.controllerBlockEvent_treated {n : ProfileId} (k : Block) {treated : List ProfileId}
    (flipped : List ProfileId) (hn : n ∈ treated) (s : State) :
    Keeps n Eq s (Machine.controllerBlockEvent k treated flipped s) := by
  unfold Machine.controllerBlockEvent
  refine (draw n s).of_eq_left (Keeps.foldl _ _ (fun s m hm => ?_) _)
  have hm' : m ∉ treated := by simpa using (List.mem_filter.mp hm).2
  exact (ProfileTurn.controllerEvent k flipped s m).keeps fun e : n = m => hm' (e ▸ hn)

/-- A profile that the controller has nothing to do for. -/
theorem Keeps.controllerBlockEvent_idle {n : ProfileId} (k : Block) (treated flipped : List ProfileId) {s : State}
    (hf : (s.profile n).probeRef = false) (hw : (s.profile n).wantsProbe = false)
    (hc : (s.profile n).countsDown = false ∨ n ∈ flipped) :
    Keeps n Eq s (Machine.controllerBlockEvent k treated flipped s) := by
  by_cases hn : n ∈ treated
  · exact controllerBlockEvent_treated k flipped hn s
  · obtain ⟨u, hu, hafter⟩ := Keeps.controllerBlockEvent k flipped hn s
    rw [← hu.profile_eq] at hf hw hc
    rw [controllerEvent_idle hf hw hc] at hafter
    exact hu.of_eq_left hafter

theorem bankFlip_of_not_due {k : Block} {s : State} {n : ProfileId} (h : (s.profile n).flipsAt k = false) :
    bankFlip k s n = s := by
  simp only [bankFlip, h, Bool.false_eq_true, if_false]

theorem Profile.not_flipsAt_of_stage {p : Profile} (h : p.stage ≠ .waitingFlip) (k : Block) : p.flipsAt k = false := by
  simp [Profile.flipsAt, h]

/-- The bank flips, for a profile that has none due. -/
theorem Keeps.bankFlips_of_not_due {n : ProfileId} {k : Block} {s : State} (h : (s.profile n).flipsAt k = false) :
    Keeps n Eq s (bankFlips k s) :=
  Keeps.foldl_turns_of_idle (P := fun p => p.flipsAt k = false) (ProfileTurn.bankFlip k)
    (fun _ h => bankFlip_of_not_due h) allProfiles s h

/-- The bank flips: the one of a profile comes between those of others. -/
theorem Keeps.bankFlips (n : ProfileId) (k : Block) (s : State) :
    ∃ u, Keeps n Eq s u ∧ Keeps n Eq (bankFlip k u n) (Machine.bankFlips k s) :=
  Keeps.foldl_turns (ProfileTurn.bankFlip k) nodup_allProfiles (mem_allProfiles n) s

/-- The frame that brings on a block event spares every profile. -/
theorem Spares.blockCompleted (n : ProfileId) (s : State) (frame : LaneFrame) :
    Spares n SameControl s (s.blockCompleted frame) := by
  have hadds : s.Adds (fun k => k ≠ .adaptDone n) (s.blockCompleted frame) := by
    refine (blockCompleted_adds s frame).mono ?_
    rintro k ⟨i, rfl | rfl⟩ <;> simp
  refine ⟨?_, ?_, ?_, hadds⟩
  · rw [blockCompleted_profile]
    exact ((Keeps.refl n s).table (B := 0)).record.sameControl
  · rw [blockCompleted_engine]
  · rw [blockCompleted_engine]
    exact id

/-- A BOUND profile with no commit under way: the controller's turn for it comes between what leaves it all but the table's
fields. -/
theorem controllerTurn_within {n : ProfileId} {k : Block} {within : List Moment} {s : State}
    (hw : within = [] ∨ within = [.controller n]) (hB : s.lane.blockCounter = k) (hb : (s.profile n).state = .bound)
    (hstage : (s.profile n).stage = .none) :
    ∃ u, Keeps n (TableOnly k) s u ∧ (u.profile n).state = .bound
      ∧ Keeps n (TableOnly k) (controllerEvent k [] u n) (blockEventTaken k within s) := by
  have noFlip {u : State} (hu : (u.profile n).stage = .none) : Keeps n Eq u (bankFlips k u) :=
    .bankFlips_of_not_due (Profile.not_flipsAt_of_stage (by simp [hu]) k)
  have settled {u v : State} (hk : Keeps n (TableOnly k) u v) (hu : (u.profile n).stage = .none) :
      (v.profile n).stage = .none := (hk.record.settled (by simp [hu])).1.trans hu
  rcases hw with rfl | rfl
  · rw [blockEventTaken_nil]
    have hengine := Keeps.engineRest k [] hB hb
    obtain ⟨u, hu, hafter⟩ := Keeps.controllerBlockEvent k (n := n) (treated := []) [] (by simp) (engineRest k [] 0 s)
    have hbefore := hengine.of_eq_right hu
    have hbu := hbefore.record.state.trans hb
    have hstage' := (AdaptOnly.controllerEvent k [] hbu).stage.trans (settled hbefore hstage)
    refine ⟨u, hbefore, hbu, ?_⟩
    refine ((hafter.of_eq_left (noFlip ?_)).of_eq_left ((SlotsOnly.slotMapEvent k [] _).keeps n)).table
    rw [hafter.profile_eq]
    exact hstage'
  · have hevent : blockEventTaken k [.controller n] s
        = slotMapEvent k [] (bankFlips k (controllerBlockEvent k [n] [] (engineRest k [] 0 (controllerEvent k [] s n)))) := rfl
    rw [hevent]
    have hadapt := AdaptOnly.controllerEvent k [] hb
    have hlane : (controllerEvent k [] s n).lane.blockCounter = k := by
      rw [(ProfileTurn.controllerEvent k [] s n).eventOnly.lane, hB]
    have hengine := Keeps.engineRest k [] hlane (hadapt.state.trans hb)
    have hcontrol := hengine.of_eq_right (Keeps.controllerBlockEvent_treated k [] (List.mem_singleton.mpr rfl) _)
    refine ⟨s, (Keeps.refl n s).table, hb, ?_⟩
    exact (hcontrol.of_eq_right (noFlip (settled hcontrol (hadapt.stage.trans hstage)))).of_eq_right
      ((SlotsOnly.slotMapEvent k [] _).keeps n)

/-- The controller at block event B + 1, for a BOUND profile with no commit under way (R92, R94, R104). -/
theorem blockEvent_controls {s : State} {frame : LaneFrame} {n : ProfileId} {within : List Moment}
    (hw : within = [] ∨ within = [.controller n]) (hb : (s.profile n).state = .bound)
    (hstage : (s.profile n).stage = .none) (hc : s.ProbesCounted) :
    let k := s.lane.blockCounter + 1
    let p := s.profile n
    let t := blockEventTaken k within (s.blockCompleted frame)
    (p.probeRef = false → p.adapt = .tracking → p.search.phase ≠ .round →
      (2 ≤ p.search.countdown.val → (t.profile n).SameAdaptation { p with
          search := { p.search with countdown := p.search.countdown - 1 } })
      ∧ (p.search.countdown = 1 → t.Attempts n { p with search := { p.search with
          phase := .round, countdown := 0, roundWeights := p.candidate.weights, currentFom := none
          lastFom := none, tap := 0 } }))
    ∧ (p.probeRef = false → (∃ trial sel, p.Needs trial sel) → t.Attempts n p)
    ∧ ∀ w, p.search.window = some w → (k = w.oldest + 8 → State.Overruns s t n k)
      ∧ (k ≠ w.oldest + 8 → (t.profile n).SameAdaptation p) := by
  intro k p t
  obtain ⟨u, hbefore, hbu, hafter⟩ := controllerTurn_within (s := s.blockCompleted frame) hw
    (blockCompleted_blockCounter s frame) (by rw [blockCompleted_profile]; exact hb)
    (by rw [blockCompleted_profile]; exact hstage)
  have hspares := (Spares.blockCompleted n s frame).trans_control hbefore.control
  have hcount := hspares.probeCounted (hc.probeCounted n)
  obtain ⟨⟨ha, hs, hcand, ho, hr, hp, hf⟩, -⟩ := id hspares.record
  refine ⟨fun h0 htrack hphase => ?tracking, fun h0 ⟨trial, sel, hneeds⟩ => ?waiting, fun w hwin => ?probing⟩
  case tracking =>
    have htrack' := ha.trans htrack
    have hphase' : (u.profile n).search.phase ≠ .round := by rw [hs]; exact hphase
    refine ⟨fun h2 => ?_, fun h1 => ?_⟩
    · rw [controllerEvent_counts (hf.trans h0) htrack' hphase' List.not_mem_nil (by rw [hs]; exact h2)] at hafter
      refine hafter.control.record.same.trans ?_
      rw [State.modSearch, State.profile_modProfile_same]
      exact ⟨ha, congrArg (fun q : SearchPosition => { q with countdown := q.countdown - 1 }) hs, hcand, ho, hr, hp, hf⟩
    · rw [controllerEvent_starts (hf.trans h0) htrack' hphase' List.not_mem_nil (by rw [hs]; exact h1)] at hafter
      refine ((startRound_attempts hbu hcount (hf.trans h0) htrack').later hafter).earlier ?_
      refine ⟨⟨ha, ?_, hcand, ho, hr, hp, hf⟩, hspares.record.liveSet, hspares.record.leader, hspares.record.followers,
        hspares.record.config⟩
      simp only [hs, hcand, p]
  case waiting =>
    have hwants : (u.profile n).wantsProbe = true :=
      (hneeds.earlier hspares.record.symm).eq.2.2 (hf.trans h0)
    rw [controllerEvent_attempts (hf.trans h0) hwants] at hafter
    exact ((tryQueue_attempts hbu hcount hwants).later hafter).earlier hspares.record
  case probing =>
    have hwin' : (u.profile n).search.window = some w := by rw [hs]; exact hwin
    have href : (u.profile n).probeRef = true := by rw [← hcount.2, hwin']; rfl
    rw [controllerEvent_probes href hwin'] at hafter
    refine ⟨fun hk => ?_, fun hk => ?_⟩
    · rw [if_pos hk] at hafter
      exact State.Overruns.within hspares (overrun_overruns k hbu hcount) hafter.control
    · rw [if_neg hk] at hafter
      exact hafter.control.record.same.trans hspares.record.same

end Sys2Proof.Machine

namespace Sys2Proof.Machine

/-! ### A bank flip (R34, R102) -/

/-- The record after its bank flip (R34). -/
def Profile.flip (p : Profile) : Profile :=
  { p with live := p.spare, generation := p.generation + 1, stage := .none, flipEvent := none }

/-- The record of a COMMITTING profile once the outcome of its commit is noted (R102). -/
def Profile.committed (p : Profile) : Profile :=
  match p.search.origin with
  | .search => { p with lastOutcome := .done, search := { p.search with basePoint := p.liveSet.weights } }
  | .round => p

/-- The record of a COMMITTING profile after the controller has taken its flip (R102). -/
def Profile.tookFlip (p : Profile) : Profile :=
  if p.search.continueAfter ∧ p.config.continuous ∧ (p.config.mode = 2 ∨ p.config.mode = 3) then
    { p.committed with
      adapt := .tracking
      search := { p.committed.search with phase := .none, countdown := p.committed.config.trackInterval } }
  else { p.committed with adapt := .idle }

theorem AdaptOnly.committed (p : Profile) : AdaptOnly p p.committed := by
  unfold Profile.committed
  split <;> rfl

theorem Profile.probeRef_committed (p : Profile) : p.committed.probeRef = p.probeRef := by
  unfold Profile.committed
  split <;> rfl

theorem adaptFlip_profile (n : ProfileId) (s : State) : (adaptFlip n s).profile n = (s.profile n).tookFlip := by
  have ends (u : State) (hu : u.profile n = (s.profile n).committed) :
      ((if (s.profile n).search.continueAfter ∧ (s.profile n).config.continuous
          ∧ ((s.profile n).config.mode = 2 ∨ (s.profile n).config.mode = 3) then
        u.modProfile n fun p => { p with
          adapt := .tracking, search := { p.search with phase := .none, countdown := p.config.trackInterval } }
      else u.modProfile n fun p => { p with adapt := .idle }).profile n) = (s.profile n).tookFlip := by
    unfold Profile.tookFlip
    split <;> rw [State.profile_modProfile_same, hu]
  unfold adaptFlip
  refine ends _ ?_
  cases ho : (s.profile n).search.origin
  all_goals simp only [Profile.committed, ho, (onlyNotices_notifyMembers _ n _).profile, State.profile_modProfile_same]

/-- The state between a bank flip and the controller's part of it. -/
def State.flipped (s : State) (n : ProfileId) : State := (s.modProfile n Profile.flip).notifyMembers n (.committed n)

theorem State.flipped_profile (s : State) (n : ProfileId) : (s.flipped n).profile n = (s.profile n).flip := by
  rw [State.flipped, (onlyNotices_notifyMembers _ n _).profile, State.profile_modProfile_same]

theorem bankFlip_of_due {k : Block} {s : State} {n : ProfileId} (h : (s.profile n).flipsAt k = true) :
    bankFlip k s n = if (s.profile n).adapt = .committing then adaptFlip n (s.flipped n) else s.flipped n := by
  have ha : ((s.flipped n).profile n).adapt = (s.profile n).adapt := by rw [State.flipped_profile]; rfl
  simp only [bankFlip, h, if_true]
  rw [← ha]
  rfl

theorem bankFlip_profile {k : Block} {s : State} {n : ProfileId} (h : (s.profile n).flipsAt k = true) :
    (bankFlip k s n).profile n
      = if (s.profile n).adapt = .committing then (s.profile n).flip.tookFlip else (s.profile n).flip := by
  rw [bankFlip_of_due h]
  split
  · rw [adaptFlip_profile, State.flipped_profile]
  · rw [State.flipped_profile]

/-- The controller's part of a flip writes the control fields alone. -/
theorem AdaptOnly.tookFlip (p : Profile) : AdaptOnly p p.tookFlip := by
  unfold Profile.tookFlip
  split
  · exact (committed p).trans rfl
  · exact (committed p).trans rfl

/-- A flip changes what R34 says and what the controller writes. -/
theorem bankFlip_adaptOnly {k : Block} {s : State} {n : ProfileId} (h : (s.profile n).flipsAt k = true) :
    AdaptOnly (s.profile n).flip ((bankFlip k s n).profile n) := by
  rw [bankFlip_profile h]
  split
  · exact .tookFlip _
  · exact .refl _

/-- The members are told of a flip (R34). -/
theorem bankFlip_committed {k : Block} {s : State} {n : ProfileId} (h : (s.profile n).flipsAt k = true) {q : Port}
    (hq : (s.profile n).leader = some q ∨ (s.profile n).followers.getLsbD q.val = true) :
    ((bankFlip k s n).port q).notices.committed.getLsbD n.val = true := by
  have hg := Notices.setBy_committed n
  have htold : ((s.flipped n).port q).notices.committed.getLsbD n.val = true :=
    State.told_notifyMembers hg _ n (by rw [State.profile_modProfile_same]; exact hq)
  rw [bankFlip_of_due h]
  split
  · exact (ProfileTurn.adaptFlip n _).adds.kept hg htold
  · exact htold

/-- At the flip of a search's commit the members are told that the adaptation is done (R102). -/
theorem bankFlip_done {k : Block} {s : State} {n : ProfileId} (h : (s.profile n).flipsAt k = true)
    (ha : (s.profile n).adapt = .committing) (ho : (s.profile n).search.origin = .search) :
    (bankFlip k s n).ToldDone n (s.profile n) := by
  intro q hq
  have hg := Notices.setBy_adaptDone n
  have ho' : ((s.flipped n).profile n).search.origin = .search := by rw [State.flipped_profile]; exact ho
  rw [bankFlip_of_due h, if_pos ha]
  simp only [adaptFlip, ho']
  generalize hu : (s.flipped n).modProfile n _ = u
  have htold : ((u.notifyMembers n (.adaptDone n)).port q).notices.adaptDone.getLsbD n.val = true := by
    refine State.told_notifyMembers hg _ n ?_
    rw [← hu, State.profile_modProfile_same, State.flipped_profile]
    exact hq
  split
  · exact (ProfileTurn.modProfile n _ _).adds.kept hg htold
  · exact (ProfileTurn.modProfile n _ _).adds.kept hg htold

/-- Only the flip of a search's commit is told as an adaptation's end (R102). -/
theorem bankFlip_quiet {k : Block} {s : State} {n : ProfileId} (h : (s.profile n).flipsAt k = true)
    (ho : (s.profile n).search.origin = .round) : s.Adds (fun j => j ≠ .adaptDone n) (bankFlip k s n) := by
  have hflip : s.Adds (fun j => j ≠ .adaptDone n) (s.flipped n) :=
    (State.Adds.of_ports (s := s) (t := s.modProfile n Profile.flip) rfl).trans (.notifyMembers _ n (by simp))
  have ho' : ((s.flipped n).profile n).search.origin = .round := by rw [State.flipped_profile]; exact ho
  rw [bankFlip_of_due h]
  split
  · simp only [adaptFlip, ho']
    split
    · exact hflip.trans (.of_ports rfl)
    · exact hflip.trans (.of_ports rfl)
  · exact hflip

/-- The controller has nothing more to do for a profile in the block event of its flip (R102). -/
def Profile.Rests (n : ProfileId) (flipped : List ProfileId) (p : Profile) : Prop :=
  p.probeRef = false ∧ p.wantsProbe = false ∧ (p.countsDown = false ∨ n ∈ flipped)

theorem Profile.rests_of_idle {n : ProfileId} {flipped : List ProfileId} {p : Profile} (hf : p.probeRef = false)
    (ha : p.adapt = .idle ∨ p.adapt = .committing) : p.Rests n flipped := by
  rcases ha with ha | ha <;> simp [Profile.Rests, Profile.wantsProbe, Profile.countsDown, hf, ha]

theorem Profile.rests_of_flipped {n : ProfileId} {p : Profile} (hf : p.probeRef = false)
    (ha : p.adapt = .idle ∨ p.adapt = .committing) :
    Profile.Rests n [n] (if p.adapt = .committing then p.flip.tookFlip else p.flip) := by
  split
  · have hq : p.flip.committed.probeRef = false := p.flip.probeRef_committed.trans hf
    unfold Profile.tookFlip
    split <;> simp [Profile.Rests, Profile.wantsProbe, Profile.countsDown, hq]
  · next hc => exact rests_of_idle hf (.inl (ha.resolve_right hc))

theorem Profile.Rests.later {n : ProfileId} {flipped : List ProfileId} {p q : Profile} (h : p.Rests n flipped)
    (k : SameControl p q) : q.Rests n flipped := by
  obtain ⟨ha, hs, -, -, -, -, hf⟩ := k.same
  unfold Profile.Rests Profile.wantsProbe Profile.countsDown at h ⊢
  rw [ha, hs, hf]
  exact h

theorem Profile.flipsAt_iff {p : Profile} {k : Block} :
    p.flipsAt k = true ↔ p.state = .bound ∧ p.stage = .waitingFlip ∧ p.flipEvent = some k := by
  simp [Profile.flipsAt, and_assoc]

theorem TableOnly.flipsAt {B k : Block} {p q : Profile} (h : TableOnly B p q) (hp : p.flipsAt k = true) :
    q.flipsAt k = true := by
  obtain ⟨hb, hs, hf⟩ := Profile.flipsAt_iff.mp hp
  obtain ⟨hs', hf', -⟩ := h.settled (by simp [hs])
  exact Profile.flipsAt_iff.mpr ⟨h.state.trans hb, hs'.trans hs, hf'.trans hf⟩

/-- A profile with a flip due at block event k: its flip comes between what leaves it all but the table's fields. -/
theorem bankFlip_within {n : ProfileId} {k : Block} {within : List Moment} {s : State}
    (hw : within = [] ∨ within = [.flip n]) (hB : s.lane.blockCounter = k) (hdue : (s.profile n).flipsAt k = true)
    (ha : (s.profile n).adapt = .idle ∨ (s.profile n).adapt = .committing) (hf : (s.profile n).probeRef = false) :
    ∃ u, Keeps n (TableOnly k) s u ∧ Keeps n (TableOnly k) (bankFlip k u n) (blockEventTaken k within s) := by
  have hb : (s.profile n).state = .bound := (Profile.flipsAt_iff.mp hdue).1
  rcases hw with rfl | rfl
  · rw [blockEventTaken_nil]
    have hengine := Keeps.engineRest k [] hB hb
    obtain ⟨hf', hw', hc'⟩ := (Profile.rests_of_idle (n := n) (flipped := []) hf ha).later hengine.record.sameControl
    have hcontrol := hengine.of_eq_right (Keeps.controllerBlockEvent_idle k [] [] hf' hw' hc')
    obtain ⟨u, hu, hafter⟩ := Keeps.bankFlips n k (controllerBlockEvent k [] [] (engineRest k [] 0 s))
    exact ⟨u, hcontrol.of_eq_right hu, (hafter.of_eq_left ((SlotsOnly.slotMapEvent k [] _).keeps n)).table⟩
  · have hevent : blockEventTaken k [.flip n] s
        = slotMapEvent k [] (bankFlips k (controllerBlockEvent k [] [n] (engineRest k [] 0 (bankFlip k s n)))) := by
      simp only [blockEventTaken_cons, List.foldl_nil, EventRun.take, EventRun.finish, hdue, if_true]
    rw [hevent]
    have hprofile := bankFlip_profile hdue
    have hadapt := bankFlip_adaptOnly hdue
    have hlane : (bankFlip k s n).lane.blockCounter = k := by rw [(ProfileTurn.bankFlip k s n).eventOnly.lane, hB]
    have hengine := Keeps.engineRest k [] hlane (hadapt.state.trans hb)
    obtain ⟨hf', hw', hc'⟩ := (hprofile ▸ Profile.rests_of_flipped (n := n) hf ha).later hengine.record.sameControl
    have hcontrol := hengine.of_eq_right (Keeps.controllerBlockEvent_idle k [] [n] hf' hw' hc')
    have hstage : ((controllerBlockEvent k [] [n] (engineRest k [] 0 (bankFlip k s n))).profile n).stage = .none := by
      have hv : ((bankFlip k s n).profile n).stage = .none := hadapt.stage
      exact (hcontrol.record.settled (by simp [hv])).1.trans hv
    refine ⟨s, (Keeps.refl n s).table, (hcontrol.of_eq_right (.bankFlips_of_not_due ?_)).of_eq_right
      ((SlotsOnly.slotMapEvent k [] _).keeps n)⟩
    exact Profile.not_flipsAt_of_stage (by rw [hstage]; nofun) k

end Sys2Proof.Machine

namespace Sys2Proof.Machine

theorem TableOnly.live {B : Block} {p q : Profile} (h : TableOnly B p q) : q.live = p.live := by rw [h.record]
theorem TableOnly.generation {B : Block} {p q : Profile} (h : TableOnly B p q) : q.generation = p.generation := by rw [h.record]

/-- The adaptation of a COMMITTING profile after its flip (R102), from the record p that the block event finds. -/
theorem Profile.tookFlip_same {p q r : Profile} (h : SameControl p q)
    (hspare : (q.bank q.spare).set = (p.bank p.live.other).set)
    (hsearch : p.search.origin = .search → r = { p with
      lastOutcome := .done, search := { p.search with basePoint := (p.bank p.live.other).set.weights } })
    (hround : p.search.origin = .round → r = p) :
    (p.search.continueAfter = true → p.config.continuous = true → p.config.mode = 2 ∨ p.config.mode = 3 →
      q.flip.tookFlip.SameAdaptation { r with
        adapt := .tracking, search := { r.search with phase := .none, countdown := p.config.trackInterval } })
    ∧ (¬ (p.search.continueAfter = true ∧ p.config.continuous = true ∧ (p.config.mode = 2 ∨ p.config.mode = 3)) →
      q.flip.tookFlip.SameAdaptation { r with adapt := .idle }) := by
  obtain ⟨⟨ha, hs, hc, ho, hr, hp, hf⟩, -, -, -, hconfig⟩ := h
  have hbase : q.flip.liveSet = (p.bank p.live.other).set := by
    rw [← hspare]
    cases hl : q.live <;> simp [Profile.flip, Profile.liveSet, Profile.spare, Profile.bank, BankId.other, hl]
  have hcommitted : q.flip.committed.SameAdaptation r ∧ q.flip.committed.config = p.config := by
    have hs' : q.flip.search = p.search := hs
    cases horigin : p.search.origin with
    | search =>
      rw [hsearch horigin]
      simp only [Profile.committed, hs', horigin, hbase]
      exact ⟨⟨ha, rfl, hc, rfl, hr, hp, hf⟩, hconfig⟩
    | round =>
      rw [hround horigin]
      simp only [Profile.committed, hs', horigin]
      exact ⟨⟨ha, hs, hc, ho, hr, hp, hf⟩, hconfig⟩
  obtain ⟨⟨-, hs', hc', ho', hr', hp', hf'⟩, hconfig'⟩ := hcommitted
  have hcond : q.flip.search.continueAfter = p.search.continueAfter ∧ q.flip.config = p.config :=
    ⟨congrArg SearchPosition.continueAfter hs, hconfig⟩
  refine ⟨fun h1 h2 h3 => ?_, fun hn => ?_⟩
  · rw [Profile.tookFlip, if_pos (by rw [hcond.1, hcond.2]; exact ⟨h1, h2, h3⟩)]
    exact ⟨rfl, by simp only [hs', hconfig'], hc', ho', hr', hp', hf'⟩
  · rw [Profile.tookFlip, if_neg (by rw [hcond.1, hcond.2]; exact hn)]
    exact ⟨rfl, hs', hc', ho', hr', hp', hf'⟩

/-- A due commit at block event B + 1 (R34, R102). -/
theorem blockEvent_flips {s : State} {frame : LaneFrame} {n : ProfileId} {within : List Moment}
    (hw : within = [] ∨ within = [.flip n]) (hdue : (s.profile n).flipsAt (s.lane.blockCounter + 1) = true)
    (ha : (s.profile n).adapt = .idle ∨ (s.profile n).adapt = .committing) (hf : (s.profile n).probeRef = false) :
    let p := s.profile n
    let t := blockEventTaken (s.lane.blockCounter + 1) within (s.blockCompleted frame)
    (t.profile n).live = p.live.other ∧ (t.profile n).generation = p.generation + 1
      ∧ (t.profile n).stage = .none ∧ (t.profile n).flipEvent = none
      ∧ (t.profile n).bank0 = p.bank0 ∧ (t.profile n).bank1 = p.bank1
      ∧ (∀ q, (p.leader = some q ∨ p.followers.getLsbD q.val = true) →
          (t.port q).notices.committed.getLsbD n.val = true)
      ∧ (p.adapt = .idle → (t.profile n).SameAdaptation p)
      ∧ (p.adapt = .committing → ∀ r : Profile,
          (p.search.origin = .search → r = { p with
            lastOutcome := .done, search := { p.search with basePoint := (p.bank p.live.other).set.weights } }) →
          (p.search.origin = .round → r = p) →
          (p.search.continueAfter = true → p.config.continuous = true → p.config.mode = 2 ∨ p.config.mode = 3 →
            (t.profile n).SameAdaptation { r with
              adapt := .tracking, search := { r.search with phase := .none, countdown := p.config.trackInterval } })
          ∧ (¬ (p.search.continueAfter = true ∧ p.config.continuous = true
              ∧ (p.config.mode = 2 ∨ p.config.mode = 3)) → (t.profile n).SameAdaptation { r with adapt := .idle })
          ∧ (p.search.origin = .search → t.ToldDone n p)
          ∧ (p.search.origin = .round → ∀ q, (t.port q).notices.adaptDone.getLsbD n.val
              = (s.port q).notices.adaptDone.getLsbD n.val)) := by
  intro p t
  have hprofile : (s.blockCompleted frame).profile n = p := blockCompleted_profile s frame n
  obtain ⟨u, hbefore, hafter⟩ := bankFlip_within (s := s.blockCompleted frame) hw (blockCompleted_blockCounter s frame)
    (by rw [hprofile]; exact hdue) (by rw [hprofile]; exact ha) (by rw [hprofile]; exact hf)
  have htable : TableOnly (s.lane.blockCounter + 1) p (u.profile n) := hprofile ▸ hbefore.record
  obtain ⟨-, hstage, -⟩ := Profile.flipsAt_iff.mp hdue
  obtain ⟨-, -, hbank0, hbank1⟩ := htable.settled (by rw [hstage]; nofun)
  have hduev := htable.flipsAt hdue
  have hcontrol := htable.sameControl
  obtain ⟨hadapt, hsearch, -⟩ := id hcontrol.same
  have hflip := bankFlip_adaptOnly hduev
  have hrecord := bankFlip_profile hduev
  obtain ⟨hstage', hevent', hbank0', hbank1'⟩ := hafter.record.settled (by rw [hflip.stage]; nofun)
  have hspares := (Spares.blockCompleted n s frame).trans_control hbefore.control
  have hmembers {q : Port} (hq : p.leader = some q ∨ p.followers.getLsbD q.val = true) :
      (u.profile n).leader = some q ∨ (u.profile n).followers.getLsbD q.val = true := by
    rw [hcontrol.leader, hcontrol.followers]
    exact hq
  have hsame := hafter.control.record.same
  refine ⟨?live, ?generation, hstage'.trans hflip.stage, ?event, ?bank0, ?bank1, fun q hq => ?told, fun hidle => ?idle,
    fun hcom r hrs hrr => ?committing⟩
  case live => rw [hafter.record.live, hflip]; exact congrArg BankId.other htable.live
  case generation => rw [hafter.record.generation, hflip]; exact congrArg (· + 1) htable.generation
  case event => rw [hevent', hflip]; rfl
  case bank0 => rw [hbank0', hflip]; exact hbank0
  case bank1 => rw [hbank1', hflip]; exact hbank1
  case told => exact hafter.adds.kept (Notices.setBy_committed n) (bankFlip_committed hduev (hmembers hq))
  case idle =>
    rw [if_neg (by rw [hadapt, hidle]; nofun)] at hrecord
    rw [hrecord] at hsame
    exact hsame.trans hcontrol.same
  case committing =>
    have hcom' := hadapt.trans hcom
    rw [if_pos hcom'] at hrecord
    rw [hrecord] at hsame
    have hspare : ((u.profile n).bank (u.profile n).spare).set = (p.bank p.live.other).set := by
      simp only [Profile.spare, htable.live, Profile.bank, hbank0, hbank1]
    obtain ⟨htracks, hends⟩ := Profile.tookFlip_same hcontrol hspare hrs hrr
    refine ⟨fun h1 h2 h3 => hsame.trans (htracks h1 h2 h3), fun hn => hsame.trans (hends hn), fun ho q hq => ?_,
      fun ho q => ?_⟩
    · exact hafter.adds.kept (Notices.setBy_adaptDone n)
        (bankFlip_done hduev hcom' (by rw [hsearch]; exact ho) q (hmembers hq))
    · have hquiet := bankFlip_quiet hduev (by rw [hsearch]; exact ho)
      exact ((hspares.adds.trans hquiet).trans hafter.adds).bit_eq (Notices.setBy_adaptDone n) (by simp) q

/-! ### A probe that starts before the route passes are queued (R4, R69, R78, R80) -/

/-- From s to t the engine goes on as it was, but for probes appended to its queue. -/
def ProbesAppended (s t : State) : Prop := ∃ ps, t.engine = { s.engine with probes := s.engine.probes ++ ps }

theorem ProbesAppended.of_eq {s t : State} (h : t.engine = s.engine) : ProbesAppended s t :=
  ⟨[], by rw [h, List.append_nil]⟩

theorem ProbesAppended.trans {s t u : State} (a : ProbesAppended s t) (b : ProbesAppended t u) : ProbesAppended s u := by
  obtain ⟨ps, ha⟩ := a
  obtain ⟨qs, hb⟩ := b
  exact ⟨ps ++ qs, by rw [hb, ha, List.append_assoc]⟩

theorem endAdaptation_appends {s : State} {n : ProfileId} (o : Outcome) (h : s.engine.probesOf n = []) :
    ProbesAppended s (endAdaptation n o s) := by
  have hw : withdrawProbe n s = s := by
    have hx : s.engine.probeOf n = none := by rw [Engine.probeOf_eq_head?, h]; rfl
    simp only [withdrawProbe, hx]
  refine .of_eq ?_
  unfold endAdaptation
  rw [(onlyNotices_notifyMembers _ n _).engine, hw]
  rfl

theorem tryQueue_appends {s : State} {n : ProfileId} (h : s.engine.probesOf n = []) :
    ProbesAppended s (tryQueue n s) := by
  unfold tryQueue
  extract_lets p w
  split
  · exact .of_eq rfl
  · split
    · exact endAdaptation_appends _ h
    · split
      · exact ⟨[p.probeEntry n w], rfl⟩
      · exact .of_eq rfl

/-- The controller's turn for a profile without a probe only appends. -/
theorem controllerEvent_appends {k : Block} {flipped : List ProfileId} {s : State} {n : ProfileId}
    (hf : (s.profile n).probeRef = false) (h : s.engine.probesOf n = []) :
    ProbesAppended s (controllerEvent k flipped s n) := by
  simp only [controllerEvent, hf, Bool.false_eq_true, if_false]
  split
  · exact tryQueue_appends h
  · split
    · split
      · exact (ProbesAppended.of_eq (t := s.modProfile n _) rfl).trans (tryQueue_appends h)
      · exact .of_eq rfl
    · exact .of_eq rfl

theorem foldl_controllerEvent_appends (k : Block) (flipped : List ProfileId) {l : List ProfileId} (hl : l.Nodup) :
    ∀ s : State, (∀ m ∈ l, (s.profile m).probeRef = false ∧ s.engine.probesOf m = []) →
      ProbesAppended s (l.foldl (controllerEvent k flipped) s) := by
  induction l with
  | nil => exact fun s _ => .of_eq rfl
  | cons a l ih =>
    intro s h
    obtain ⟨ha, hl⟩ := List.nodup_cons.mp hl
    obtain ⟨hf, hnil⟩ := h a List.mem_cons_self
    refine (controllerEvent_appends hf hnil).trans (ih hl _ fun m hm => ?_)
    have hne : m ≠ a := fun e => ha (e ▸ hm)
    have hkeeps := (ProfileTurn.controllerEvent k flipped s a).keeps hne
    obtain ⟨hf', hnil'⟩ := h m (List.mem_cons_of_mem a hm)
    exact ⟨by rw [hkeeps.profile_eq]; exact hf', hkeeps.probes.trans hnil'⟩

theorem bankFlip_engine (k : Block) (s : State) (n : ProfileId) : (bankFlip k s n).engine = s.engine := by
  have hflipped : (s.flipped n).engine = s.engine := (onlyNotices_notifyMembers _ n _).engine
  cases h : (s.profile n).flipsAt k with
  | false => rw [bankFlip_of_not_due h]
  | true =>
    rw [bankFlip_of_due h]
    split
    · unfold adaptFlip
      extract_lets p s'
      have hs' : s'.engine = s.engine := by
        simp only [s']
        split
        · exact (onlyNotices_notifyMembers _ n _).engine.trans hflipped
        · exact hflipped
      split <;> exact hs'
    · exact hflipped

theorem bankFlips_engine (k : Block) (s : State) : (bankFlips k s).engine = s.engine :=
  foldl_relates (P := fun _ => True) (Rel := fun s t => t.engine = s.engine) (fun _ => rfl)
    (fun _ _ _ a b => b.trans a) (fun _ _ _ _ => trivial) (bankFlip k) allProfiles
    (fun s _ n _ => bankFlip_engine k s n) s trivial

theorem expireRoutes_of_nil {k : Block} {s : State} (h : s.engine.routes = []) : expireRoutes k s = s := by
  simp only [expireRoutes, h, List.filter_nil, List.foldl_nil]
  rw [← h]

/-- The arbiter with no route entry, the turn with the probes and a probe in the queue (R78). -/
theorem arbiterStart_probe {s : State} (hmac : s.engine.mac = .free) (hroutes : s.engine.routes = [])
    (hturn : s.engine.turn = .probe) (hprobes : s.engine.probes ≠ []) :
    stateAfter (execInner .arbiterStart s) s = startProbe s := by
  have hrun : s.engine.probeRunnable = true := by
    cases h : s.engine.probes with
    | nil => exact absurd h hprobes
    | cons x xs => simp [Engine.probeRunnable, h]
  simp only [execInner, execArbiterStart, finish, stateAfter, hmac, arbitrate, hroutes, List.any_nil, Bool.false_eq_true,
    if_false, if_true, hturn, serveProbe, hrun]
  rfl

/-- A probe runs with its queue's rest when the engine asks for route passes: it is asked to suspend, and the controller's other
turns only append probes (R80). -/
theorem finish_suspends {k : Block} {n m : ProfileId} {a : State} {x : ProbeEntry} (hmac : a.engine.mac = .running .probe)
    (hroutes : a.engine.routes = []) (hprobes : a.engine.probes = [x]) (hx : x.profile = n)
    (href : ∀ i, i ≠ n → (a.profile i).probeRef = false) (hm : a.asksFor [] m = true) :
    let t := EventRun.finish k ⟨a, 0, [n], [], []⟩
    t.engine.mac = .running .probe ∧ t.engine.suspendAsked = true ∧ t.engine.turn = a.engine.turn
      ∧ (∃ xs, t.engine.probes = x :: xs)
      ∧ ∃ e ∈ t.engine.routes, e.profile = m ∧ e.block = k ∧ e.running = false := by
  intro t
  have hqueued := engineRest_queued k [] a
  rw [expireRoutes_of_nil hroutes] at hqueued
  generalize hg : engineRest k [] 0 a = g at hqueued
  have hrefg (i : ProfileId) (hi : i ≠ n) : (g.profile i).probeRef = false := by
    rw [hqueued.profile]
    split
    · rw [(TableOnly.queueBlock k k _).record]; exact href i hi
    · exact href i hi
  have hnil (i : ProfileId) (hi : i ≠ n) : g.engine.probesOf i = [] := by
    rw [hqueued.engine]
    simp only [Engine.probesOf, hprobes, List.filter_cons, hx, List.filter_nil]
    simp [hi.symm]
  have happended : ProbesAppended g t := by
    have hcontrol : ProbesAppended g (controllerBlockEvent k [n] [] g) := by
      unfold controllerBlockEvent
      extract_lets order
      refine (ProbesAppended.of_eq (t := { g with choices := g.choices + 1 }) rfl).trans
        (foldl_controllerEvent_appends k [] (g.controllerOrder_nodup.filter _) _ fun i hi => ?_)
      have hne : i ≠ n := by simpa using (List.mem_filter.mp hi).2
      exact ⟨hrefg i hne, hnil i hne⟩
    have ht : t = slotMapEvent k [] (bankFlips k (controllerBlockEvent k [n] [] g)) := by rw [← hg]; rfl
    refine hcontrol.trans (.of_eq ?_)
    rw [ht, (SlotsOnly.slotMapEvent k [] _).engine, bankFlips_engine]
  obtain ⟨ps, hengine⟩ := happended
  have hany : allProfiles.any (a.asksFor []) = true := List.any_eq_true.mpr ⟨m, mem_allProfiles m, hm⟩
  refine ⟨?_, ?_, ?_, ⟨ps, ?_⟩, a.newRoute k m, ?_, rfl, rfl, rfl⟩
  all_goals rw [hengine, hqueued.engine]
  · exact hmac
  · simp [hany, hmac, UnitState.runsSuspendable]
  · simp [hprobes]
  · exact List.mem_append_right _ (List.mem_map_of_mem (List.mem_filter.mpr ⟨mem_allProfiles m, hm⟩))

end Sys2Proof.Machine

namespace Sys2Proof.Machine

/-- v stays as it is until B + 1 − v reaches 2^31 (R6). -/
theorem blockCompleted_validFrom {s : State} (frame : LaneFrame)
    (h : s.lane.blockCounter + 2 - s.lane.validFrom ≠ 0x80000000) :
    (s.blockCompleted frame).lane.validFrom = s.lane.validFrom := by
  have h' : ¬ s.lane.blockCounter + 1 + 1 - s.lane.validFrom = 0x80000000 := by
    rwa [show s.lane.blockCounter + 1 + 1 = s.lane.blockCounter + 2 by bv_omega]
  exact if_neg h'

/-- No probe, no probe reference. -/
theorem State.ProbesCounted.probeRef {s : State} (hc : s.ProbesCounted) (h : s.engine.probes = []) (i : ProfileId) :
    (s.profile i).probeRef = false := by
  have hl := (hc i).1
  rw [h] at hl
  cases hf : (s.profile i).probeRef with
  | false => rfl
  | true => rw [hf] at hl; cases hl

/-- A BOUND profile in use stays one in a turn of the controller. -/
theorem controllerEvent_asksFor {k : Block} {flipped : List ProfileId} {s : State} {n m : ProfileId}
    (hb : (s.profile m).state = .bound) (hm : s.profileInUse m = true) :
    (controllerEvent k flipped s n).asksFor [] m = true := by
  have hstate : ((controllerEvent k flipped s n).profile m).state = .bound := by
    by_cases e : m = n
    · subst e
      exact (AdaptOnly.controllerEvent k flipped hb).state.trans hb
    · rw [(ProfileTurn.controllerEvent k flipped s n).only.other m e, hb]
  have huse : (controllerEvent k flipped s n).profileInUse m = true := by
    rw [State.profileInUse, (ProfileTurn.controllerEvent k flipped s n).slots]
    exact hm
  simp [State.asksFor, hstate, huse]

/-- The controller's turn at block event B + 1 queues the probe of an evaluation that may run (R69, R92). -/
theorem blockEvent_queuesProbe {s : State} {frame : LaneFrame} {n : ProfileId} (hr : s.lane.state = .running)
    (hv : s.lane.blockCounter + 2 - s.lane.validFrom ≠ 0x80000000) (hf : (s.profile n).probeRef = false)
    (hw : (s.profile n).wantsProbe = true)
    (hable : (∀ lag, (s.profile n).config.target ≠ .generator lag) ∨ s.gen.running = true)
    (hold : atOrAfter ((s.profile n).windowTo (s.lane.blockCounter + 1)).oldest s.lane.validFrom (s.lane.blockCounter + 1)
      = true) (hprobes : s.engine.probes = []) :
    (controllerEvent (s.lane.blockCounter + 1) [] (s.blockCompleted frame) n).engine = { s.engine with
      probes := [(s.profile n).probeEntry n ((s.profile n).windowTo (s.lane.blockCounter + 1))] } := by
  have hp := blockCompleted_profile s frame n
  have hgen : ((s.profile n).config.target.isGenerator && !(s.blockCompleted frame).gen.running) = false := by
    rw [blockCompleted_gen, Generator.frame_running]
    rcases hable with h | h
    · cases ht : (s.profile n).config.target with
      | generator lag => exact absurd ht (h lag)
      | window nm off => rfl
    · simp [h]
  rw [controllerEvent_attempts (by rw [hp]; exact hf) (by rw [hp]; exact hw), tryQueue_queues
    (s := s.blockCompleted frame) (by rw [hp]; exact hw) (by rw [hp]; exact hgen) hr (by rw [hp, blockCompleted_validFrom frame hv]; exact hold), hp]
  have h (e : ProbeEntry) (w : ProbeWindow) : ((queueProbe e (s.blockCompleted frame)).modSearch n
      fun q => { q with window := some w }).engine = { (s.blockCompleted frame).engine with
        probes := (s.blockCompleted frame).engine.probes ++ [e] } := rfl
  rw [h, blockCompleted_engine, hprobes]
  rfl

/-- The controller queues the probe of profile n, the arbiter starts it, and the engine's question then asks it to suspend for
the route pass of profile m. -/
theorem blockEvent_suspends {s : State} {frame : LaneFrame} {n m : ProfileId} {trial : CoeffSet} {sel : SelectionKind}
    (hr : s.lane.state = .running) (hv : s.lane.blockCounter + 2 - s.lane.validFrom ≠ 0x80000000)
    (hc : s.ProbesCounted) (hneeds : (s.profile n).Needs trial sel)
    (hable : (∀ lag, (s.profile n).config.target ≠ .generator lag) ∨ s.gen.running = true)
    (hold : atOrAfter ((s.profile n).windowTo (s.lane.blockCounter + 1)).oldest s.lane.validFrom (s.lane.blockCounter + 1)
      = true)
    (hmac : s.engine.mac = .free) (hroutes : s.engine.routes = []) (hprobes : s.engine.probes = [])
    (hturn : s.engine.turn = .probe) (hbm : (s.profile m).state = .bound) (hm : s.profileInUse m = true) :
    let t := blockEventTaken (s.lane.blockCounter + 1) [.controller n, .inner .arbiterStart] (s.blockCompleted frame)
    ∃ x xs, t.engine.mac = .running .probe ∧ t.engine.suspendAsked = true ∧ t.engine.turn = .job
      ∧ t.engine.probes = x :: xs ∧ x.profile = n ∧ x.trial = trial ∧ x.condition = .running
      ∧ ∃ e ∈ t.engine.routes, e.profile = m ∧ e.block = s.lane.blockCounter + 1 ∧ e.running = false := by
  intro t
  have href := hc.probeRef hprobes
  obtain ⟨htrial, -, hwants⟩ := hneeds.eq
  have hengine := blockEvent_queuesProbe (frame := frame) hr hv (href n) (hwants (href n)) hable hold hprobes
  have hother (i : ProfileId) (hi : i ≠ n) :=
    (ProfileTurn.controllerEvent (s.lane.blockCounter + 1) [] (s.blockCompleted frame) n).only.other i hi
  have hasks := controllerEvent_asksFor (k := s.lane.blockCounter + 1) (flipped := []) (s := s.blockCompleted frame)
    (n := n) (by rw [blockCompleted_profile]; exact hbm) (by rw [blockCompleted_profileInUse]; exact hm)
  have hevent : t = EventRun.finish (s.lane.blockCounter + 1)
      ⟨stateAfter (execInner .arbiterStart (controllerEvent (s.lane.blockCounter + 1) [] (s.blockCompleted frame) n))
        (controllerEvent (s.lane.blockCounter + 1) [] (s.blockCompleted frame) n), 0, [n], [], []⟩ := rfl
  generalize (s.profile n).windowTo (s.lane.blockCounter + 1) = w at hengine
  generalize controllerEvent (s.lane.blockCounter + 1) [] (s.blockCompleted frame) n = c at *
  rw [arbiterStart_probe (by rw [hengine]; exact hmac) (by rw [hengine]; exact hroutes) (by rw [hengine]; exact hturn)
    (by rw [hengine]; nofun)] at hevent
  obtain ⟨h1, h2, h3, ⟨xs, h4⟩, h5⟩ := finish_suspends (k := s.lane.blockCounter + 1) (n := n) (m := m) (a := startProbe c)
    (x := ProbeEntry.beginStep { (s.profile n).probeEntry n w with condition := .running } c)
    rfl (by simp only [startProbe, hengine]; exact hroutes) (by simp only [startProbe, hengine]) rfl
    (fun i hi => by
      have h : (startProbe c).profile i = (s.blockCompleted frame).profile i := hother i hi
      rw [h, blockCompleted_profile]
      exact href i)
    hasks
  rw [← hevent] at h1 h2 h3 h4 h5
  exact ⟨_, xs, h1, h2, h3, h4, rfl, htrial.symm, rfl, h5⟩

/-- Settles O8: each clause names the turn at which the block event does it, and what comes before and after leaves it. -/
theorem bankFlipAtBlockEvent : Obligations.BankFlipAtBlockEvent := by
  refine ⟨fun s frame n within hr ho h31 hw hb hs hf ha hp => ?flips, fun s frame n within hr ho h31 hw hb hs hc => ?controls,
    fun s frame n m trial sel hr ho h31 hv hb hc hneeds => ?suspends⟩
  case flips =>
    exact ⟨_, exec_frameTaken_last frame within hr ho h31,
      blockEvent_flips hw (Profile.flipsAt_iff.mpr ⟨hb, hs, hf⟩) ha hp⟩
  case controls =>
    exact ⟨_, exec_frameTaken_last frame within hr ho h31, blockEvent_controls hw hb hs hc⟩
  case suspends =>
    intro k p hable hold hmac hroutes hprobes hturn hbm hm
    obtain ⟨x, xs, h⟩ := blockEvent_suspends (frame := frame) hr hv hc hneeds hable hold hmac hroutes hprobes hturn hbm hm
    exact ⟨_, x, xs, exec_frameTaken_last frame _ hr ho h31, h⟩

end Sys2Proof.Machine

namespace Sys2Proof.Machine

/-! ### The record of a profile whose route pass expires (R33, R36, R41) -/

theorem Profile.refs_setRefs (p : Profile) (b c : BankId) (x : Nat) :
    (p.setRefs b x).refs c = if c = b then x else p.refs c := by
  cases b <;> cases c <;> rfl

@[simp] theorem Profile.ring_setRefs (p : Profile) (b : BankId) (x : Nat) : (p.setRefs b x).ring = p.ring := by
  cases b <;> rfl

/-- A copy leaves references and ring as they are. -/
theorem Profile.copyIfDue_routes (B : Block) (p : Profile) :
    (p.copyIfDue B).refs = p.refs ∧ (p.copyIfDue B).ring = p.ring ∧ (p.copyIfDue B).trim = p.trim
      ∧ (p.copyIfDue B).trimBlock = p.trimBlock ∧ (p.copyIfDue B).expiredCount = p.expiredCount := by
  unfold Profile.copyIfDue
  split
  · cases hs : p.spare <;> exact ⟨funext fun c => by cases c <;> rfl, rfl, rfl, rfl, rfl⟩
  · exact ⟨rfl, rfl, rfl, rfl, rfl⟩

/-- A copy that is due (R33). -/
theorem Profile.copyIfDue_due {B : Block} {p : Profile} (hs : p.stage = .waitingSpare) (hr : p.refs p.spare = 0) :
    (p.copyIfDue B).stage = .waitingFlip ∧ (p.copyIfDue B).flipEvent = some (B + 1)
      ∧ (p.copyIfDue B).bank p.spare = ⟨p.candidate, p.generation + 1⟩ := by
  rw [Profile.copyIfDue, if_pos ⟨hs, hr⟩]
  cases p.spare <;> exact ⟨rfl, rfl, rfl⟩

theorem Profile.copyIfDue_referenced {B : Block} {p : Profile} (hr : p.refs p.spare ≠ 0) : p.copyIfDue B = p := by
  rw [Profile.copyIfDue, if_neg fun h => hr h.2]

theorem Profile.expireBlock_pending {p : Profile} {j : Block} (h : p.entryState j = .pending) :
    (p.expireBlock j).ring.get (ringIndex j) = { p.ring.get (ringIndex j) with state := .expired } := by
  simp [Profile.expireBlock, Profile.awaits, h]

theorem Profile.expireBlock_other {p : Profile} {j : Block} (h : p.entryState j ≠ .pending) :
    (p.expireBlock j).ring = p.ring := by
  simp [Profile.expireBlock, Profile.awaits, h]

/-- An expiry writes the ring and the count alone. -/
theorem Profile.expireBlock_eq (p : Profile) (j : Block) :
    p.expireBlock j = { p with ring := (p.expireBlock j).ring, expiredCount := satInc p.expiredCount } := by
  simp only [Profile.expireBlock]
  split <;> rfl

theorem Profile.refs_queueBlock (p : Profile) (k : Block) (b : BankId) :
    (p.queueBlock k).refs b = if b = p.bankFor k then p.refs b + 1 else p.refs b := by
  have h : (p.queueBlock k).refs b = (p.setRefs (p.bankFor k) (p.refs (p.bankFor k) + 1)).refs b := by
    cases b <;> rfl
  rw [h, Profile.refs_setRefs]
  split
  · next e => rw [e]
  · rfl

/-- The record after a route pass of block k is queued, but for references and ring. -/
theorem Profile.queueBlock_eq (p : Profile) (k : Block) : p.queueBlock k
    = { p with refs0 := (p.queueBlock k).refs0, refs1 := (p.queueBlock k).refs1, ring := (p.queueBlock k).ring } := by
  unfold Profile.queueBlock
  cases p.bankFor k <;> rfl

theorem Profile.entryState_queueBlock (p : Profile) (k : Block) : (p.queueBlock k).entryState k = .pending := by
  simp [Profile.entryState, Profile.queueBlock]

/-- Blocks k and k − 2 have different entries of an output ring. -/
theorem ringIndex_sub_two_ne (k : Block) : ringIndex (k - 2) ≠ ringIndex k := by
  intro h
  have h' : (k - 2).toNat % 4 = k.toNat % 4 := congrArg Fin.val h
  bv_omega

theorem Profile.ring_queueBlock_sub_two (p : Profile) (k : Block) :
    (p.queueBlock k).ring.get (ringIndex (k - 2)) = p.ring.get (ringIndex (k - 2)) := by
  simp only [Profile.queueBlock, Profile.ring_setRefs, vset_get_ne _ _ (ringIndex_sub_two_ne k)]

theorem satInc_toNat (w : Word) : (satInc w).toNat = min 65535 (w.toNat + 1) := by
  unfold satInc
  split
  · next h => subst h; rfl
  · next h => bv_omega

/-- The record after block k − 2 expires on bank b at block event k, before the test of R21 (R33, R41). -/
def Profile.expired (k : Block) (b : BankId) (p : Profile) : Profile :=
  ((p.expireBlock (k - 2)).setRefs b (p.refs b - 1)).copyIfDue k

theorem Profile.expired_table (k : Block) (b : BankId) (p : Profile) : TableOnly k p (p.expired k b) :=
  ((TableOnly.expireBlock k _ p).trans (.setRefs k _ b _)).trans (.copyIfDue k _)

theorem Profile.afterDrop_expireBlock (k : Block) (b : BankId) (p : Profile) :
    (p.expireBlock (k - 2)).afterDrop k b = if (p.expired k b).retired then .cleared else p.expired k b := by
  have h : (p.expireBlock (k - 2)).refs b = p.refs b := by
    rw [Profile.expireBlock_eq]
    cases b <;> rfl
  rw [Profile.afterDrop, h]
  rfl

theorem Profile.refs_expired (k : Block) (b c : BankId) (p : Profile) :
    (p.expired k b).refs c = if c = b then p.refs c - 1 else p.refs c := by
  have h : (p.expireBlock (k - 2)).refs c = p.refs c := by
    rw [Profile.expireBlock_eq]
    cases c <;> rfl
  rw [Profile.expired, (Profile.copyIfDue_routes k _).1, Profile.refs_setRefs, h]
  split
  · next e => rw [e]
  · rfl

theorem Profile.ring_expired (k : Block) (b : BankId) (p : Profile) : (p.expired k b).ring = (p.expireBlock (k - 2)).ring := by
  rw [Profile.expired, (Profile.copyIfDue_routes k _).2.1, Profile.ring_setRefs]

theorem Profile.expired_counts (k : Block) (b : BankId) (p : Profile) : (p.expired k b).trim = p.trim
    ∧ (p.expired k b).trimBlock = p.trimBlock ∧ (p.expired k b).expiredCount = satInc p.expiredCount := by
  obtain ⟨-, -, ht, htb, hx⟩ := Profile.copyIfDue_routes k ((p.expireBlock (k - 2)).setRefs b (p.refs b - 1))
  rw [Profile.expired, ht, htb, hx, Profile.expireBlock_eq]
  cases b <;> exact ⟨rfl, rfl, rfl⟩

/-- The commit that waits for the spare, when an expiry drops a reference (R33). -/
theorem Profile.expired_commit (k : Block) (b : BankId) {p : Profile} (hs : p.stage = .waitingSpare) :
    ((p.expired k b).refs p.spare = 0 → (p.expired k b).stage = .waitingFlip ∧ (p.expired k b).flipEvent = some (k + 1)
      ∧ (p.expired k b).bank p.spare = ⟨p.candidate, p.generation + 1⟩)
    ∧ ((p.expired k b).refs p.spare ≠ 0 →
      (p.expired k b).stage = .waitingSpare ∧ (p.expired k b).bank p.spare = p.bank p.spare) := by
  generalize hy : (p.expireBlock (k - 2)).setRefs b (p.refs b - 1) = y
  have hz : p.expired k b = y.copyIfDue k := by rw [← hy]; rfl
  have heq : y = { p with
      refs0 := y.refs0, refs1 := y.refs1, ring := y.ring, expiredCount := y.expiredCount } := by
    rw [← hy, Profile.expireBlock_eq]
    cases b <;> rfl
  have hspare : y.spare = p.spare := by rw [heq]; rfl
  have hbank : y.bank p.spare = p.bank p.spare := by
    rw [heq]
    cases p.spare <;> rfl
  have hstage : y.stage = .waitingSpare := by rw [heq]; exact hs
  rw [hz, (Profile.copyIfDue_routes k y).1, ← hspare]
  refine ⟨fun h => ?_, fun h => ?_⟩
  · obtain ⟨h1, h2, h3⟩ := Profile.copyIfDue_due (B := k) hstage h
    exact ⟨h1, h2, h3.trans (by rw [heq])⟩
  · rw [Profile.copyIfDue_referenced h, hspare]
    exact ⟨hstage, hbank⟩

/-! ### The record under the controller and the flips -/

/-- q is p but for what the controller and the flip of block event k write; without a flip the live bank and the commit stay. -/
structure ControlOnly (k : Block) (p q : Profile) : Prop where
  record    : q = { p with
    candidate := q.candidate, generation := q.generation, live := q.live, stage := q.stage, flipEvent := q.flipEvent
    adapt := q.adapt, search := q.search, restartRun := q.restartRun, probesRun := q.probesRun
    lastOutcome := q.lastOutcome, probeRef := q.probeRef }
  unflipped : p.flipsAt k = false → q.stage = p.stage ∧ q.flipEvent = p.flipEvent

namespace ControlOnly

variable {k : Block} {p q r : Profile}

theorem refl (k : Block) (p : Profile) : ControlOnly k p p := ⟨rfl, fun _ => ⟨rfl, rfl⟩⟩

theorem state (h : ControlOnly k p q) : q.state = p.state := by rw [h.record]
theorem ring (h : ControlOnly k p q) : q.ring = p.ring := by rw [h.record]
theorem refs (h : ControlOnly k p q) (b : BankId) : q.refs b = p.refs b := by
  rw [h.record]
  cases b <;> rfl
theorem bank (h : ControlOnly k p q) (b : BankId) : q.bank b = p.bank b := by
  rw [h.record]
  cases b <;> rfl

theorem flipsAt (h : ControlOnly k p q) (hp : p.flipsAt k = false) : q.flipsAt k = false := by
  obtain ⟨hs, he⟩ := h.unflipped hp
  rw [Profile.flipsAt, h.state, hs, he]
  exact hp

theorem trans (a : ControlOnly k p q) (b : ControlOnly k q r) : ControlOnly k p r := by
  refine ⟨by rw [b.record, a.record], fun h => ?_⟩
  obtain ⟨s1, e1⟩ := a.unflipped h
  obtain ⟨s2, e2⟩ := b.unflipped (a.flipsAt h)
  exact ⟨s2.trans s1, e2.trans e1⟩

end ControlOnly

theorem AdaptOnly.controlOnly {p q : Profile} (k : Block) (h : AdaptOnly p q) : ControlOnly k p q := by
  refine ⟨?_, fun _ => ⟨?_, ?_⟩⟩ <;> rw [h]

/-- A bank flip as the table and the controller write it. -/
theorem bankFlip_controlOnly (k : Block) (s : State) (n : ProfileId) :
    ControlOnly k (s.profile n) ((bankFlip k s n).profile n) := by
  cases h : (s.profile n).flipsAt k with
  | false => rw [bankFlip_of_not_due h]; exact .refl k _
  | true =>
    refine ⟨?_, fun h' => absurd h (by rw [h']; nofun)⟩
    rw [bankFlip_adaptOnly h]
    rfl

/-- The bank of block k before its flip is the bank after it (R32, R34). -/
theorem Profile.bankFor_flip {k : Block} {p q : Profile} (h : p.flipsAt k = true) (hq : AdaptOnly p.flip q) :
    q.bankFor k = p.bankFor k := by
  obtain ⟨-, hs, he⟩ := Profile.flipsAt_iff.mp h
  rw [hq]
  simp [Profile.bankFor, Profile.flip, hs, he]

theorem bankFlip_bankFor (k : Block) (s : State) (n : ProfileId) :
    ((bankFlip k s n).profile n).bankFor k = (s.profile n).bankFor k := by
  cases h : (s.profile n).flipsAt k with
  | false => rw [bankFlip_of_not_due h]
  | true => exact Profile.bankFor_flip h (bankFlip_adaptOnly h)

/-- The record after the engine's question, of a profile that it asks for or not. -/
def Profile.asked (k : Block) (queued : Prop) [Decidable queued] (p : Profile) : Profile :=
  if queued then p.queueBlock k else p

/-- The question writes references and the ring alone. -/
theorem Profile.asked_eq (k : Block) (queued : Prop) [Decidable queued] (p : Profile) : p.asked k queued
    = { p with refs0 := (p.asked k queued).refs0, refs1 := (p.asked k queued).refs1, ring := (p.asked k queued).ring } := by
  unfold Profile.asked
  split
  · exact p.queueBlock_eq k
  · rfl

theorem Profile.ring_asked_sub_two (k : Block) (queued : Prop) [Decidable queued] (p : Profile) :
    (p.asked k queued).ring.get (ringIndex (k - 2)) = p.ring.get (ringIndex (k - 2)) := by
  unfold Profile.asked
  split
  · exact p.ring_queueBlock_sub_two k
  · rfl

section
variable {k : Block} {b : BankId} {p p2 q : Profile} {queued : Prop} [Decidable queued]

/-- The references after an expiry and the engine's question: one of the expired entry's bank less, one of the bank of block k
more. -/
theorem Profile.expired_refs (hflip : ControlOnly k p p2) (hbank : p2.bankFor k = p.bankFor k)
    (hq : ControlOnly k ((p2.expired k b).asked k queued) q) (c : BankId) :
    let left : Nat := if c = b then p.refs c - 1 else p.refs c
    (queued → c = p.bankFor k → q.refs c = left + 1) ∧ (¬ (queued ∧ c = p.bankFor k) → q.refs c = left) := by
  intro left
  have hleft : (p2.expired k b).refs c = left := by rw [Profile.refs_expired, hflip.refs]
  have hb : (p2.expired k b).bankFor k = p.bankFor k := (p2.expired_table k b).bankFor.trans hbank
  rw [hq.refs, Profile.asked]
  refine ⟨fun h hc => ?_, fun h => ?_⟩
  · rw [if_pos h, Profile.refs_queueBlock, hb, if_pos hc, hleft]
  · split
    · next hqd => rw [Profile.refs_queueBlock, hb, if_neg fun hc => h ⟨hqd, hc⟩, hleft]
    · exact hleft

/-- The ring entry of block k − 2 after its expiry (R36, R41). -/
theorem Profile.expired_entry (hflip : ControlOnly k p p2) (hq : ControlOnly k ((p2.expired k b).asked k queued) q) :
    (p.entryState (k - 2) = .pending →
      q.ring.get (ringIndex (k - 2)) = { p.ring.get (ringIndex (k - 2)) with state := .expired })
    ∧ (p.entryState (k - 2) ≠ .pending → q.ring.get (ringIndex (k - 2)) = p.ring.get (ringIndex (k - 2))) := by
  have hentry : p2.entryState (k - 2) = p.entryState (k - 2) := by simp only [Profile.entryState, hflip.ring]
  rw [hq.ring, Profile.ring_asked_sub_two, Profile.ring_expired, ← hflip.ring, ← hentry]
  exact ⟨Profile.expireBlock_pending, fun h => by rw [Profile.expireBlock_other h]⟩

/-- The counts, the trim history and the flags after an expiry (R41). -/
theorem Profile.expired_kept (hflip : ControlOnly k p p2) (hq : ControlOnly k ((p2.expired k b).asked k queued) q) :
    q.state = p.state ∧ q.expiredCount.toNat = min 65535 (p.expiredCount.toNat + 1) ∧ q.trim = p.trim
      ∧ q.trimBlock = p.trimBlock ∧ q.dynamicSat = p.dynamicSat ∧ q.staticSat = p.staticSat ∧ q.wrap = p.wrap := by
  obtain ⟨htrim, htrimBlock, hcount⟩ := p2.expired_counts k b
  rw [hq.record, Profile.asked_eq]
  simp only
  rw [htrim, htrimBlock, hcount, satInc_toNat, (p2.expired_table k b).record, hflip.record]
  exact ⟨rfl, rfl, rfl, rfl, rfl, rfl, rfl⟩

/-- A commit that waits for the spare, after an expiry (R33). -/
theorem Profile.expired_waiting (hsame : p.flipsAt k = false → p2 = p)
    (hq : ControlOnly k ((p2.expired k b).asked k queued) q) (hs : p.stage = .waitingSpare) :
    let left : Nat := if p.spare = b then p.refs p.spare - 1 else p.refs p.spare
    (left = 0 → q.stage = .waitingFlip ∧ q.flipEvent = some (k + 1) ∧ q.bank p.spare = ⟨p.candidate, p.generation + 1⟩)
      ∧ (left ≠ 0 → q.stage = .waitingSpare ∧ q.bank p.spare = p.bank p.spare) := by
  intro left
  obtain rfl := hsame (Profile.not_flipsAt_of_stage (by rw [hs]; nofun) k)
  have hleft : (p2.expired k b).refs p2.spare = left := Profile.refs_expired k b p2.spare p2
  obtain ⟨hdue, hwaits⟩ := Profile.expired_commit k b hs
  rw [hleft] at hdue hwaits
  generalize p2.expired k b = z at *
  have hbank (c : BankId) : (z.asked k queued).bank c = z.bank c := by
    rw [Profile.asked_eq]
    cases c <;> rfl
  have hstage : (z.asked k queued).stage = z.stage ∧ (z.asked k queued).flipEvent = z.flipEvent := by
    rw [Profile.asked_eq]
    exact ⟨rfl, rfl⟩
  refine ⟨fun h => ?_, fun h => ?_⟩
  · obtain ⟨h1, h2, h3⟩ := hdue h
    have hnot : (z.asked k queued).flipsAt k = false := by simp [Profile.flipsAt, hstage.2, h2]
    obtain ⟨hs', he'⟩ := hq.unflipped hnot
    exact ⟨hs'.trans (hstage.1.trans h1), he'.trans (hstage.2.trans h2), by rw [hq.bank, hbank, h3]⟩
  · obtain ⟨h1, h2⟩ := hwaits h
    have hnot := Profile.not_flipsAt_of_stage (p := z.asked k queued) (by rw [hstage.1, h1]; nofun) k
    exact ⟨(hq.unflipped hnot).1.trans (hstage.1.trans h1), by rw [hq.bank, hbank, h2]⟩

end

end Sys2Proof.Machine

namespace Sys2Proof.Machine

/-! ### What comes before the engine's part of a block event -/

theorem State.profileInUse_iff {s : State} {n : ProfileId} : s.profileInUse n = true ↔ ∃ i, (s.slot i).names n = true := by
  simp only [State.profileInUse, List.any_eq_true]
  constructor
  · rintro ⟨t, ht, hn⟩
    obtain ⟨i, hi, rfl⟩ := Vector.mem_iff_getElem.mp (Vector.mem_toList_iff.mp ht)
    exact ⟨⟨i, hi⟩, hn⟩
  · rintro ⟨i, hn⟩
    exact ⟨s.slot i, Vector.mem_toList_iff.mpr (Vector.mem_iff_getElem.mpr ⟨i.val, i.isLt, rfl⟩), hn⟩

theorem State.profileActive_iff {s : State} {taken : List SlotId} {n : ProfileId} : s.profileActive taken n = true
    ↔ (∃ i, (s.slot i).names n = true) ∨ ∃ i ∈ taken, (s.slot i).outgoing = some (.profile n) := by
  rw [State.profileActive, Bool.or_eq_true, State.profileInUse_iff, List.any_eq_true]
  simp only [beq_iff_eq]

/-- What the engine finds at its part of block event k, the slot map having taken the event for these slots: the state is as s is
but for slots that are taken and flips that were due, and the same profiles are in use. -/
structure BeforeEngine (k : Block) (taken : List SlotId) (s t : State) : Prop where
  event   : EventOnly s t
  engine  : t.engine = s.engine
  active  : ∀ n, t.profileActive taken n = s.profileInUse n
  record  : ∀ n, ControlOnly k (s.profile n) (t.profile n)
  bankFor : ∀ n, (t.profile n).bankFor k = (s.profile n).bankFor k
  same    : ∀ n, (s.profile n).flipsAt k = false → t.profile n = s.profile n

/-- The slot map has taken block event k for the slots of the run, and for no other. -/
structure SlotsTaken (k : Block) (s : State) (r : EventRun) : Prop where
  only  : SlotsOnly s r.state
  taken : ∀ i ∈ r.slots, (r.state.slot i).source = (s.slot i).takePending.source ∧ (r.state.slot i).pending = none
    ∧ (r.state.slot i).outgoing = (s.slot i).takePending.outgoing
  left  : ∀ i, i ∉ r.slots → r.state.slot i = s.slot i

theorem slotEvent_slot (k : Block) (s : State) (i j : SlotId) :
    (slotEvent k s i).slot j = if j = i then s.slotAfter k (s.slot i) else s.slot j := by
  have hmod : (s.modSlot i fun _ => s.slotAfter k (s.slot i)).slot j
      = if j = i then s.slotAfter k (s.slot i) else s.slot j := State.slot_modSlot s i j _
  rw [← hmod]
  simp only [slotEvent]
  split
  · rw [(onlyNotices_notifyOpt _ _ _).state]; rfl
  · rfl

theorem SlotsTaken.takeSlot {k : Block} {s : State} {r : EventRun} (h : SlotsTaken k s r) (i : SlotId) :
    SlotsTaken k s (r.takeSlot k i) := by
  unfold EventRun.takeSlot
  split
  · exact h
  · next hi =>
    have hi' : i ∉ r.slots := by simpa using hi
    refine ⟨h.only.trans (.slotEvent k _ i), fun j hj => ?_, fun j hj => ?_⟩
    · simp only [slotEvent_slot]
      by_cases e : j = i
      · rw [if_pos e, e, h.left i hi']
        exact ⟨rfl, rfl, rfl⟩
      · rw [if_neg e]
        exact h.taken j ((List.mem_cons.mp hj).resolve_left e)
    · obtain ⟨e, hj'⟩ := not_or.mp (fun h => hj (List.mem_cons.mpr h))
      simp only [slotEvent_slot, if_neg e]
      exact h.left j hj'

/-- Slots given in any order, repetitions being void. -/
theorem SlotsTaken.foldl {k : Block} {s : State} (order : List SlotId) : ∀ r : EventRun, SlotsTaken k s r →
    ∃ st taken, (order.map .slot).foldl (EventRun.take k) r = { r with state := st, slots := taken }
      ∧ SlotsTaken k s { r with state := st, slots := taken } := by
  induction order with
  | nil => exact fun r h => ⟨r.state, r.slots, rfl, h⟩
  | cons i order ih =>
    intro r h
    obtain ⟨st, taken, hr, ht⟩ := ih _ (h.takeSlot i)
    have hkeep : ({ r.takeSlot k i with state := st, slots := taken } : EventRun)
        = { r with state := st, slots := taken } := by
      unfold EventRun.takeSlot
      split <;> rfl
    rw [List.map_cons, List.foldl_cons]
    exact ⟨st, taken, hr.trans hkeep, hkeep ▸ ht⟩

/-- A slot that is taken names a profile by its source, or by the source it has left, just if it did before (R51). -/
theorem Slot.names_takePending {t u : Slot} (n : ProfileId) (hs : u.source = t.takePending.source) (hp : u.pending = none)
    (ho : u.outgoing = t.takePending.outgoing) :
    (u.names n = true ∨ u.outgoing = some (.profile n)) ↔ t.names n = true := by
  cases h : t.pending with
  | none => simp [Slot.names, hs, hp, ho, Slot.takePending, h]
  | some x => simp [Slot.names, hs, hp, ho, Slot.takePending, h, or_comm]

theorem SlotsTaken.active {k : Block} {s : State} {r : EventRun} (h : SlotsTaken k s r) (n : ProfileId) :
    r.state.profileActive r.slots n = s.profileInUse n := by
  rw [Bool.eq_iff_iff, State.profileActive_iff, State.profileInUse_iff]
  have taken (i : SlotId) (hi : i ∈ r.slots) := by
    obtain ⟨h1, h2, h3⟩ := h.taken i hi
    exact Slot.names_takePending n h1 h2 h3
  constructor
  · rintro (⟨i, hi⟩ | ⟨i, hm, ho⟩)
    · by_cases hm : i ∈ r.slots
      · exact ⟨i, (taken i hm).mp (.inl hi)⟩
      · exact ⟨i, h.left i hm ▸ hi⟩
    · exact ⟨i, (taken i hm).mp (.inr ho)⟩
  · rintro ⟨i, hi⟩
    by_cases hm : i ∈ r.slots
    · rcases (taken i hm).mpr hi with h' | h'
      · exact .inl ⟨i, h'⟩
      · exact .inr ⟨i, hm, h'⟩
    · exact .inl ⟨i, (h.left i hm).symm ▸ hi⟩

theorem SlotsTaken.beforeEngine {k : Block} {s : State} {r : EventRun} (h : SlotsTaken k s r) :
    BeforeEngine k r.slots s r.state :=
  ⟨h.only.eventOnly, h.only.engine, h.active, fun n => by rw [h.only.profile]; exact .refl k _,
    fun n => by rw [h.only.profile], fun n _ => h.only.profile n⟩

/-- Flips given one after another. -/
theorem foldl_take_flip (k : Block) (l : List ProfileId) : ∀ r : EventRun,
    ∃ flipped, (l.map .flip).foldl (EventRun.take k) r = { r with state := l.foldl (bankFlip k) r.state, flipped := flipped } := by
  induction l with
  | nil => exact fun r => ⟨r.flipped, rfl⟩
  | cons n l ih =>
    intro r
    obtain ⟨flipped, h⟩ := ih (EventRun.take k r (.flip n))
    exact ⟨flipped, h⟩

theorem bankFlips_beforeEngine (k : Block) (s : State) : BeforeEngine k [] s (bankFlips k s) := by
  have hslots : (bankFlips k s).slots = s.slots :=
    (foldl_turns_routes id (bankFlip k) (ProfileTurn.bankFlip k) allProfiles s).2
  have hrecord (n : ProfileId) : ∃ u, u.profile n = s.profile n ∧ (bankFlips k s).profile n = (bankFlip k u n).profile n := by
    obtain ⟨u, hu, hafter⟩ := Keeps.bankFlips n k s
    exact ⟨u, hu.profile_eq, hafter.profile_eq⟩
  refine ⟨.bankFlips k s, bankFlips_engine k s, fun n => ?_, fun n => ?_, fun n => ?_, fun n h => ?_⟩
  · rw [State.profileActive_nil, State.profileInUse, hslots]
    rfl
  all_goals
    obtain ⟨u, hu, hafter⟩ := hrecord n
    rw [hafter, ← hu]
  · exact bankFlip_controlOnly k u n
  · exact bankFlip_bankFor k u n
  · rw [← hu] at h
    rw [bankFlip_of_not_due h]

/-- The moments that may come before the engine's part, and what is left of the event then. -/
theorem blockEvent_beforeEngine {k : Block} {within : List Moment} (s : State)
    (hw : (∃ order : List SlotId, within = order.map .slot) ∨ within = allProfiles.map .flip) :
    ∃ u taken flipped, BeforeEngine k taken s u ∧ blockEventTaken k within s
      = slotMapEvent k taken (bankFlips k (controllerBlockEvent k [] flipped (engineRest k taken 0 u))) := by
  rcases hw with ⟨order, rfl⟩ | rfl
  · obtain ⟨st, taken, hr, ht⟩ := SlotsTaken.foldl (k := k) (s := s) order ⟨s, 0, [], [], []⟩
      ⟨SlotsOnly.refl s, fun i hi => absurd hi List.not_mem_nil, fun _ _ => rfl⟩
    exact ⟨st, taken, [], ht.beforeEngine, by rw [blockEventTaken, hr, EventRun.finish]⟩
  · obtain ⟨flipped, hr⟩ := foldl_take_flip k allProfiles ⟨s, 0, [], [], []⟩
    exact ⟨bankFlips k s, [], flipped, bankFlips_beforeEngine k s, by rw [blockEventTaken, hr, EventRun.finish, ← bankFlips]⟩

/-! ### What comes after the engine's part -/

theorem controllerBlockEvent_routes (k : Block) (treated flipped : List ProfileId) (s : State) :
    (controllerBlockEvent k treated flipped s).engine.routes = s.engine.routes :=
  (foldl_turns_routes id (controllerEvent k flipped) (ProfileTurn.controllerEvent k flipped) _
    { s with choices := s.choices + 1 }).1

/-- The controller, the flips and the slot map after the engine's part. -/
def eventTail (k : Block) (taken : List SlotId) (flipped : List ProfileId) (s : State) : State :=
  slotMapEvent k taken (bankFlips k (controllerBlockEvent k [] flipped s))

theorem eventTail_routes (k : Block) (taken : List SlotId) (flipped : List ProfileId) (s : State) :
    (eventTail k taken flipped s).engine.routes = s.engine.routes := by
  rw [eventTail, (SlotsOnly.slotMapEvent k taken _).engine, bankFlips_engine, controllerBlockEvent_routes]

theorem eventTail_event (k : Block) (taken : List SlotId) (flipped : List ProfileId) (s : State) :
    EventOnly s (eventTail k taken flipped s) :=
  ((EventOnly.controllerBlockEvent k [] flipped s).trans (.bankFlips k _)).trans (SlotsOnly.slotMapEvent k taken _).eventOnly

/-- A BOUND profile after the engine's part. -/
theorem eventTail_bound {k : Block} (taken : List SlotId) (flipped : List ProfileId) {s : State} {n : ProfileId}
    (hb : (s.profile n).state = .bound) :
    ControlOnly k (s.profile n) ((eventTail k taken flipped s).profile n) := by
  obtain ⟨u, hu, hcontrol⟩ := Keeps.controllerBlockEvent k (n := n) (treated := []) flipped List.not_mem_nil s
  obtain ⟨v, hv, hflip⟩ := Keeps.bankFlips n k (controllerBlockEvent k [] flipped s)
  have hbu : (u.profile n).state = .bound := by rw [hu.profile_eq, hb]
  have h1 := (AdaptOnly.controllerEvent k flipped hbu).controlOnly k
  have h2 := bankFlip_controlOnly k v n
  rw [eventTail, (SlotsOnly.slotMapEvent k taken _).profile, hflip.profile_eq]
  rw [hv.profile_eq, hcontrol.profile_eq] at h2
  rw [hu.profile_eq] at h1
  exact h1.trans h2

/-- A profile that is not BOUND and rests after the engine's part. -/
theorem eventTail_resting {k : Block} (taken : List SlotId) (flipped : List ProfileId) {s : State} {n : ProfileId}
    (hb : (s.profile n).state ≠ .bound) (hf : (s.profile n).probeRef = false) (ha : (s.profile n).adapt = .idle) :
    (eventTail k taken flipped s).profile n = s.profile n := by
  obtain ⟨hf', hw, hc⟩ := Profile.rests_of_idle (n := n) (flipped := flipped) hf (.inl ha)
  have hcontrol := Keeps.controllerBlockEvent_idle k [] flipped hf' hw hc
  have hnot : ((controllerBlockEvent k [] flipped s).profile n).flipsAt k = false := by
    rw [hcontrol.profile_eq]
    simp [Profile.flipsAt, hb]
  rw [eventTail, (SlotsOnly.slotMapEvent k taken _).profile, (Keeps.bankFlips_of_not_due hnot).profile_eq,
    hcontrol.profile_eq]

end Sys2Proof.Machine

namespace Sys2Proof.Machine

/-! ### The engine's part of a block event (R64, R65) -/

/-- An expiry frees a RETIRING profile or leaves its state, so it makes none BOUND. -/
theorem expireRoutes_bound {k : Block} {s : State} {n : ProfileId} (h : ((expireRoutes k s).profile n).state = .bound) :
    (s.profile n).state = .bound := by
  have hdrop (B : Block) (b : BankId) (p : Profile) (h : (p.afterDrop B b).state = .bound) : p.state = .bound := by
    simp only [Profile.afterDrop] at h
    split at h
    · cases h
    · exact ((TableOnly.setRefs B p b _).trans (.copyIfDue B _)).state.symm.trans h
  revert h
  unfold expireRoutes
  extract_lets due gone e s'
  refine foldl_relates (P := fun _ => True)
    (Rel := fun s t => (t.profile n).state = .bound → (s.profile n).state = .bound) (fun _ => id)
    (fun _ _ _ a b h => a (b h)) (fun _ _ _ _ => trivial) _ gone (fun s _ e _ h => ?_) s' trivial
  by_cases he : n = e.profile
  · rw [he] at h ⊢
    rw [routeExpired_profile] at h
    exact (TableOnly.expireBlock e.block e.block _).state.symm.trans (hdrop _ _ _ h)
  · rw [(ProfileTurn.routeExpired e.profile e.block e.bank s).only.other n he] at h
    exact h

/-- The engine asks for the BOUND profiles that are in use at the block event (R51). -/
theorem BeforeEngine.asks_iff {k : Block} {taken : List SlotId} {s u : State} (h : BeforeEngine k taken s u)
    (hB : u.lane.blockCounter = k) (n : ProfileId) :
    (expireRoutes k u).asksFor taken n = true ↔ (s.profile n).state = .bound ∧ s.profileInUse n = true := by
  have hactive : (expireRoutes k u).profileActive taken n = s.profileInUse n := by
    rw [← h.active, State.profileActive, State.profileInUse, expireRoutes_slots]
    simp only [State.slot, expireRoutes_slots]
    rfl
  rw [State.asksFor, hactive, Bool.and_eq_true, beq_iff_eq]
  refine and_congr_left fun _ => ⟨fun hb => (h.record n).state ▸ expireRoutes_bound hb, fun hb => ?_⟩
  have hbu := (h.record n).state.trans hb
  exact (Keeps.expireRoutes k hB hbu).record.state.trans hbu

/-- The end of retirement is told to the deleting port (R21). -/
theorem freeTest_told {s : State} {n : ProfileId} {d : Port} (h : (s.profile n).retired = true)
    (hd : (s.profile n).deletingPort = some d) : ((freeTest n s).port d).notices.profileGone.getLsbD n.val = true := by
  simp only [freeTest, h, if_true, hd, State.notifyOpt, State.port_modProfile, State.port_notify]
  exact PortState.noticed_bit (Notices.setBy_profileGone n) _

/-- The expiry of block k − 2 at block event k, for one entry (R33, R41). -/
theorem routeExpired_expired {k : Block} {n : ProfileId} (b : BankId) {s : State} (hB : s.lane.blockCounter = k) :
    let z := (s.profile n).expired k b
    ((routeExpired n (k - 2) b s).profile n = if z.retired then .cleared else z)
      ∧ (z.retired = true → ∀ d, (s.profile n).deletingPort = some d →
        ((routeExpired n (k - 2) b s).port d).notices.profileGone.getLsbD n.val = true) := by
  intro z
  refine ⟨by rw [routeExpired_profile, hB, Profile.afterDrop_expireBlock], fun hz d hd => ?_⟩
  have hrefs : ((s.profile n).expireBlock (k - 2)).refs b = (s.profile n).refs b := by
    rw [Profile.expireBlock_eq]
    cases b <;> rfl
  unfold routeExpired dropReference
  generalize hu : tryCopy n _ = u
  have hp : u.profile n = z := by
    rw [← hu]
    simp only [tryCopy, State.profile_modProfile_same, State.lane_modProfile, hB, hrefs]
    rfl
  refine freeTest_told (by rw [hp]; exact hz) ?_
  rw [hp]
  exact (congrArg Profile.deletingPort ((s.profile n).expired_table k b).record).trans hd

/-- The expiry stage for a profile with one due entry, of block k − 2. -/
theorem expireRoutes_single {k : Block} {s : State} {e : RouteEntry} (hB : s.lane.blockCounter = k)
    (hblock : e.block = k - 2)
    (hone : (s.engine.routes.filter fun x => x.profile == e.profile && !x.running && x.deadline == k) = [e]) :
    let z := (s.profile e.profile).expired k e.bank
    ((expireRoutes k s).profile e.profile = if z.retired then .cleared else z)
      ∧ (z.retired = true → ∀ d, (s.profile e.profile).deletingPort = some d →
        ((expireRoutes k s).port d).notices.profileGone.getLsbD e.profile.val = true) := by
  intro z
  unfold expireRoutes
  extract_lets due gone en s'
  have hgone : gone.filter (fun x => x.profile == e.profile) = [e] := by
    simp only [gone, due, List.filter_filter, ← Bool.and_assoc]
    exact hone
  obtain ⟨pre, post, hsplit, hpre, -, hpost⟩ := List.filter_eq_cons_iff.mp hgone
  have hpost' := List.filter_eq_nil_iff.mp hpost
  have others (l : List RouteEntry) (hl : ∀ x ∈ l, ¬ (x.profile == e.profile) = true) (s : State) :
      Keeps e.profile Eq s (l.foldl (fun s x => routeExpired x.profile x.block x.bank s) s) :=
    .foldl _ l (fun s x hx => (ProfileTurn.routeExpired x.profile x.block x.bank s).keeps
      fun h : e.profile = x.profile => hl x hx (by simp [h])) s
  have hbefore := others pre hpre s'
  rw [hsplit, List.foldl_append, List.foldl_cons]
  generalize pre.foldl _ s' = u at hbefore
  have hprofile : u.profile e.profile = s.profile e.profile := hbefore.profile_eq
  have hafter := others post hpost' (routeExpired e.profile e.block e.bank u)
  obtain ⟨hrecord, htold⟩ := routeExpired_expired (n := e.profile) e.bank (s := u)
    ((congrArg Lane.blockCounter hbefore.event.lane).trans hB)
  rw [hprofile] at hrecord htold
  rw [hblock] at hafter ⊢
  exact ⟨hafter.profile_eq.trans hrecord,
    fun hz d hd => hafter.adds.kept (Notices.setBy_profileGone e.profile) (htold hz d hd)⟩

/-! ### The block event as a whole (R4) -/

/-- The states of a block event: u is what the engine finds and t the end. -/
structure EngineEvent (k : Block) (taken : List SlotId) (flipped : List ProfileId) (s u t : State) : Prop where
  counter : u.lane.blockCounter = k
  before  : BeforeEngine k taken s u
  after   : t = eventTail k taken flipped (engineRest k taken 0 u)

namespace EngineEvent

variable {k : Block} {taken : List SlotId} {flipped : List ProfileId} {s u t : State}

/-- The route queue at the end: what does not expire, then an entry for each BOUND profile in use. -/
theorem mem_routes (h : EngineEvent k taken flipped s u t) (e : RouteEntry) : e ∈ t.engine.routes
    ↔ (e ∈ s.engine.routes ∧ (e.running = true ∨ e.deadline ≠ k))
      ∨ ∃ n, ((s.profile n).state = .bound ∧ s.profileInUse n = true) ∧ (expireRoutes k u).newRoute k n = e := by
  have hkeep (x : RouteEntry) : (!(!x.running && x.deadline == k)) = true ↔ x.running = true ∨ x.deadline ≠ k := by
    cases x.running <;> simp
  rw [h.after, eventTail_routes, (engineRest_queued k taken u).engine]
  simp only [List.mem_append, List.mem_map, List.mem_filter, mem_allProfiles, true_and, expireRoutes_routes,
    h.before.engine, hkeep, h.before.asks_iff h.counter]

/-- The record that the engine's part leaves, before the controller, the flips and the slot map. -/
theorem profile_engineRest (h : EngineEvent k taken flipped s u t) (n : ProfileId) :
    (engineRest k taken 0 u).profile n
      = if (s.profile n).state = .bound ∧ s.profileInUse n = true then ((expireRoutes k u).profile n).queueBlock k
        else (expireRoutes k u).profile n := by
  rw [(engineRest_queued k taken u).profile]
  simp only [mem_allProfiles, true_and, h.before.asks_iff h.counter]

/-- A BOUND profile from the engine's part on. -/
theorem tail_bound (h : EngineEvent k taken flipped s u t) {n : ProfileId} (hb : (s.profile n).state = .bound) :
    ControlOnly k ((engineRest k taken 0 u).profile n) (t.profile n) := by
  rw [h.after]
  have hbu := (h.before.record n).state.trans hb
  exact eventTail_bound taken flipped ((Keeps.engineRest k taken h.counter hbu).record.state.trans hbu)

/-- A BOUND profile in use is asked for, on the bank of block k (R32, R37, R65). -/
theorem queues (h : EngineEvent k taken flipped s u t) {n : ProfileId} (hb : (s.profile n).state = .bound)
    (hn : s.profileInUse n = true) : (t.profile n).entryState k = .pending
      ∧ ∃ e ∈ t.engine.routes, e.profile = n ∧ e.block = k ∧ e.bank = (s.profile n).bankFor k ∧ e.deadline = k + 2
        ∧ e.running = false := by
  have hbu := (h.before.record n).state.trans hb
  have hrecord := h.profile_engineRest n
  rw [if_pos ⟨hb, hn⟩] at hrecord
  refine ⟨?_, _, (h.mem_routes _).mpr (.inr ⟨n, ⟨hb, hn⟩, rfl⟩), rfl, rfl, ?_, rfl, rfl⟩
  · rw [Profile.entryState, (h.tail_bound hb).ring, hrecord]
    exact Profile.entryState_queueBlock _ k
  · exact (Keeps.expireRoutes k h.counter hbu).record.bankFor.trans (h.before.bankFor n)

/-- The record of a profile that is BOUND, or RETIRING with its adaptation at rest, after the expiry of its one due entry (R33,
R36, R41); and the end of a retirement (R21). -/
theorem expires (h : EngineEvent k taken flipped s u t) {e : RouteEntry} (hblock : e.block = k - 2)
    (hone : (s.engine.routes.filter fun x => x.profile == e.profile && !x.running && x.deadline == k) = [e])
    (hp : (s.profile e.profile).state = .bound ∨ ((s.profile e.profile).state = .retiring
      ∧ (s.profile e.profile).adapt = .idle ∧ (s.profile e.profile).probeRef = false)) :
    let p := s.profile e.profile
    let left (b : BankId) : Nat := if b = e.bank then p.refs b - 1 else p.refs b
    let freed : Prop := p.state = .retiring ∧ left .bank0 = 0 ∧ left .bank1 = 0
    let queued : Prop := p.state = .bound ∧ s.profileInUse e.profile = true
    (freed → t.profile e.profile = .cleared ∧ ∀ d, p.deletingPort = some d →
      (t.port d).notices.profileGone.getLsbD e.profile.val = true)
    ∧ (¬ freed → ControlOnly k (((u.profile e.profile).expired k e.bank).asked k queued) (t.profile e.profile)) := by
  intro p left freed queued
  have hflip := h.before.record e.profile
  obtain ⟨hexpired, htold⟩ := expireRoutes_single h.counter hblock (by rw [h.before.engine]; exact hone)
  have htable := (u.profile e.profile).expired_table k e.bank
  have hleft (b : BankId) : ((u.profile e.profile).expired k e.bank).refs b = left b := by
    rw [Profile.refs_expired, hflip.refs]
  have hrest := h.profile_engineRest e.profile
  rcases hp with hb | ⟨hret, hidle, href⟩
  · have hretired := Profile.retired_of_bound (htable.state.trans (hflip.state.trans hb))
    refine ⟨fun hf => absurd (hb.symm.trans hf.1) (by nofun), fun _ => ?_⟩
    rw [hretired, if_neg (by nofun)] at hexpired
    rw [hexpired] at hrest
    have htail := h.tail_bound hb
    rw [hrest] at htail
    exact htail
  · have hsame : u.profile e.profile = p := h.before.same e.profile (by simp [Profile.flipsAt, hret])
    have hnotBound : p.state ≠ .bound := by rw [hret]; nofun
    rw [if_neg fun hq => hnotBound hq.1] at hrest
    have hasked : ((u.profile e.profile).expired k e.bank).asked k queued = (u.profile e.profile).expired k e.bank :=
      if_neg fun hq => hnotBound hq.1
    have hz : ((u.profile e.profile).expired k e.bank).state = .retiring
        ∧ ((u.profile e.profile).expired k e.bank).adapt = .idle
        ∧ ((u.profile e.profile).expired k e.bank).probeRef = false := by
      rw [htable.record, hsame]
      exact ⟨hret, hidle, href⟩
    have hretired : ((u.profile e.profile).expired k e.bank).retired = true ↔ freed := by
      have h0 := hleft .bank0
      have h1 := hleft .bank1
      simp only [Profile.refs] at h0 h1
      have hp : p.state = .retiring := hret
      simp [Profile.retired, hz.1, hz.2.2, h0, h1, freed, hp]
    have htail (hs : ((engineRest k taken 0 u).profile e.profile).state ≠ .bound)
        (hf : ((engineRest k taken 0 u).profile e.profile).probeRef = false)
        (ha : ((engineRest k taken 0 u).profile e.profile).adapt = .idle) :
        t.profile e.profile = (engineRest k taken 0 u).profile e.profile := by
      rw [h.after]
      exact eventTail_resting taken flipped hs hf ha
    refine ⟨fun hf => ⟨?_, fun d hd => ?_⟩, fun hf => ?_⟩
    · rw [if_pos (hretired.mpr hf)] at hexpired
      rw [hexpired] at hrest
      rw [hrest] at htail
      exact htail (by nofun) rfl rfl
    · have hadds : (expireRoutes k u).Adds (fun _ => True) t := by
        rw [h.after]
        exact (((engineRest_queued k taken u).keeps 0 (B := k)).event.trans (eventTail_event k taken flipped _)).adds
      exact hadds.kept (Notices.setBy_profileGone e.profile) (htold (hretired.mpr hf) d (by rw [hsame]; exact hd))
    · rw [if_neg (mt hretired.mp hf)] at hexpired
      rw [hexpired] at hrest
      rw [hrest] at htail
      rw [hasked, htail (by rw [hz.1]; nofun) hz.2.2 hz.2.1]
      exact .refl k _

end EngineEvent

/-- Settles O6: whatever comes before the engine's part leaves its questions their answers, and what comes after it writes
neither the route queue nor what the table records of a pass. -/
theorem blockEventQueuesRoutePasses : Obligations.BlockEventQueuesRoutePasses := by
  intro s frame within hr ho h31 hw k
  obtain ⟨u, taken, flipped, hbefore, hafter⟩ := blockEvent_beforeEngine (k := k) (s.blockCompleted frame) hw
  have hcounter : u.lane.blockCounter = k := by rw [hbefore.event.lane]; rfl
  have hevent : EngineEvent k taken flipped (s.blockCompleted frame) u
      (blockEventTaken k within (s.blockCompleted frame)) := ⟨hcounter, hbefore, hafter⟩
  refine ⟨_, exec_frameTaken_last frame within hr ho h31, ?_⟩
  generalize blockEventTaken k within (s.blockCompleted frame) = t at hevent
  have hroutes := hevent.mem_routes
  simp only [blockCompleted_engine, blockCompleted_profile, blockCompleted_profileInUse] at hroutes
  refine ⟨fun e he hrun => ?expires, fun e he hrun => ?running, fun e he => ?old, fun n hb hn => ?queued,
    fun e hdeadline hblock hone => ?record⟩
  case expires =>
    rcases (hroutes e).mp he with ⟨-, h | h⟩ | ⟨n, -, rfl⟩
    · rw [h] at hrun; cases hrun
    · exact h
    · show k + 2 ≠ k
      bv_omega
  case running => exact (hroutes e).mpr (.inl ⟨he, .inl hrun⟩)
  case old =>
    rcases (hroutes e).mp he with ⟨h, -⟩ | ⟨n, h, rfl⟩
    · exact .inl h
    · exact .inr ⟨h.1, h.2, rfl⟩
  case queued =>
    have hq := hevent.queues (n := n) (by rw [blockCompleted_profile]; exact hb)
      (by rw [blockCompleted_profileInUse]; exact hn)
    rw [blockCompleted_profile] at hq
    exact hq
  case record =>
    intro n p q left queued freed hp
    have hflip := hevent.before.record n
    have hsame := hevent.before.same n
    have hbank := hevent.before.bankFor n
    have hx := hevent.expires hblock (by rw [blockCompleted_engine]; exact hone) (by rw [blockCompleted_profile]; exact hp)
    simp only [blockCompleted_profile, blockCompleted_profileInUse] at hx hflip hsame hbank
    obtain ⟨hfreed, hkept⟩ := hx
    refine ⟨hfreed, fun hf => ?_⟩
    have hq := hkept hf
    obtain ⟨hstate, hcount, htrim, htrimBlock, hdyn, hstat, hwrap⟩ := Profile.expired_kept hflip hq
    obtain ⟨hpending, hother⟩ := Profile.expired_entry hflip hq
    exact ⟨hstate, hcount, Profile.expired_refs hflip hbank hq, hpending, hother, htrim, htrimBlock, hdyn, hstat, hwrap,
      fun hs => (Profile.expired_waiting hsame hq hs).1, fun hs => (Profile.expired_waiting hsame hq hs).2⟩

end Sys2Proof.Machine

/-! SUPPORT. The invariants of the profile table under every step: members and slots, bank references, probes (O59, O60). -/

namespace Sys2Proof.Machine

/-! ### What the invariants say of one record -/

/-- Only a BOUND record has members, and its leader is no follower (R22). -/
def Profile.MembersSound (p : Profile) : Prop :=
  (p.state ≠ .bound → p.leader = none ∧ p.followers = 0) ∧ ∀ q, p.leader = some q → p.followers.getLsbD q.val = false

/-- No commit of the record waits for a spare bank that nothing references (R33). -/
def Profile.CopySettled (p : Profile) : Prop := p.stage = .waitingSpare → p.refs p.spare ≠ 0

/-- The search position has a probe window just when the record has its probe reference (R92, R93). -/
def Profile.WindowMarked (p : Profile) : Prop := p.search.window.isSome = p.probeRef

/-- The record goes over with its references and its probe reference, keeping what the invariants say of it. A change of other
fields alone is such a step by ⟨id, fun _ => rfl, id, rfl, id⟩. -/
structure RecordStep (p q : Profile) : Prop where
  members  : p.MembersSound → q.MembersSound
  refs     : ∀ b, q.refs b = p.refs b
  copy     : p.CopySettled → q.CopySettled
  probeRef : q.probeRef = p.probeRef
  window   : p.WindowMarked → q.WindowMarked

theorem RecordStep.refl (p : Profile) : RecordStep p p := ⟨id, fun _ => rfl, id, rfl, id⟩

/-- After its copy no commit of the record is overdue (R33). -/
theorem Profile.copySettled_copyIfDue (B : Block) (p : Profile) : (p.copyIfDue B).CopySettled := by
  unfold Profile.copyIfDue
  split
  · exact fun h => nomatch h
  · next h => exact fun hs hr => h ⟨hs, hr⟩

theorem Profile.copyIfDue_eq (B : Block) (p : Profile) : p.copyIfDue B = { p with
    bank0 := (p.copyIfDue B).bank0, bank1 := (p.copyIfDue B).bank1, stage := (p.copyIfDue B).stage
    flipEvent := (p.copyIfDue B).flipEvent } := by
  unfold Profile.copyIfDue
  split
  · cases p.spare <;> rfl
  · rfl

theorem RecordStep.copyIfDue (B : Block) (p : Profile) : RecordStep p (p.copyIfDue B) := by
  have h := p.copySettled_copyIfDue B
  generalize hq : p.copyIfDue B = q at h
  rw [← hq, Profile.copyIfDue_eq, hq] at *
  exact ⟨id, fun _ => rfl, fun _ => h, rfl, id⟩

/-- A new commit, copied at once when nothing references the spare (R33). -/
theorem RecordStep.startCommit (B : Block) (p : Profile) :
    RecordStep p (({ p with stage := .waitingSpare } : Profile).copyIfDue B) := by
  have h := RecordStep.copyIfDue B { p with stage := .waitingSpare }
  exact ⟨h.members, h.refs, fun _ => Profile.copySettled_copyIfDue B _, h.probeRef, h.window⟩

theorem Profile.membersSound_cleared : Profile.cleared.MembersSound := ⟨fun _ => ⟨rfl, rfl⟩, fun _ h => nomatch h⟩
theorem Profile.copySettled_cleared : Profile.cleared.CopySettled := fun h => nomatch h

/-- The end of retirement clears a record that nothing reads (R21). -/
theorem RecordStep.cleared {p : Profile} (h : p.retired = true) : RecordStep p .cleared := by
  simp only [Profile.retired, Bool.and_eq_true, beq_iff_eq, Bool.not_eq_true'] at h
  obtain ⟨⟨⟨-, h0⟩, h1⟩, hf⟩ := h
  refine ⟨fun _ => Profile.membersSound_cleared, fun b => ?_, fun _ => Profile.copySettled_cleared, hf.symm, fun _ => rfl⟩
  cases b
  · exact h0.symm
  · exact h1.symm

/-! ### What the invariants read of the queues -/

/-- What the references count of a route entry: its profile and its bank (R31). -/
def RouteEntry.key (e : RouteEntry) : ProfileId × BankId := (e.profile, e.bank)

theorem filter_length_eq_count {α β : Type} [BEq β] [LawfulBEq β] (key : α → β) (p : α → Bool) (b : β) (l : List α)
    (h : ∀ a, p a = (key a == b)) : (l.filter p).length = (l.map key).count b := by
  rw [← List.countP_eq_length_filter, List.count, List.countP_map]
  exact List.countP_congr fun a _ => by rw [h a]; rfl

theorem Engine.readers_eq_count (e : Engine) (n : ProfileId) (b : BankId) :
    e.readers n b = (e.routes.map RouteEntry.key).count (n, b) :=
  filter_length_eq_count RouteEntry.key _ (n, b) e.routes fun _ => rfl

theorem State.probesCounted_iff (s : State) : s.ProbesCounted
    ↔ ∀ n, (s.engine.probes.map ProbeEntry.profile).count n = boolNat (s.profile n).probeRef ∧ (s.profile n).WindowMarked :=
  forall_congr' fun n => by
    rw [← filter_length_eq_count ProbeEntry.profile (fun x => x.profile == n) n s.engine.probes fun _ => rfl]
    rfl

theorem State.membersSound_iff (s : State) : s.MembersSound ↔ ∀ n, (s.profile n).MembersSound := Iff.rfl
theorem State.noCopyOverdue_iff (s : State) : s.NoCopyOverdue ↔ ∀ n, (s.profile n).CopySettled := Iff.rfl

theorem State.referencesCounted_iff (s : State) : s.ReferencesCounted
    ↔ ∀ n b, (s.profile n).refs b = (s.engine.routes.map RouteEntry.key).count (n, b) :=
  forall₂_congr fun n b => by rw [Engine.readers_eq_count]

/-- The slot's source or pending source is the profile, as SlotsNameBound says it. -/
theorem Slot.names_iff (t : Slot) (n : ProfileId) :
    t.names n = true ↔ t.source = .profile n ∨ t.pending = some (.profile n) := by
  simp [Slot.names]

theorem State.slotsNameBound_iff (s : State) :
    s.SlotsNameBound ↔ ∀ i n, (s.slot i).names n = true → (s.profile n).state = .bound :=
  forall₂_congr fun i n => by rw [Slot.names_iff]

/-! ### The invariants from one state to a later one -/

/-- From s to t the invariants of members, slots and probes are kept. -/
structure KeepsMembers (s t : State) : Prop where
  members : s.MembersSound → t.MembersSound
  slots   : s.SlotsNameBound → t.SlotsNameBound
  probes  : s.ProbesCounted → t.ProbesCounted

/-- From s to t every invariant of the profile table is kept. -/
structure KeepsTable (s t : State) : Prop extends KeepsMembers s t where
  references : s.ReferencesCounted → s.NoCopyOverdue → t.ReferencesCounted ∧ t.NoCopyOverdue

/-- From s to t the invariants are kept but for the one of the probes. -/
structure KeepsRows (s t : State) : Prop where
  members    : s.MembersSound → t.MembersSound
  slots      : s.SlotsNameBound → t.SlotsNameBound
  references : s.ReferencesCounted → s.NoCopyOverdue → t.ReferencesCounted ∧ t.NoCopyOverdue

theorem KeepsTable.rows {s t : State} (h : KeepsTable s t) : KeepsRows s t := ⟨h.members, h.slots, h.references⟩

theorem KeepsRows.table {s t : State} (h : KeepsRows s t) (probes : s.ProbesCounted → t.ProbesCounted) : KeepsTable s t :=
  ⟨⟨h.members, h.slots, probes⟩, h.references⟩

theorem KeepsRows.trans {s t u : State} (a : KeepsRows s t) (b : KeepsRows t u) : KeepsRows s u :=
  ⟨b.members ∘ a.members, b.slots ∘ a.slots, fun h g => b.references (a.references h g).1 (a.references h g).2⟩

theorem KeepsMembers.refl (s : State) : KeepsMembers s s := ⟨id, id, id⟩

theorem KeepsMembers.trans {s t u : State} (a : KeepsMembers s t) (b : KeepsMembers t u) : KeepsMembers s u :=
  ⟨b.members ∘ a.members, b.slots ∘ a.slots, b.probes ∘ a.probes⟩

theorem KeepsMembers.foldl {α : Type} (step : State → α → State) (h : ∀ s a, KeepsMembers s (step s a)) (l : List α) :
    ∀ s, KeepsMembers s (l.foldl step s) := by
  induction l with
  | nil => exact .refl
  | cons a l ih => exact fun s => (h s a).trans (ih _)

namespace KeepsTable

variable {s t u : State} {n : ProfileId}

theorem refl (s : State) : KeepsTable s s := ⟨.refl s, fun h g => ⟨h, g⟩⟩

theorem trans (a : KeepsTable s t) (b : KeepsTable t u) : KeepsTable s u :=
  ⟨a.toKeepsMembers.trans b.toKeepsMembers, fun h g => b.references (a.references h g).1 (a.references h g).2⟩

theorem foldl {α : Type} (step : State → α → State) (h : ∀ s a, KeepsTable s (step s a)) (l : List α) :
    ∀ s, KeepsTable s (l.foldl step s) := by
  induction l with
  | nil => exact refl
  | cons a l ih => exact fun s => (h s a).trans (ih _)

/-- Record steps throughout, with the queues of the same keys. A slot may come to name what is BOUND, and a record that is no
longer BOUND is named by no slot. -/
theorem of_records (records : ∀ n, RecordStep (s.profile n) (t.profile n))
    (bound : ∀ n, (s.profile n).state = .bound → (t.profile n).state = .bound ∨ ∀ i, (t.slot i).names n = false)
    (names : ∀ i n, (t.slot i).names n = true → (s.slot i).names n = true ∨ (s.profile n).state = .bound)
    (routes : t.engine.routes.map RouteEntry.key = s.engine.routes.map RouteEntry.key)
    (probes : t.engine.probes.map ProbeEntry.profile = s.engine.probes.map ProbeEntry.profile) : KeepsTable s t := by
  refine ⟨⟨fun h n => (records n).members (h n), ?_, ?_⟩, ?_⟩
  · rw [State.slotsNameBound_iff, State.slotsNameBound_iff]
    intro h i n hn
    have hb : (s.profile n).state = .bound := (names i n hn).elim (h i n) id
    exact (bound n hb).resolve_right fun g => by rw [g i] at hn; cases hn
  · rw [State.probesCounted_iff, State.probesCounted_iff, probes]
    intro h n
    exact ⟨(h n).1.trans (congrArg boolNat (records n).probeRef.symm), (records n).window (h n).2⟩
  · rw [State.referencesCounted_iff, State.referencesCounted_iff, routes]
    exact fun h g => ⟨fun n b => ((records n).refs b).trans (h n b), fun n => (records n).copy (g n)⟩

/-- Nothing changes that the invariants read. -/
theorem of_eq (profiles : t.profiles = s.profiles) (slots : t.slots = s.slots)
    (routes : t.engine.routes = s.engine.routes) (probes : t.engine.probes = s.engine.probes) : KeepsTable s t := by
  have hp (n : ProfileId) : t.profile n = s.profile n := by rw [State.profile, profiles]; rfl
  have hs (i : SlotId) : t.slot i = s.slot i := by rw [State.slot, slots]; rfl
  refine of_records (fun n => by rw [hp]; exact .refl _) (fun n h => .inl (by rw [hp]; exact h))
    (fun i n h => .inl (by rwa [hs] at h)) (by rw [routes]) (by rw [probes])

theorem modPort (s : State) (p : Port) (f : PortState → PortState) : KeepsTable s (s.modPort p f) := of_eq rfl rfl rfl rfl

theorem of_onlyNotices (h : OnlyNotices s t) : KeepsTable s t := by
  rw [h.state]
  exact of_eq rfl rfl rfl rfl

/-- The change of one record. -/
theorem modProfile {f : Profile → Profile} (record : RecordStep (s.profile n) (f (s.profile n)))
    (bound : (s.profile n).state = .bound → (f (s.profile n)).state = .bound ∨ s.profileInUse n = false) :
    KeepsTable s (s.modProfile n f) := by
  refine of_records (fun m => ?_) (fun m hm => ?_) (fun i m h => .inl h) rfl rfl
  · rw [State.profile_modProfile]
    split
    · next e => subst e; exact record
    · exact .refl _
  · rw [State.profile_modProfile]
    split
    · next e =>
      subst e
      refine (bound hm).imp id fun hu i => ?_
      rw [← Bool.not_eq_true]
      exact fun hi => Bool.false_ne_true (hu.symm.trans (State.profileInUse_iff.mpr ⟨i, hi⟩))
    · exact .inl hm

/-- A change of fields of one record that no invariant reads, or that keeps what they say, the state staying. -/
theorem modRecord {f : Profile → Profile}
    (record : ∀ p, RecordStep p (f p) := by exact fun _ => ⟨id, fun _ => rfl, id, rfl, id⟩)
    (state : ∀ p, (f p).state = p.state := by exact fun _ => rfl) : KeepsTable s (s.modProfile n f) :=
  modProfile (record _) fun h => .inl ((state _).trans h)

/-- A change of the engine that keeps the keys of its queues. -/
theorem setEngine (e : Engine) (routes : e.routes.map RouteEntry.key = s.engine.routes.map RouteEntry.key)
    (probes : e.probes.map ProbeEntry.profile = s.engine.probes.map ProbeEntry.profile) :
    KeepsTable s { s with engine := e } :=
  of_records (fun _ => .refl _) (fun _ h => .inl h) (fun _ _ h => .inl h) routes probes

/-! ### The table's own operations -/

theorem tryCopy (n : ProfileId) (s : State) : KeepsTable s (tryCopy n s) :=
  modRecord (RecordStep.copyIfDue _) fun p => by rw [Profile.copyIfDue_eq]

theorem startCommit (n : ProfileId) (s : State) : KeepsTable s (startCommit n s) := by
  unfold Machine.startCommit Machine.tryCopy
  rw [State.modProfile_modProfile]
  exact modRecord (RecordStep.startCommit _) fun p => by rw [Profile.copyIfDue_eq]

theorem freeTest (n : ProfileId) (s : State) : KeepsTable s (freeTest n s) := by
  unfold Machine.freeTest
  split
  · next h =>
    have hn := onlyNotices_notifyOpt s (s.profile n).deletingPort (.profileGone n)
    refine (of_onlyNotices hn).trans (modProfile ?_ fun hb => ?_)
    · rw [hn.profile]; exact .cleared h
    · rw [hn.profile] at hb
      rw [Profile.retired_of_bound hb] at h
      cases h
  · exact refl s

end KeepsTable

/-! ### References that the table drops (R31, R41, R42) -/

/-- The references of the banks count the readers in the queue and those of the entries in `gone`, which have left the queue. -/
def State.ReferencesOwed (s : State) (gone : List RouteEntry) : Prop :=
  ∀ n b, (s.profile n).refs b = ((gone ++ s.engine.routes).map RouteEntry.key).count (n, b)

theorem Profile.refs_afterDrop (B : Block) (b c : BankId) (p : Profile) :
    (p.afterDrop B b).refs c = if c = b then p.refs b - 1 else p.refs c := by
  have h : ((p.setRefs b (p.refs b - 1)).copyIfDue B).refs c = if c = b then p.refs b - 1 else p.refs c := by
    rw [(Profile.copyIfDue_routes B _).1, Profile.refs_setRefs]
  unfold Profile.afterDrop
  extract_lets q
  split
  · next hr => rw [← h, (RecordStep.cleared hr).refs]
  · exact h

theorem Profile.copySettled_afterDrop (B : Block) (b : BankId) (p : Profile) : (p.afterDrop B b).CopySettled := by
  unfold Profile.afterDrop
  extract_lets q
  split
  · exact Profile.copySettled_cleared
  · exact Profile.copySettled_copyIfDue B _

theorem KeepsMembers.dropReference (n : ProfileId) (b : BankId) (s : State) : KeepsMembers s (dropReference n b s) := by
  have hset : KeepsMembers s (s.modProfile n fun p => p.setRefs b (p.refs b - 1)) := by
    have hp (m : ProfileId) : ∃ x y, (s.modProfile n fun p => p.setRefs b (p.refs b - 1)).profile m
        = { s.profile m with refs0 := x, refs1 := y } := by
      rw [State.profile_modProfile]
      split
      · next e => subst e; cases b <;> exact ⟨_, _, rfl⟩
      · exact ⟨_, _, rfl⟩
    refine ⟨fun h m => ?_, fun h i m hm => ?_, fun h m => ?_⟩
    all_goals obtain ⟨x, y, e⟩ := hp m
    · rw [e]; exact h m
    · rw [e]; exact h i m hm
    · rw [e]; exact h m
  exact (hset.trans (KeepsTable.tryCopy n _).toKeepsMembers).trans (KeepsTable.freeTest n _).toKeepsMembers

/-- One reference dropped, of an entry that has left the queue. -/
theorem State.ReferencesOwed.dropReference {s : State} {e : RouteEntry} {gone : List RouteEntry}
    (h : s.ReferencesOwed (e :: gone)) (hs : s.NoCopyOverdue) :
    (dropReference e.profile e.bank s).ReferencesOwed gone ∧ (dropReference e.profile e.bank s).NoCopyOverdue := by
  have turn := ProfileTurn.dropReference e.profile e.bank s
  refine ⟨fun n b => ?_, fun n => ?_⟩
  · have hc : (s.profile n).refs b = ((gone ++ s.engine.routes).map RouteEntry.key).count (n, b)
        + if e.key = (n, b) then 1 else 0 := by
      rw [h n b, List.cons_append, List.map_cons, List.count_cons]
      simp only [beq_iff_eq]
    rw [turn.routes]
    by_cases hn : n = e.profile
    · subst hn
      rw [dropReference_profile, Profile.refs_afterDrop]
      by_cases hb : b = e.bank
      · subst hb; simp [hc, RouteEntry.key]
      · have hk : ¬ e.key = (e.profile, b) := fun g => hb (Prod.ext_iff.mp g).2.symm
        rw [if_neg hb, hc, if_neg hk, Nat.add_zero]
    · have hk : ¬ e.key = (n, b) := fun g => hn (Prod.ext_iff.mp g).1.symm
      rw [turn.only.other n hn, hc, if_neg hk, Nat.add_zero]
  · by_cases hn : n = e.profile
    · subst hn
      rw [dropReference_profile]
      exact Profile.copySettled_afterDrop _ _ _
    · rw [turn.only.other n hn]
      exact hs n

/-- The references of entries that have left the queue, dropped one after another, each after a step on the record. -/
theorem State.ReferencesOwed.foldl {g : RouteEntry → Profile → Profile} (record : ∀ e p, RecordStep p (g e p))
    (gone : List RouteEntry) : ∀ s : State, s.ReferencesOwed gone → s.NoCopyOverdue →
      let t := gone.foldl (fun s e => Machine.dropReference e.profile e.bank (s.modProfile e.profile (g e))) s
      t.ReferencesOwed [] ∧ t.NoCopyOverdue := by
  induction gone with
  | nil => exact fun s h hs => ⟨h, hs⟩
  | cons x gone ih =>
    intro s h hs
    have hx : (s.modProfile x.profile (g x)).ReferencesOwed (x :: gone) := fun n b => by
      rw [State.profile_modProfile]
      split
      · next hn => subst hn; rw [(record x _).refs]; exact h _ b
      · exact h n b
    have hu : (s.modProfile x.profile (g x)).NoCopyOverdue := fun n => by
      rw [State.profile_modProfile]
      split
      · next hn => subst hn; exact (record x _).copy (hs _)
      · exact hs n
    exact ih _ (hx.dropReference hu).1 (hx.dropReference hu).2

/-- What the table does with entries that leave the queue: a step on the record, then the reference is dropped. -/
theorem KeepsTable.dropReferences {s : State} {gone : List RouteEntry} (g : RouteEntry → Profile → Profile)
    (record : ∀ e p, RecordStep p (g e p)) (state : ∀ e p, (g e p).state = p.state) {e : Engine}
    (routes : (gone ++ e.routes).Perm s.engine.routes) (probes : e.probes = s.engine.probes) :
    KeepsTable s (gone.foldl (fun s e => dropReference e.profile e.bank (s.modProfile e.profile (g e)))
      { s with engine := e }) := by
  refine ⟨?_, fun h hs => ?_⟩
  · have hengine : KeepsMembers s { s with engine := e } :=
      ⟨id, id, fun h n => by rw [probes]; exact h n⟩
    exact hengine.trans (.foldl _ (fun s e =>
      (modRecord (record e) (state e)).toKeepsMembers.trans (.dropReference _ _ _)) _ _)
  · have howed : ({ s with engine := e } : State).ReferencesOwed gone := fun n b =>
      (s.referencesCounted_iff.mp h n b).trans ((routes.map _).count_eq _).symm
    obtain ⟨hr, hc⟩ := State.ReferencesOwed.foldl record gone _ howed hs
    exact ⟨(State.referencesCounted_iff _).mpr hr, hc⟩

theorem RecordStep.expireBlock (k : Block) (p : Profile) : RecordStep p (p.expireBlock k) := by
  rw [Profile.expireBlock_eq]
  exact ⟨id, fun _ => rfl, id, rfl, id⟩

theorem Profile.completeBlock_eq (p : Profile) (k gen : Block) (ys : List Sample) (x y : Bool) :
    p.completeBlock k gen ys x y = { p with
      ring := (p.completeBlock k gen ys x y).ring, trim := (p.completeBlock k gen ys x y).trim
      trimBlock := (p.completeBlock k gen ys x y).trimBlock
      dynamicSat := x, staticSat := p.staticSat || x, wrap := p.wrap || y } := by
  unfold Profile.completeBlock
  split <;> rfl

theorem RecordStep.completeBlock (p : Profile) (k gen : Block) (ys : List Sample) (x y : Bool) :
    RecordStep p (p.completeBlock k gen ys x y) := by
  rw [Profile.completeBlock_eq]
  exact ⟨id, fun _ => rfl, id, rfl, id⟩

namespace KeepsTable

theorem expireRoutes (k : Block) (s : State) : KeepsTable s (expireRoutes k s) :=
  dropReferences (fun e p => p.expireBlock e.block) (fun e p => .expireBlock e.block p)
    (fun e p => by rw [Profile.expireBlock_eq]) (List.filter_append_perm _ _) rfl

theorem removeRoutes (s : State) : KeepsTable s (removeRoutes s) := by
  have hid (s : State) (n : ProfileId) : s.modProfile n id = s := by simp [State.modProfile, State.profile]
  have h := dropReferences (s := s) (fun _ => id) (fun _ => RecordStep.refl) (fun _ _ => rfl)
    (gone := s.engine.routes.filter fun e => !e.running)
    (e := { s.engine with routes := s.engine.routes.filter fun e => e.running }) ?_ rfl
  · simp only [hid] at h
    exact h
  · exact (List.perm_append_comm).trans (List.filter_append_perm _ _)

theorem routeCompleted {s : State} {e : RouteEntry} (mac : UnitState) (ys : List Sample) (x y : Bool)
    (h : s.engine.runningRoute = some e) :
    KeepsTable s (routeCompleted e.profile e.block e.bank ys x y
      { s with engine := { s.engine with mac := mac, routes := s.engine.routes.eraseP RouteEntry.isRunning } }) := by
  refine dropReferences (s := s) (gone := [e]) (fun e p => p.completeBlock e.block ((s.profile e.profile).bank e.bank).generation ys x y)
    (fun e p => .completeBlock p _ _ _ _ _) (fun e p => by rw [Profile.completeBlock_eq]) ?_ rfl
  obtain ⟨hrun, pre, post, hl, hpre⟩ := List.find?_eq_some_iff_append.mp h
  have herase : s.engine.routes.eraseP RouteEntry.isRunning = pre ++ post := by
    rw [hl, List.eraseP_append_right _ (fun a ha => by simpa using hpre a ha), List.eraseP_cons_of_pos hrun]
  show (e :: s.engine.routes.eraseP RouteEntry.isRunning).Perm s.engine.routes
  rw [herase, hl]
  exact List.perm_middle.symm

/-- A route pass queued takes a reference of its bank (R31, R65). -/
theorem queueRoute (k : Block) (n : ProfileId) (s : State) : KeepsTable s (queueRoute k n s) := by
  have hp (m : ProfileId) : (Machine.queueRoute k n s).profile m
      = if m = n then (s.profile n).queueBlock k else s.profile m := State.profile_modProfile s n m fun p => p.queueBlock k
  have hq := Profile.queueBlock_eq (s.profile n) k
  refine ⟨⟨fun h m => ?_, fun h i m hm => ?_, fun h m => ?_⟩, fun h hs => ⟨?_, fun m => ?_⟩⟩
  · rw [hp]
    split
    · next e => rw [hq]; exact h n
    · exact h m
  · rw [hp]
    split
    · next e => subst e; rw [hq]; exact h i m hm
    · exact h i m hm
  · rw [hp]
    split
    · next e => subst e; rw [hq]; exact h m
    · exact h m
  · rw [State.referencesCounted_iff] at h ⊢
    intro m b
    have hr : (Machine.queueRoute k n s).engine.routes.map RouteEntry.key
        = s.engine.routes.map RouteEntry.key ++ [(n, (s.profile n).bankFor k)] := by
      simp [Machine.queueRoute, RouteEntry.key]
    rw [hp, hr, List.count_append, ← h m b, List.count_singleton]
    split
    · next e =>
      subst e
      rw [Profile.refs_queueBlock]
      by_cases hb : b = (s.profile m).bankFor k
      · simp [← hb]
      · simp [hb, Ne.symm hb]
    · next e => simp [Ne.symm e]
  · rw [hp]
    split
    · next e =>
      have hspare : ((s.profile n).queueBlock k).spare = (s.profile n).spare := by rw [hq]; rfl
      have hstage : ((s.profile n).queueBlock k).stage = (s.profile n).stage := by rw [hq]
      intro hw
      rw [hspare, Profile.refs_queueBlock]
      have := hs n (hstage ▸ hw)
      split
      · omega
      · exact this
    · exact hs m

theorem queueActive (k : Block) (taken : List SlotId) (s : State) (n : ProfileId) :
    KeepsTable s (queueActive k taken s n) := by
  unfold Machine.queueActive
  split
  · exact queueRoute k n s
  · exact refl s

theorem engineTurn (k : Block) (taken : List SlotId) (done : Nat) (s : State) : KeepsTable s (engineTurn k taken done s) := by
  unfold Machine.engineTurn
  split
  · exact expireRoutes k s
  · split
    · exact queueActive k taken s _
    · exact refl s

theorem engineRest (k : Block) (taken : List SlotId) (done : Nat) (s : State) : KeepsTable s (engineRest k taken done s) := by
  unfold Machine.engineRest
  refine trans ?_ (foldl _ (queueActive k taken) _ _)
  split
  · exact expireRoutes k s
  · exact refl s

end KeepsTable

/-! ### Probes (R69 to R73) -/

/-- The probes are counted, and the one of profile n is gone with its reference; its search position may still have a window. -/
def State.ProbeGone (s : State) (n : ProfileId) : Prop :=
  (∀ m, m ≠ n → s.ProbeCounted m) ∧ s.engine.probesOf n = [] ∧ (s.profile n).probeRef = false

/-- A turn for one profile that is a step on its record but for the fields that only the probes' invariant reads. -/
theorem KeepsRows.of_turn {s t : State} {n : ProfileId} (turn : ProfileTurn n s t) {x : Bool} {w : Option ProbeWindow}
    (record : RecordStep (s.profile n)
      { t.profile n with probeRef := x, search := { (t.profile n).search with window := w } })
    (state : (t.profile n).state = (s.profile n).state) : KeepsRows s t := by
  have hs (i : SlotId) : t.slot i = s.slot i := by rw [State.slot, turn.slots]; rfl
  have step (P : Profile → Prop) (hn : P (s.profile n) → P (t.profile n)) (h : ∀ m, P (s.profile m)) (m : ProfileId) :
      P (t.profile m) := by
    by_cases e : m = n
    · subst e; exact hn (h m)
    · rw [turn.only.other m e]; exact h m
  refine ⟨step Profile.MembersSound record.members, fun h i m hm => ?_, fun h hc => ⟨fun m b => ?_, ?_⟩⟩
  · rw [hs] at hm
    by_cases e : m = n
    · subst e; exact state.trans (h i m hm)
    · rw [turn.only.other m e]; exact h i m hm
  · rw [show t.engine.readers m b = s.engine.readers m b by rw [Engine.readers, turn.routes]; rfl, ← h m b]
    by_cases e : m = n
    · subst e; exact record.refs b
    · rw [turn.only.other m e]
  · exact step Profile.CopySettled record.copy hc

theorem State.ProbeCounted.of_eq {s t : State} {m : ProfileId} (h : s.ProbeCounted m) (probes : t.engine.probesOf m = s.engine.probesOf m)
    (profile : t.profile m = s.profile m) : t.ProbeCounted m := by
  rw [State.ProbeCounted, probes, profile]
  exact h

/-- Without a probe of profile n in the queue, the record says so. -/
theorem State.ProbeCounted.probeRef_of_nil {s : State} {n : ProfileId} (h : s.ProbeCounted n) (hx : s.engine.probesOf n = []) :
    (s.profile n).probeRef = false := by
  have hl := h.1
  rw [hx] at hl
  cases hf : (s.profile n).probeRef with
  | false => rfl
  | true => rw [hf] at hl; cases hl

/-- The end of retirement leaves the probes as they are. -/
theorem State.ProbeGone.freeTest {s : State} {n : ProfileId} (h : s.ProbeGone n) : (freeTest n s).ProbeGone n := by
  obtain ⟨hm, hnil, hf⟩ := h
  have turn := ProfileTurn.freeTest n s
  refine ⟨fun m e => (hm m e).of_eq (turn.probes m e) (turn.only.other m e), ?_, ?_⟩
  · unfold Machine.freeTest
    split
    · show (s.notifyOpt (s.profile n).deletingPort _).engine.probesOf n = []
      rw [(onlyNotices_notifyOpt _ _ _).engine]
      exact hnil
    · exact hnil
  · rw [freeTest_profile]
    split
    · rfl
    · exact hf

/-- With its probe gone, a search position without a window is counted. -/
theorem State.ProbeGone.modProfile {s : State} {n : ProfileId} (h : s.ProbeGone n) {f : Profile → Profile}
    (probeRef : ∀ p, (f p).probeRef = p.probeRef) (window : ∀ p, (f p).search.window = none) :
    (s.modProfile n f).ProbesCounted := by
  obtain ⟨hm, hnil, hf⟩ := h
  intro m
  by_cases e : m = n
  · subst e
    rw [State.profile_modProfile_same, probeRef, window, hf]
    exact ⟨congrArg List.length hnil, rfl⟩
  · rw [State.profile_modProfile_ne _ _ _ _ e]
    exact hm m e

theorem withdrawProbe_gone {s : State} {n : ProfileId} (h : s.ProbesCounted) : (withdrawProbe n s).ProbeGone n := by
  have turn := ProfileTurn.withdrawProbe n s
  refine ⟨fun m e => (h.probeCounted m).of_eq (turn.probes m e) (turn.only.other m e), ?_⟩
  unfold withdrawProbe
  split
  · next hx =>
    have hnil : s.engine.probesOf n = [] := by rwa [Engine.probeOf_eq_head?, List.head?_eq_none_iff] at hx
    exact ⟨hnil, (h.probeCounted n).probeRef_of_nil hnil⟩
  · extract_lets e
    have hnil : (({ s with engine := { e with probes := e.probes.filter fun x => x.profile != n } } : State).modProfile n
        fun p => { p with probeRef := false }).engine.probesOf n = [] := by simp [Engine.probesOf]
    have hf := freeTest_profile n (({ s with engine := { e with probes := e.probes.filter fun x => x.profile != n } } :
      State).modProfile n fun p => { p with probeRef := false })
    refine ⟨?_, ?_⟩
    · unfold freeTest
      split
      · show (State.notifyOpt _ _ _).engine.probesOf n = []
        rw [(onlyNotices_notifyOpt _ _ _).engine]
        exact hnil
      · exact hnil
    · rw [hf]
      split
      · rfl
      · rw [State.profile_modProfile_same]

theorem KeepsRows.withdrawProbe (n : ProfileId) (s : State) : KeepsRows s (withdrawProbe n s) := by
  unfold Machine.withdrawProbe
  split
  · exact (KeepsTable.refl s).rows
  · extract_lets e
    have hengine : KeepsRows s { s with engine := { e with probes := e.probes.filter fun x => x.profile != n } } := by
      refine ⟨id, id, fun h hc => ⟨fun m b => (h m b).trans ?_, hc⟩⟩
      simp only [e, Engine.readers]
      rw [Engine.dropRunningProbe_eq]
    refine (hengine.trans ?_).trans (KeepsTable.freeTest n _).rows
    exact .of_turn (.modProfile n _ _) (x := (s.profile n).probeRef) (w := (s.profile n).search.window)
      (by rw [State.profile_modProfile_same]; exact .refl _) (by rw [State.profile_modProfile_same])

/-- What of a record the end of an evaluation keeps: all that the invariants read, but for the window that it clears. -/
structure EndsSearch (f : Profile → Profile) : Prop where
  record   : ∀ p, RecordStep p { f p with search := { (f p).search with window := p.search.window } }
  state    : ∀ p, (f p).state = p.state
  window   : ∀ p, (f p).search.window = none

namespace KeepsRows

theorem modEnds {s : State} {n : ProfileId} {f : Profile → Profile}
    (h : EndsSearch f := by exact ⟨fun _ => ⟨id, fun _ => rfl, id, rfl, id⟩, fun _ => rfl, fun _ => rfl⟩) :
    KeepsRows s (s.modProfile n f) := by
  refine .of_turn (.modProfile n s f) (x := (f (s.profile n)).probeRef) (w := (s.profile n).search.window) ?_ ?_
    <;> rw [State.profile_modProfile_same]
  · exact h.record _
  · exact h.state _

end KeepsRows

namespace KeepsTable

variable {s : State} {n : ProfileId}

/-- A probe withdrawn and its window cleared (R71). -/
theorem withdraw {f : Profile → Profile}
    (h : EndsSearch f := by exact ⟨fun _ => ⟨id, fun _ => rfl, id, rfl, id⟩, fun _ => rfl, fun _ => rfl⟩) :
    KeepsTable s ((withdrawProbe n s).modProfile n f) :=
  ((KeepsRows.withdrawProbe n s).trans (.modEnds h)).table fun hc =>
    (withdrawProbe_gone hc).modProfile (fun p => (h.record p).probeRef) h.window

/-- A probe queued with its window (R69, R92). -/
theorem queueProbe (w : ProbeWindow) (hf : (s.profile n).probeRef = false) :
    KeepsTable s ((queueProbe ((s.profile n).probeEntry n w) s).modSearch n fun q => { q with window := some w }) := by
  have turn : ProfileTurn n s _ := (ProfileTurn.queueProbe ((s.profile n).probeEntry n w) s).trans
    (.modSearch n _ fun q => { q with window := some w })
  have hp : ((Machine.queueProbe ((s.profile n).probeEntry n w) s).modSearch n fun q => { q with window := some w }).profile n
      = { s.profile n with probeRef := true, search := { (s.profile n).search with window := some w } } := by
    rw [State.modSearch, State.profile_modProfile_same, queueProbe_profile]
  refine (KeepsRows.of_turn turn (x := (s.profile n).probeRef) (w := (s.profile n).search.window)
    (by rw [hp]; exact .refl _) (by rw [hp])).table fun hc m => ?_
  by_cases e : m = n
  · subst e
    have hnil := (hc.probeCounted m).none hf
    refine ⟨?_, by rw [hp]; rfl⟩
    rw [hp]
    show ((s.engine.probes ++ [(s.profile m).probeEntry m w]).filter fun x => x.profile == m).length = 1
    rw [List.filter_append, show s.engine.probes.filter (fun x => x.profile == m) = [] from hnil]
    simp [Profile.probeEntry]
  · exact (hc.probeCounted m).of_eq (turn.probes m e) (turn.only.other m e)

theorem updateFirst_map {α β : Type} (key : α → β) (p : α → Bool) (f : α → α) (h : ∀ a, key (f a) = key a) (l : List α) :
    (updateFirst p f l).map key = l.map key := by
  induction l with
  | nil => rfl
  | cons a l ih =>
    unfold updateFirst
    split
    · simp [h]
    · simp [ih]

/-- A probe restarted in a new window (R70). -/
theorem restartProbe (w v : ProbeWindow) (hf : (s.profile n).probeRef = true) :
    KeepsTable s (restartProbe n v (s.modSearch n fun q => { q with window := some w })) := by
  have hset : KeepsTable s (s.modSearch n fun q => { q with window := some w }) :=
    modProfile ⟨id, fun _ => rfl, id, rfl, fun _ => hf.symm⟩ fun h => .inl h
  refine hset.trans (setEngine _ ?_ ?_)
  · rw [Engine.dropRunningProbe_eq]
  · refine (updateFirst_map ProbeEntry.profile (fun x => x.profile == n)
      (fun x => { x.reset with window := v, condition := .waiting }) (fun _ => rfl) _).trans ?_
    rw [Engine.probes_dropRunningProbe]

end KeepsTable
end Sys2Proof.Machine

namespace Sys2Proof.Machine

/-! ### The adaptation controller -/

namespace KeepsTable

variable {s : State} {n : ProfileId}

theorem modSearch {f : SearchPosition → SearchPosition} (h : ∀ q, (f q).window = q.window := by exact fun _ => rfl) :
    KeepsTable s (s.modSearch n f) :=
  modRecord (fun p => ⟨id, fun _ => rfl, id, rfl, fun hw => (congrArg Option.isSome (h p.search)).trans hw⟩) fun _ => rfl

theorem notifyMembers (s : State) (n : ProfileId) (k : Notice) : KeepsTable s (s.notifyMembers n k) :=
  of_onlyNotices (onlyNotices_notifyMembers s n k)

theorem endAdaptation (n : ProfileId) (o : Outcome) (s : State) : KeepsTable s (endAdaptation n o s) :=
  (withdraw).trans (notifyMembers _ n _)

theorem succeed (n : ProfileId) (o : CommitOrigin) (s : State) : KeepsTable s (succeed n o s) :=
  (modRecord).trans (startCommit n _)

theorem tryQueue (n : ProfileId) (s : State) : KeepsTable s (tryQueue n s) := by
  unfold Machine.tryQueue
  extract_lets p w
  split
  · exact refl s
  · next hw =>
    have hf : p.probeRef = false := by
      have hwants : p.wantsProbe = true := by simpa using hw
      rw [Profile.wantsProbe, Bool.and_eq_true, Bool.not_eq_true'] at hwants
      exact hwants.1
    split
    · exact endAdaptation n _ s
    · split
      · exact queueProbe w hf
      · exact refl s

theorem endShaping (n : ProfileId) (c : Fin 32) (fom : Int) (s : State) : KeepsTable s (endShaping n c fom s) := by
  unfold Machine.endShaping
  extract_lets p s'
  have h : KeepsTable s s' := modRecord
  refine h.trans ?_
  split
  · exact succeed n _ s'
  · split
    · split
      · exact succeed n _ s'
      · exact endAdaptation n _ s'
    · exact (modRecord).trans (tryQueue n _)

theorem applyShaping (n : ProfileId) (fom : Int) (s : State) : KeepsTable s (applyShaping n fom s) := by
  unfold Machine.applyShaping
  extract_lets p q better best bestTrial s'
  have h : KeepsTable s s' := modSearch
  refine h.trans ?_
  split
  · exact endShaping n _ _ s'
  · split
    · exact (modSearch).trans (tryQueue n _)
    · exact endShaping n _ _ s'

theorem endTrimPass (n : ProfileId) (best : Int) (s : State) : KeepsTable s (endTrimPass n best s) := by
  unfold Machine.endTrimPass
  extract_lets p
  split
  · split
    · exact (modRecord).trans (tryQueue n _)
    · exact succeed n _ s
  · split
    · exact endAdaptation n _ s
    · exact (modRecord).trans (tryQueue n _)

theorem applyTrim (n : ProfileId) (fom : Int) (s : State) : KeepsTable s (applyTrim n fom s) := by
  unfold Machine.applyTrim
  extract_lets p q better best bestTrial run s' s''
  have h : KeepsTable s s' := modSearch
  refine h.trans ?_
  split
  · have h' : KeepsTable s' s'' := modRecord
    refine h'.trans ?_
    split
    · exact (modSearch).trans (tryQueue n _)
    · exact endTrimPass n _ s''
  · exact (modSearch).trans (tryQueue n _)

theorem nextTap_window {p : Profile} {left : Nat} {q : SearchPosition} (h : p.nextTap left = some q) :
    q.window = p.search.window := by
  induction left with
  | zero => cases h
  | succ left ih =>
    unfold Profile.nextTap at h
    extract_lets j r at h
    split at h
    · obtain rfl := Option.some.inj h
      rfl
    · exact ih h

theorem decideRound (n : ProfileId) (s : State) : KeepsTable s (decideRound n s) := by
  unfold Machine.decideRound
  extract_lets p
  split
  · exact (modRecord).trans (succeed n _ _)
  · exact modRecord

theorem advanceRound (n : ProfileId) (left : Nat) (s : State) : KeepsTable s (advanceRound n left s) := by
  unfold Machine.advanceRound
  split
  · next q hq =>
    have hw := nextTap_window hq
    refine trans (modProfile ⟨id, fun _ => rfl, id, rfl, fun h => ?_⟩ .inl) (tryQueue n _)
    exact (congrArg Option.isSome hw).trans h
  · exact decideRound n s

theorem applyRound (n : ProfileId) (fom : Int) (s : State) : KeepsTable s (applyRound n fom s) := by
  unfold Machine.applyRound
  extract_lets p q own better best bestTrial s'
  split
  · exact (modSearch).trans (advanceRound n _ _)
  ·
    have h : KeepsTable s s' := modSearch
    refine h.trans ?_
    split
    · exact (modSearch).trans (tryQueue n _)
    · exact (modSearch).trans (advanceRound n _ _)

theorem applyFom (n : ProfileId) (fom : Int) (s : State) : KeepsTable s (applyFom n fom s) := by
  unfold Machine.applyFom
  split
  · exact applyShaping n fom s
  · exact applyShaping n fom s
  · exact applyTrim n fom s
  · exact applyRound n fom s
  · exact refl s
  · exact refl s

theorem overrun (b : Block) (hf : (s.profile n).probeRef = true) : KeepsTable s (overrun n b s) := by
  unfold Machine.overrun
  extract_lets p s'
  have h : KeepsTable s s' := modRecord
  refine h.trans ?_
  split
  · exact restartProbe _ _ (by simp only [s', State.profile_modProfile_same]; exact hf)
  · exact endAdaptation n _ s'

theorem startRound (n : ProfileId) (s : State) : KeepsTable s (startRound n s) :=
  (modRecord).trans (tryQueue n _)

theorem controllerEvent (k : Block) (flipped : List ProfileId) (s : State) (n : ProfileId) :
    KeepsTable s (controllerEvent k flipped s n) := by
  unfold Machine.controllerEvent
  extract_lets p
  split
  · next hf =>
    split
    · split
      · exact overrun k hf
      · exact refl s
    · exact refl s
  · split
    · exact tryQueue n s
    · split
      · split
        · exact startRound n s
        · exact modSearch
      · exact refl s

theorem controllerBlockEvent (k : Block) (treated flipped : List ProfileId) (s : State) :
    KeepsTable s (controllerBlockEvent k treated flipped s) :=
  (of_eq (s := s) (t := { s with choices := s.choices + 1 }) rfl rfl rfl rfl).trans (foldl _ (controllerEvent k flipped) _ _)

theorem adaptFlip (n : ProfileId) (s : State) : KeepsTable s (adaptFlip n s) := by
  unfold Machine.adaptFlip
  extract_lets p s'
  have h : KeepsTable s s' := by
    simp only [s']
    split
    · exact (modRecord).trans (notifyMembers _ n _)
    · exact refl s
  refine h.trans ?_
  split
  · exact modRecord
  · exact modRecord

theorem bankFlip (k : Block) (s : State) (n : ProfileId) : KeepsTable s (bankFlip k s n) := by
  unfold Machine.bankFlip
  split
  · extract_lets s'
    have h : KeepsTable s s' :=
      (modRecord (by exact fun _ => ⟨id, fun _ => rfl, fun _ hw => (nomatch hw), rfl, id⟩)).trans (notifyMembers _ n _)
    split
    · exact h.trans (adaptFlip n s')
    · exact h
  · exact refl s

theorem bankFlips (k : Block) (s : State) : KeepsTable s (bankFlips k s) := foldl _ (bankFlip k) _ s

theorem controllerClockReturn (s : State) : KeepsTable s (controllerClockReturn s) :=
  foldl _ (fun s n => by
    split
    · next hf => exact overrun _ hf
    · exact refl s) _ s

theorem lossOfLeader (n : ProfileId) (s : State) : KeepsTable s (lossOfLeader n s) := by
  unfold Machine.lossOfLeader
  split
  · exact endAdaptation n _ s
  · exact endAdaptation n _ s
  · exact endAdaptation n _ s
  · exact endAdaptation n _ s
  · exact modSearch
  · exact refl s

theorem endForDelete (n : ProfileId) (s : State) : KeepsTable s (endForDelete n s) := by
  unfold Machine.endForDelete
  split
  · exact refl s
  · exact withdraw

/-! ### The end of a probe (R73, R93) -/

/-- A finished probe leaves the queue and its window is cleared. -/
theorem probeTaken {e : ProbeEntry} (mac : UnitState) (asked : Bool) (h : s.engine.runningProbe = some e) :
    let taken := ({ s with engine := { s.engine with
      mac := mac, suspendAsked := asked, probes := s.engine.probes.eraseP ProbeEntry.isRunning } } : State).modProfile e.profile
        fun p => { p with probeRef := false }
    KeepsTable s ((Machine.freeTest e.profile taken).modProfile e.profile fun p => { p with
      restartRun := 0, search := { p.search with window := none } }) := by
  intro taken
  obtain ⟨hrun, pre, post, hl, hpre⟩ := List.find?_eq_some_iff_append.mp h
  have herase : s.engine.probes.eraseP ProbeEntry.isRunning = pre ++ post := by
    rw [hl, List.eraseP_append_right _ (fun a ha => by simpa using hpre a ha), List.eraseP_cons_of_pos hrun]
  have hother (m : ProfileId) (hm : m ≠ e.profile) : taken.engine.probesOf m = s.engine.probesOf m := by
    show (s.engine.probes.eraseP ProbeEntry.isRunning).filter _ = s.engine.probes.filter _
    rw [herase, hl, List.filter_append, List.filter_append, List.filter_cons_of_neg (by simpa using hm.symm)]
  have hown : s.ProbesCounted → taken.ProbeGone e.profile := fun hc => by
    refine ⟨fun m hm => (hc.probeCounted m).of_eq (hother m hm) (State.profile_modProfile_ne _ _ m _ hm), ?_, ?_⟩
    · have hlen := (hc e.profile).1
      rw [hl, List.filter_append, List.length_append, List.filter_cons_of_pos (by simp), List.length_cons] at hlen
      show (s.engine.probes.eraseP ProbeEntry.isRunning).filter _ = []
      rw [herase, ← List.length_eq_zero_iff, List.filter_append, List.length_append]
      have : boolNat (s.profile e.profile).probeRef ≤ 1 := by cases (s.profile e.profile).probeRef <;> decide
      omega
    · simp only [taken, State.profile_modProfile_same]
  have htaken : KeepsRows s taken := by
    have hengine : KeepsRows s { s with engine := { s.engine with
        mac := mac, suspendAsked := asked, probes := s.engine.probes.eraseP ProbeEntry.isRunning } } :=
      ⟨id, id, fun h hc => ⟨h, hc⟩⟩
    exact hengine.trans (.of_turn (.modProfile e.profile _ _) (x := (s.profile e.profile).probeRef)
      (w := (s.profile e.profile).search.window) (by rw [State.profile_modProfile_same]; exact .refl _)
      (by rw [State.profile_modProfile_same]))
  refine ((htaken.trans (freeTest e.profile taken).rows).trans .modEnds).table fun hc => ?_
  exact (hown hc).freeTest.modProfile (fun _ => rfl) fun _ => rfl

end KeepsTable

end Sys2Proof.Machine

namespace Sys2Proof.Machine

theorem ProfileOnly.slots {n : ProfileId} {s t : State} (h : ProfileOnly n s t) : t.slots = s.slots := by rw [h.state]

namespace KeepsTable

variable {s : State} {n : ProfileId}

/-! ### Rows that write no profile, slot or queue of passes -/

theorem notify (s : State) (p : Port) (k : Notice) : KeepsTable s (s.notify p k) := modPort s p _
theorem notifyOpt (s : State) (p : Option Port) (k : Notice) : KeepsTable s (s.notifyOpt p k) :=
  of_onlyNotices (onlyNotices_notifyOpt s p k)
theorem notifySet (s : State) (m : BitVec 4) (k : Notice) : KeepsTable s (s.notifySet m k) :=
  of_onlyNotices (onlyNotices_notifySet s m k)
theorem notifyAll (s : State) (k : Notice) : KeepsTable s (s.notifyAll k) := of_onlyNotices (onlyNotices_notifyAll s k)

theorem writeWord (s : State) (id : WindowId) (off : Nat) (v : Word) : KeepsTable s (s.writeWord id off v) := by
  rw [State.writeWord_eq]
  exact of_eq rfl rfl rfl rfl

theorem writeWords (s : State) (id : WindowId) (off : Nat) (vs : List Word) : KeepsTable s (s.writeWords id off vs) := by
  rw [State.writeWords_eq]
  exact of_eq rfl rfl rfl rfl

theorem receive (f : Frame) (s : State) : KeepsTable s (receive f s) :=
  of_eq (receive_profiles f s) (receive_slots f s) (by rw [receive_engine]) (by rw [receive_engine])

/-- A command keeps what its run keeps. -/
theorem command {run : Port → List Word → State → State × Answer} (h : ∀ p pl s, KeepsTable s (run p pl s).1) (code : Byte)
    (f : Frame) (s : State) : KeepsTable s (command code run f s) := by
  rcases command_cases code run f s with e | e | ⟨st, e⟩ | ⟨pl, e⟩ <;> rw [e]
  · exact modPort s _ _
  · exact (receive f s).trans (modPort _ _ _)
  · exact (receive f s).trans (modPort _ _ _)
  · exact ((receive f s).trans (h _ _ _)).trans (modPort _ _ _)

theorem leaveQueue (p : Port) (s : State) : KeepsTable s (leaveQueue p s) := by
  unfold Machine.leaveQueue
  extract_lets s'
  have h : KeepsTable s s' := modPort s p _
  split
  · exact h.trans (notify _ _ _)
  · exact h

theorem appendJob (p : Port) (w : Work) (s : State) : KeepsTable s (appendJob p w s).1 := by
  unfold Machine.appendJob
  exact modPort s p fun ps => { ps with jobs := ps.jobs ++ [⟨w, .waiting⟩] }

theorem queueJob (p : Port) (job? : Option Job) (s : State) : KeepsTable s (queueJob p job? s).1 := by
  unfold Machine.queueJob
  repeat' split
  · exact refl s
  · exact refl s
  · exact refl s
  · exact refl s
  · exact appendJob p _ s

theorem queueContext (op : ContextOp) (p : Port) (pl : List Word) (s : State) : KeepsTable s (queueContext op p pl s).1 := by
  unfold Machine.queueContext
  repeat' split
  · exact refl s
  · exact refl s
  · exact refl s
  · exact appendJob p _ s

/-- The discard of a job pass leaves the queues of the other classes. -/
theorem discardPass_queues (p : Port) (e : Engine) :
    (discardPass p e).routes = e.routes ∧ (discardPass p e).probes = e.probes := by
  unfold discardPass
  repeat' split
  all_goals exact ⟨rfl, rfl⟩

theorem discardPass (p : Port) (s : State) : KeepsTable s { s with engine := discardPass p s.engine } :=
  of_eq rfl rfl (discardPass_queues p s.engine).1 (discardPass_queues p s.engine).2

theorem stopHead (p : Port) (s : State) : KeepsTable s (stopHead p s) := by
  unfold Machine.stopHead
  split
  · exact ((discardPass p s).trans (modPort _ p _)).trans (leaveQueue p _)
  · exact refl s

theorem saveNow (p : Port) (pl : List Word) (s : State) : KeepsTable s (saveNow p pl s).1 := by
  unfold Machine.saveNow
  split
  · exact refl s
  · dsimp only
    exact ((stopHead p s).trans (writeWords _ _ _ _)).trans (modPort _ p _)

theorem setControl (p : Port) (pl : List Word) (s : State) : KeepsTable s (setControl p pl s).1 := by
  unfold Machine.setControl
  extract_lets c
  split
  · exact refl s
  · dsimp only
    exact modPort s p _

theorem clearExceptions (p : Port) (pl : List Word) (s : State) : KeepsTable s (clearExceptions p pl s).1 := by
  dsimp only [Machine.clearExceptions]
  exact modPort s p _

theorem openWindow (p : Port) (pl : List Word) (s : State) : KeepsTable s (openWindow p pl s).1 := by
  unfold Machine.openWindow
  split
  · split
    · exact refl s
    · next nm hnm => cases nm <;> exact of_eq rfl rfl rfl rfl
  · exact refl s

theorem closeWindow (p : Port) (pl : List Word) (s : State) : KeepsTable s (closeWindow p pl s).1 := by
  unfold Machine.closeWindow
  split
  · exact refl s
  · next nm hnm =>
    repeat' split
    · exact refl s
    · exact refl s
    · exact refl s
    · cases nm <;> exact of_eq rfl rfl rfl rfl

theorem writeWordsCommand (p : Port) (pl : List Word) (s : State) : KeepsTable s (Machine.writeWords p pl s).1 := by
  unfold Machine.writeWords
  split
  · exact refl s
  · extract_lets n off
    repeat' split
    · exact refl s
    · exact refl s
    · exact refl s
    · exact writeWords _ _ _ _

theorem readWords (p : Port) (pl : List Word) (s : State) : KeepsTable s (readWords p pl s).1 := by
  unfold Machine.readWords
  split
  · exact refl s
  · extract_lets n off
    repeat' split
    all_goals exact refl s

theorem move (p : Port) (pl : List Word) (s : State) : KeepsTable s (move p pl s).1 := by
  unfold Machine.move
  split
  · extract_lets off count bad
    split
    · exact refl s
    · split
      · exact refl s
      · split
        · exact refl s
        · split
          · exact refl s
          · split
            · exact refl s
            · extract_lets m s'
              have h : KeepsTable s s' := modPort s p _
              dsimp only
              split
              · exact h.trans (notify _ _ _)
              · exact h
  · exact refl s

theorem moveStatus (p : Port) (pl : List Word) (s : State) : KeepsTable s (moveStatus p pl s).1 := by
  unfold Machine.moveStatus
  split
  · split
    · exact refl s
    · dsimp only
      split
      · exact modPort s p _
      · exact refl s
  · exact refl s

theorem claimGenerator (p : Port) (pl : List Word) (s : State) : KeepsTable s (claimGenerator p pl s).1 := by
  unfold Machine.claimGenerator
  split
  · exact of_eq rfl rfl rfl rfl
  · exact refl s

theorem setGenerator (p : Port) (pl : List Word) (s : State) : KeepsTable s (setGenerator p pl s).1 := by
  unfold Machine.setGenerator
  repeat' split
  · exact refl s
  · exact refl s
  · exact of_eq rfl rfl rfl rfl

theorem modChecker (s : State) (c : Fin 2) (f : Checker → Checker) : KeepsTable s (s.modChecker c f) := of_eq rfl rfl rfl rfl

theorem claimChecker (p : Port) (pl : List Word) (s : State) : KeepsTable s (claimChecker p pl s).1 := by
  unfold Machine.claimChecker
  repeat' split
  · exact modChecker s _ _
  · exact refl s
  · exact refl s
  · exact modChecker s _ _
  · exact refl s

theorem holderCommand {p : Port} {pl : List Word} {k : Fin 2 → State × Answer} (h : ∀ i, KeepsTable s (k i).1) :
    KeepsTable s (holderCommand p pl s k).1 := by
  unfold Machine.holderCommand
  repeat' split
  · exact refl s
  · exact h _
  · exact refl s

theorem readChecker (p : Port) (pl : List Word) (s : State) : KeepsTable s (readChecker p pl s).1 := by
  unfold Machine.readChecker
  split <;> exact refl s

theorem checkerControl (a : CheckerAction) (p : Port) (pl : List Word) (s : State) :
    KeepsTable s (checkerControl a p pl s).1 := by
  unfold Machine.checkerControl
  split
  · exact refl s
  · exact holderCommand fun i => modChecker s i _

theorem checkerRow (a : CheckerAction) (f : Frame) (s : State) : KeepsTable s (checkerRow a f s) := by
  unfold Machine.checkerRow
  split
  · exact refl s
  · exact command (checkerControl a) 0x65 f s

theorem fetchNotices (p : Port) (pl : List Word) (s : State) : KeepsTable s (fetchNotices p pl s).1 := by
  dsimp only [Machine.fetchNotices]
  exact modPort s p _

theorem setKeepalive (p : Port) (pl : List Word) (s : State) : KeepsTable s (setKeepalive p pl s).1 := by
  unfold Machine.setKeepalive
  split
  · dsimp only
    exact modPort s p _
  · exact refl s

/-! ### The commands of the profile table -/

theorem boundCommand {pl : List Word} {k : ProfileId → State × Answer}
    (h : ∀ n, (s.profile n).state = .bound → KeepsTable s (k n).1) : KeepsTable s (boundCommand pl s k).1 := by
  unfold Machine.boundCommand
  split
  · exact refl s
  · split
    · next hb => exact h _ hb
    · exact refl s

theorem leaderCommand {p : Port} {pl : List Word} {k : ProfileId → State × Answer}
    (h : ∀ n, (s.profile n).state = .bound → (s.profile n).leader = some p → KeepsTable s (k n).1) :
    KeepsTable s (leaderCommand p pl s k).1 :=
  boundCommand fun n hb => by
    split
    · next hl => exact h n hb hl
    · exact refl s

theorem create (p : Port) (pl : List Word) (s : State) : KeepsTable s (create p pl s).1 := by
  unfold Machine.create
  repeat' split
  · exact refl s
  · exact refl s
  · dsimp only
    refine modProfile ⟨fun _ => ⟨fun h => ?_, fun q _ => ?_⟩, ?_, ?_, ?_, ?_⟩ fun _ => .inl ?_
    · exact absurd rfl h
    · exact BitVec.getLsbD_zero
    · exact fun _ => rfl
    · exact id
    · rfl
    · exact id
    · rfl

theorem delete (p : Port) (pl : List Word) (s : State) : KeepsTable s (delete p pl s).1 := by
  unfold Machine.delete
  refine leaderCommand fun n _ _ => ?_
  split
  · exact refl s
  · next hu =>
    unfold Machine.deleteProfile
    extract_lets s'
    have hs' : KeepsTable s s' := endForDelete n s
    have hslots : s'.slots = s.slots := (profileOnly_endForDelete n s).slots
    have hnote := onlyNotices_notifySet s' (s'.profile n).followers (.profileGone n)
    refine ((hs'.trans (notifySet s' _ _)).trans (modProfile ?_ fun _ => .inr ?_)).trans (freeTest n _)
    · exact ⟨fun _ => ⟨fun _ => ⟨rfl, rfl⟩, fun _ h => (nomatch h)⟩, fun _ => rfl, fun _ hw => (nomatch hw), rfl, id⟩
    · rw [State.profileInUse, hnote.state, hslots]
      simpa [State.profileInUse] using hu

theorem getLsbD_eraseBit_same {w : Nat} (m : BitVec w) (i : Fin w) : (eraseBit m i.val).getLsbD i.val = false := by
  simp [eraseBit]

/-- A change of the members of a BOUND profile, its leader no follower. -/
theorem modMembers {f : Profile → Profile} (hb : (s.profile n).state = .bound)
    (leader : (s.profile n).MembersSound →
      ∀ q, (f (s.profile n)).leader = some q → (f (s.profile n)).followers.getLsbD q.val = false)
    (fields : ∀ p, f p = { p with leader := (f p).leader, followers := (f p).followers } := by exact fun _ => rfl) :
    KeepsTable s (s.modProfile n f) := by
  have hstate : (f (s.profile n)).state = .bound := by rw [fields]; exact hb
  refine modProfile ⟨fun h => ⟨fun hn => absurd hstate hn, leader h⟩, fun b => ?_, fun h => ?_, ?_, fun h => ?_⟩ fun _ => .inl hstate
    <;> rw [fields]
  · rfl
  · exact h
  · exact h

theorem lead (p : Port) (pl : List Word) (s : State) : KeepsTable s (lead p pl s).1 := by
  unfold Machine.lead
  refine boundCommand fun n hb => ?_
  split
  · dsimp only
    refine modMembers hb fun _ q hq => ?_
    obtain rfl := Option.some.inj hq
    exact getLsbD_eraseBit_same _ p
  · exact refl s

theorem release (p : Port) (pl : List Word) (s : State) : KeepsTable s (release p pl s).1 := by
  unfold Machine.release
  refine leaderCommand fun n hb _ => ?_
  extract_lets r
  repeat' split
  · exact refl s
  · exact refl s
  · have hnote := onlyNotices_notifySet s r.followers (.leaderless n)
    dsimp only
    refine (notifySet s _ _).trans (modMembers ?_ fun _ q hq => ?_)
    · rw [hnote.profile]; exact hb
    · exact nomatch hq

theorem follow (p : Port) (pl : List Word) (s : State) : KeepsTable s (follow p pl s).1 := by
  unfold Machine.follow
  refine boundCommand fun n hb => ?_
  split
  · exact refl s
  · next hl =>
    dsimp only
    refine modMembers hb fun hm q hq => ?_
    have hne : p ≠ q := fun e => hl (e ▸ hq)
    rw [getLsbD_insertBit, hm.2 q hq]
    simpa using hne

theorem unfollow (p : Port) (pl : List Word) (s : State) : KeepsTable s (unfollow p pl s).1 := by
  unfold Machine.unfollow
  refine boundCommand fun n hb => ?_
  repeat' split
  · exact refl s
  · exact refl s
  · dsimp only
    refine modMembers hb fun hm q hq => ?_
    rw [eraseBit, BitVec.getLsbD_and, hm.2 q hq, Bool.false_and]

theorem readProfile (p : Port) (pl : List Word) (s : State) : KeepsTable s (readProfile p pl s).1 := by
  unfold Machine.readProfile
  repeat' split
  all_goals exact refl s

theorem writeCandidate (p : Port) (pl : List Word) (s : State) : KeepsTable s (writeCandidate p pl s).1 := by
  unfold Machine.writeCandidate
  refine leaderCommand fun n _ _ => ?_
  extract_lets r
  repeat' split
  · exact refl s
  · exact refl s
  · exact refl s
  · dsimp only
    exact modRecord

theorem commit (p : Port) (pl : List Word) (s : State) : KeepsTable s (commit p pl s).1 := by
  unfold Machine.commit
  refine leaderCommand fun n _ _ => ?_
  extract_lets r
  repeat' split
  · exact refl s
  · exact refl s
  · exact startCommit n s

theorem setFields (p : Port) (pl : List Word) (s : State) : KeepsTable s (setFields p pl s).1 := by
  unfold Machine.setFields
  extract_lets mask applied one
  split
  · exact refl s
  · dsimp only
    refine foldl one (fun s n => ?_) _ s
    simp only [one]
    split
    · exact modRecord
    · exact refl s

theorem adapt (p : Port) (pl : List Word) (s : State) : KeepsTable s (adapt p pl s).1 := by
  unfold Machine.adapt
  refine leaderCommand fun n _ _ => ?_
  extract_lets r
  repeat' split
  · exact refl s
  · exact refl s
  · exact refl s
  · exact refl s
  · exact (modRecord).trans (tryQueue n _)

theorem abortAdapt (p : Port) (pl : List Word) (s : State) : KeepsTable s (abortAdapt p pl s).1 := by
  unfold Machine.abortAdapt
  refine leaderCommand fun n _ _ => ?_
  split
  · exact endAdaptation n _ s
  · exact endAdaptation n _ s
  · exact endAdaptation n _ s
  · exact endAdaptation n _ s
  · exact refl s
  · exact refl s

theorem freeze (p : Port) (pl : List Word) (s : State) : KeepsTable s (freeze p pl s).1 := by
  unfold Machine.freeze
  refine leaderCommand fun n _ _ => ?_
  split
  · dsimp only
    exact withdraw
  · exact refl s

theorem clearFlags (p : Port) (pl : List Word) (s : State) : KeepsTable s (clearFlags p pl s).1 := by
  unfold Machine.clearFlags
  refine leaderCommand fun n _ _ => ?_
  dsimp only
  exact modRecord

end KeepsTable

end Sys2Proof.Machine

namespace Sys2Proof.Machine

namespace KeepsTable

variable {s t : State} {n : ProfileId}

/-! ### The slot map -/

/-- A change of slots that names no profile anew but a BOUND one. -/
theorem of_slots (profiles : t.profiles = s.profiles) (engine : t.engine = s.engine)
    (names : ∀ i n, (t.slot i).names n = true → (s.slot i).names n = true ∨ (s.profile n).state = .bound) : KeepsTable s t := by
  have hp (m : ProfileId) : t.profile m = s.profile m := by rw [State.profile, profiles]; rfl
  exact of_records (fun m => by rw [hp]; exact .refl _) (fun m h => .inl (by rw [hp]; exact h)) names (by rw [engine])
    (by rw [engine])

theorem modSlot {i : SlotId} {f : Slot → Slot}
    (names : ∀ n, (f (s.slot i)).names n = true → (s.slot i).names n = true ∨ (s.profile n).state = .bound) :
    KeepsTable s (s.modSlot i f) := by
  refine of_slots rfl rfl fun j n h => ?_
  rw [State.slot_modSlot] at h
  split at h
  · next e => subst e; exact names n h
  · exact .inl h

theorem modSlotFields {i : SlotId} {f : Slot → Slot}
    (names : ∀ u, (f u).source = u.source ∧ (f u).pending = u.pending := by exact fun _ => ⟨rfl, rfl⟩) :
    KeepsTable s (s.modSlot i f) :=
  modSlot fun m h => .inl (by rwa [Slot.names, (names _).1, (names _).2] at h)

theorem names_free {u : Slot} {m : ProfileId} (h : u.free.names m = true) : u.names m = true := by
  simp only [Slot.names, Slot.free, Bool.or_eq_true, beq_iff_eq] at h ⊢
  exact h.imp_right fun g => nomatch g

theorem slotCommand {pl : List Word} {k : SlotId → State × Answer} (h : ∀ i, KeepsTable s (k i).1) :
    KeepsTable s (slotCommand pl s k).1 := by
  unfold Machine.slotCommand
  split
  · exact refl s
  · exact h _

theorem ownerCommand {p : Port} {pl : List Word} {k : SlotId → State × Answer} (h : ∀ i, KeepsTable s (k i).1) :
    KeepsTable s (ownerCommand p pl s k).1 :=
  slotCommand fun i => by
    split
    · exact h i
    · exact refl s

theorem claimSlot (p : Port) (pl : List Word) (s : State) : KeepsTable s (claimSlot p pl s).1 := by
  unfold Machine.claimSlot
  refine slotCommand fun i => ?_
  split
  · dsimp only
    exact modSlotFields
  · exact refl s

theorem freeSlot (p : Port) (pl : List Word) (s : State) : KeepsTable s (freeSlot p pl s).1 := by
  unfold Machine.freeSlot
  exact ownerCommand fun i => modSlot fun _ h => .inl (names_free h)

theorem route (p : Port) (pl : List Word) (s : State) : KeepsTable s (route p pl s).1 := by
  unfold Machine.route
  refine ownerCommand fun i => ?_
  split
  · exact refl s
  · next src _ =>
    split
    · exact refl s
    · next hr =>
      dsimp only
      refine modSlot fun m h => ?_
      simp only [Slot.names, Bool.or_eq_true, beq_iff_eq] at h ⊢
      rcases h with h | h
      · exact .inl (.inl h)
      · obtain rfl := Option.some.inj h
        refine .inr (Decidable.not_not.mp fun hb => ?_)
        simp [State.routeRefusal, hb] at hr

theorem mute (p : Port) (pl : List Word) (s : State) : KeepsTable s (mute p pl s).1 := by
  unfold Machine.mute
  refine ownerCommand fun i => ?_
  split
  · exact refl s
  · dsimp only
    exact modSlotFields

theorem readSlot (p : Port) (pl : List Word) (s : State) : KeepsTable s (readSlot p pl s).1 := by
  unfold Machine.readSlot
  refine slotCommand fun i => ?_
  extract_lets u
  repeat' split
  · exact refl s
  · exact refl s
  · dsimp only
    exact modSlotFields
  · exact refl s

theorem slotEvent (k : Block) (s : State) (i : SlotId) : KeepsTable s (slotEvent k s i) := by
  have only := SlotsOnly.slotEvent k s i
  refine of_slots (by rw [only.state]) only.engine fun j m h => .inl ?_
  rw [slotEvent_slot] at h
  split at h
  · next e =>
    subst e
    simp only [State.slotAfter, Slot.takePending, Slot.names, Bool.or_eq_true, beq_iff_eq] at h ⊢
    rcases h with h | h
    · cases hp : (s.slot j).pending with
      | none => rw [hp] at h; exact .inl h
      | some src => rw [hp] at h; exact .inr (congrArg some h)
    · cases h
  · exact h

theorem slotMapEvent (k : Block) (taken : List SlotId) (s : State) : KeepsTable s (slotMapEvent k taken s) :=
  foldl _ (slotEvent k) _ s

theorem silenceSlot (s : State) (i : SlotId) : KeepsTable s (silenceSlot s i) := by
  unfold Machine.silenceSlot
  split
  · refine (modSlot fun m h => .inl ?_).trans (notifyOpt _ _ _)
    simp only [Slot.names, Bool.or_eq_true, beq_iff_eq] at h ⊢
    exact h.imp_right fun g => nomatch g
  · exact refl s

theorem dropGenerator (s : State) : KeepsTable s (dropGenerator s) := by
  unfold Machine.dropGenerator silenceGeneratorSlots
  have h : KeepsTable s { s with gen := s.gen.release } := of_eq rfl rfl rfl rfl
  exact h.trans (foldl _ silenceSlot _ _)

theorem releaseGenerator (p : Port) (pl : List Word) (s : State) : KeepsTable s (releaseGenerator p pl s).1 := by
  unfold Machine.releaseGenerator
  split
  · dsimp only
    exact dropGenerator s
  · exact refl s

/-! ### A port reset (R185) -/

theorem resetJobs (p : Port) (s : State) : KeepsTable s (resetJobs p s) := (discardPass p s).trans (modPort _ p _)

theorem stopMoves (p : Port) (s : State) : KeepsTable s (stopMoves p s) := by
  unfold Machine.stopMoves
  split
  · exact of_eq rfl rfl rfl rfl
  · exact of_eq rfl rfl rfl rfl

theorem closeWindows (p : Port) (s : State) : KeepsTable s (closeWindows p s) := of_eq rfl rfl rfl rfl

/-- A record whose members leave it keeps what the invariants say of it. -/
theorem modLeavers {f : Profile → Profile}
    (members : ∀ p : Profile, p.MembersSound → (f p).MembersSound)
    (fields : ∀ p, f p = { p with leader := (f p).leader, followers := (f p).followers } := by exact fun _ => rfl) :
    KeepsTable s (s.modProfile n f) := by
  refine modRecord (fun p => ⟨members p, fun b => ?_, fun h => ?_, ?_, fun h => ?_⟩) fun p => ?_ <;> rw [fields]
  · rfl
  · exact h
  · exact h

/-- A record that a port leaves as a follower. -/
theorem membersSound_erase {q : Profile} (hq : q.MembersSound) (p : Port) :
    ({ q with followers := eraseBit q.followers p.val } : Profile).MembersSound := by
  refine ⟨fun hn => ⟨(hq.1 hn).1, ?_⟩, fun x hx => ?_⟩
  · show eraseBit q.followers p.val = 0
    rw [(hq.1 hn).2]
    exact BitVec.zero_and
  · show (eraseBit q.followers p.val).getLsbD x.val = false
    rw [eraseBit, BitVec.getLsbD_and, hq.2 x hx, Bool.false_and]

theorem leaveProfile (p : Port) (s : State) (n : ProfileId) : KeepsTable s (leaveProfile p s n) := by
  unfold Machine.leaveProfile
  extract_lets s' r
  have h : KeepsTable s s' := modLeavers fun q hq => membersSound_erase hq p
  split
  · have hl : KeepsTable s' (s'.modProfile n fun r => { r with leader := none }) :=
      modLeavers fun q hq => ⟨fun hn => ⟨rfl, (hq.1 hn).2⟩, fun _ hx => (nomatch hx)⟩
    exact ((h.trans hl).trans (notifySet _ _ _)).trans (lossOfLeader n _)
  · exact h

theorem leaveProfiles (p : Port) (s : State) : KeepsTable s (leaveProfiles p s) := by
  unfold Machine.leaveProfiles
  exact foldl _ (leaveProfile p) _ _

theorem freeSlots (p : Port) (s : State) : KeepsTable s (freeSlots p s) := by
  refine of_slots rfl rfl fun i m h => .inl ?_
  have hi : (Machine.freeSlots p s).slot i = if (s.slot i).owner = some p then (s.slot i).free else s.slot i := vmap_get _ _ i
  rw [hi] at h
  split at h
  · exact names_free h
  · exact h

theorem releaseClaims (p : Port) (s : State) : KeepsTable s (releaseClaims p s) := by
  unfold Machine.releaseClaims
  extract_lets s'
  have h : KeepsTable s s' := by
    simp only [s']
    split
    · exact dropGenerator s
    · exact refl s
  exact h.trans (of_eq rfl rfl rfl rfl)

theorem portReset (p : Port) (s : State) : KeepsTable s (portReset p s) := by
  unfold Machine.portReset
  exact (((((((modPort s p _).trans (resetJobs p _)).trans (stopMoves p _)).trans (closeWindows p _)).trans
    (leaveProfiles p _)).trans (freeSlots p _)).trans (releaseClaims p _)).trans (modPort _ p _)

/-! ### The pass engine -/

theorem setRoutes (e : Engine) (p : RouteEntry → Bool) (f : RouteEntry → RouteEntry) (h : ∀ x, (f x).key = x.key)
    (routes : e.routes = updateFirst p f s.engine.routes) (probes : e.probes = s.engine.probes) :
    KeepsTable s { s with engine := e } :=
  setEngine e (by rw [routes, updateFirst_map _ _ _ h]) (by rw [probes])

theorem setProbes (e : Engine) (p : ProbeEntry → Bool) (f : ProbeEntry → ProbeEntry) (h : ∀ x, (f x).profile = x.profile)
    (routes : e.routes = s.engine.routes) (probes : e.probes = updateFirst p f s.engine.probes) :
    KeepsTable s { s with engine := e } :=
  setEngine e (by rw [routes]) (by rw [probes, updateFirst_map _ _ _ h])

theorem endStep_profile (e : ProbeEntry) (s : State) : (e.endStep s).profile = e.profile := by
  unfold ProbeEntry.endStep
  extract_lets r
  split <;> rfl

theorem jobResult (j : JobPass) (s : State) : KeepsTable s (jobResult j s).2 := by
  unfold Machine.jobResult
  extract_lets c
  split
  case h_8 =>
    dsimp only
    split
    · exact refl s
    · exact foldl _ (fun s _ => writeWord s _ _ _) _ s
  all_goals exact refl s

theorem jobEnded (j : JobPass) (s : State) : KeepsTable s (jobEnded j s) := by
  unfold Machine.jobEnded
  extract_lets r codes s1 s2
  have hr : KeepsTable s r.2 := by
    simp only [r]
    split
    · exact refl s
    · exact jobResult j s
  have h : KeepsTable s s2 := (hr.trans (modPort r.2 j.port _)).trans (leaveQueue j.port s1)
  split
  · exact (h.trans (modPort _ _ _)).trans (notify _ _ _)
  · exact h

theorem startProbe (s : State) : KeepsTable s (startProbe s) := by
  refine setEngine _ rfl ?_
  cases s.engine.probes with
  | nil => rfl
  | cons e es => rfl

theorem startJob (c : JobChoice) (s : State) : KeepsTable s (startJob c s) := by
  unfold Machine.startJob
  split
  · exact of_eq rfl rfl rfl rfl
  · extract_lets s1 en s2
    have h : KeepsTable s s2 := of_eq rfl rfl rfl rfl
    split
    · exact h.trans (jobEnded _ _)
    · exact h.trans (of_eq rfl rfl rfl rfl)

theorem serve_or {a b : Option State} (ha : ∀ t, a = some t → KeepsTable s t) (hb : ∀ t, b = some t → KeepsTable s t) :
    KeepsTable s ((a.or b).getD s) := by
  cases a with
  | some t => exact ha t rfl
  | none =>
    cases b with
    | some t => exact hb t rfl
    | none => exact refl s

theorem serveProbe {t : State} (h : serveProbe s = some t) : KeepsTable s t := by
  unfold Machine.serveProbe at h
  split at h
  · obtain rfl := Option.some.inj h
    exact startProbe s
  · cases h

theorem serveJob {t : State} (h : serveJob s = some t) : KeepsTable s t := by
  obtain ⟨c, -, rfl⟩ := Option.map_eq_some_iff.mp h
  exact startJob c s

theorem arbitrate (s : State) : KeepsTable s (arbitrate s) := by
  unfold Machine.arbitrate
  split
  · exact setRoutes _ _ (fun e => e.start s) (fun _ => rfl) rfl rfl
  · split
    · exact serve_or (fun _ => serveProbe) fun _ => serveJob
    · exact serve_or (fun _ => serveJob) fun _ => serveProbe

theorem nextStep (cls : PassClass) (s : State) : KeepsTable s (nextStep cls s) := by
  cases cls with
  | route => exact setRoutes _ _ (fun e => (e.endStep s).beginStep s) (fun _ => rfl) rfl rfl
  | probe => exact setProbes _ _ (fun e => (e.endStep s).beginStep s) (fun e => endStep_profile e s) rfl rfl
  | job => exact of_eq rfl rfl rfl rfl

theorem suspend (cls : PassClass) (s : State) : KeepsTable s (suspend cls s) := by
  cases cls with
  | route => exact setRoutes _ _ id (fun _ => rfl) rfl rfl
  | probe => exact setProbes _ _ (fun e => { e.endStep s with condition := .suspended }) (fun e => endStep_profile e s) rfl rfl
  | job => exact of_eq rfl rfl rfl rfl

/-! ### The move unit and the context logic -/

theorem endSegment (g : Segment) (s : State) : KeepsTable s (endSegment g s) := by
  unfold Machine.endSegment
  extract_lets s'
  have h : KeepsTable s s' := of_eq rfl rfl rfl rfl
  split
  · exact h.trans (modPort _ _ _)
  · exact h

theorem moveEnded (g : Segment) (m : MoveRecord) (s : State) : KeepsTable s (moveEnded g m s) := by
  unfold Machine.moveEnded
  extract_lets s'
  have h : KeepsTable s s' := modPort s _ _
  split
  · exact h
  · exact (h.trans (modPort _ _ _)).trans (notify _ _ _)

theorem copyWord (g : Segment) (m : MoveRecord) (s : State) : KeepsTable s (copyWord g m s) := by
  unfold Machine.copyWord
  dsimp only
  split
  · next v a _ _ =>
    have h : KeepsTable s { s with mem := memWrite s.mem a v } := of_eq rfl rfl rfl rfl
    refine h.trans ?_
    split
    · exact (moveEnded g _ _).trans (endSegment g _)
    · split
      · exact (modPort _ g.port _).trans (endSegment g _)
      · exact of_eq rfl rfl rfl rfl
  · exact (moveEnded g _ s).trans (endSegment g _)

theorem contextEnded (p : Port) (r : ContextRun) (s : State) : KeepsTable s (contextEnded p r s) := by
  unfold Machine.contextEnded
  exact ((modPort s p _).trans (leaveQueue p _)).trans (notify _ _ _)

theorem transfer (r : ContextRun) (p : Port) (s : State) : KeepsTable s (r.transfer p s).2 := by
  unfold ContextRun.transfer
  extract_lets off id
  split
  · exact writeWord s _ _ _
  · exact writeWord s _ _ _
  · exact refl s
  · exact refl s

end KeepsTable

end Sys2Proof.Machine

namespace Sys2Proof.Machine

/-- The state that a meaning leaves keeps the invariants of the profile table. -/
def KeepsOutcome (s : State) (o : Host.Outcome State Fault Refusal) : Prop := ∀ t, o = .next t → KeepsTable s t

namespace KeepsOutcome

variable {s t : State}

theorem finish (h : KeepsTable s t) : KeepsOutcome s (Machine.finish t) := by
  rintro u e
  obtain rfl : t = u := Host.Outcome.next.inj e
  exact h

theorem after {o : Host.Outcome State Fault Refusal} (h : KeepsOutcome s o) : KeepsTable s (stateAfter o s) := by
  cases o with
  | next t => exact h t rfl
  | fault r => exact .refl s
  | refused r => exact .refl s

/-- A row of a client command. -/
theorem command {run : Port → List Word → State → State × Answer} (h : ∀ p pl s, KeepsTable s (run p pl s).1) (code : Byte)
    (f : Frame) (s : State) : KeepsOutcome s (Machine.finish (command code run f s)) := finish (.command h code f s)

/-! ### The rows of the part's own events -/

@[simp] theorem frameSync (s : State) : KeepsOutcome s (execFrameSync s) := finish (by
  split
  · exact .of_eq rfl rfl rfl rfl
  · exact .refl s)

@[simp] theorem interfaceStart (s : State) : KeepsOutcome s (execInterfaceStart s) := finish (by
  split
  · exact .of_eq rfl rfl rfl rfl
  · exact .refl s)

@[simp] theorem clockReturn (s : State) : KeepsOutcome s (execClockReturn s) := finish (by
  split
  · have h : KeepsTable s { s with lane := s.lane.clockReturn, profiles := vmap Profile.clockReturn s.profiles } := by
      have hp (n : ProfileId) : State.profile { s with
          lane := s.lane.clockReturn, profiles := vmap Profile.clockReturn s.profiles } n = (s.profile n).clockReturn :=
        vmap_get _ _ n
      refine .of_records (fun n => ?_) (fun n hb => .inl ?_) (fun _ _ h => .inl h) rfl rfl
      · rw [hp]; exact ⟨id, fun _ => rfl, id, rfl, id⟩
      · rw [hp]; exact hb
    have hout (u : State) : KeepsTable u (startOutput u) := .of_eq rfl rfl rfl rfl
    exact (((h.trans (.removeRoutes _)).trans (.controllerClockReturn _)).trans (hout _)).trans (.notifyAll _ _)
  · exact .refl s)

@[simp] theorem housekeepingTick (s : State) : KeepsOutcome s (execHousekeepingTick s) := finish (.of_eq rfl rfl rfl rfl)

@[simp] theorem clockLoss (s : State) : KeepsOutcome s (execClockLoss s) := finish (by
  split
  · have h : KeepsTable s { s with lane := s.lane.clockLoss, gen := withdrawBlock s.lane s.gen } := .of_eq rfl rfl rfl rfl
    exact h.trans (.notifyAll _ _)
  · exact .refl s)

@[simp] theorem keepaliveExpiry (p : Port) (n : Nat) (s : State) : KeepsOutcome s (execKeepaliveExpiry p n s) := finish (by
  split
  · exact (KeepsTable.portReset p s).trans (.modPort _ p _)
  · exact .refl s)

@[simp] theorem arbiterStart (s : State) : KeepsOutcome s (execArbiterStart s) := finish (by
  split
  · exact .arbitrate s
  · exact .refl s)

@[simp] theorem macStepEnd (s : State) : KeepsOutcome s (execMacStepEnd s) := finish (by
  repeat' split
  · exact .refl s
  · exact .nextStep _ s
  · exact .refl s
  · exact .refl s)

@[simp] theorem passSuspended (s : State) : KeepsOutcome s (execPassSuspended s) := finish (by
  repeat' split
  · exact .refl s
  · exact .suspend _ s
  · exact .refl s
  · exact .suspend _ s
  · exact .refl s
  · exact .refl s
  · exact .refl s)

@[simp] theorem stepDrained (s : State) : KeepsOutcome s (execStepDrained s) := finish (by
  split
  · exact .of_eq rfl rfl rfl rfl
  · exact .refl s)

@[simp] theorem routePassComplete (s : State) : KeepsOutcome s (execRoutePassComplete s) := finish (by
  split
  · next e _ he =>
    split
    · have h := KeepsTable.routeCompleted .free (e.endStep s).outputs (e.endStep s).progress.saturated
        (e.endStep s).progress.wrapped he
      exact h
    · exact .refl s
  · exact .refl s)

@[simp] theorem probePassComplete (s : State) : KeepsOutcome s (execProbePassComplete s) := finish (by
  split
  · next e _ he =>
    split
    · extract_lets d fom s1 s2
      have hd : d.profile = e.profile := KeepsTable.endStep_profile e s
      have htaken := KeepsTable.probeTaken .free false he
      rw [← hd] at htaken
      unfold probeScored
      extract_lets stale s3
      have h3 : KeepsTable s s3 := htaken
      split
      · exact h3.trans (.tryQueue _ _)
      · exact (h3.trans .modRecord).trans (.applyFom _ _ _)
    · exact .refl s
  · exact .refl s)

@[simp] theorem jobPassEnd (s : State) : KeepsOutcome s (execJobPassEnd s) := finish (by
  split
  · next j _ _ =>
    split
    · have h : KeepsTable s { s with engine := { s.engine with mac := .free, suspendAsked := false, jobPass := none } } :=
        .of_eq rfl rfl rfl rfl
      exact h.trans (.jobEnded _ _)
    · exact .refl s
  · exact .refl s)

@[simp] theorem moveTurn (s : State) : KeepsOutcome s (execMoveTurn s) := finish (by
  split
  · split
    · exact .of_eq rfl rfl rfl rfl
    · exact .refl s
  · exact .refl s)

@[simp] theorem moveWordCopy (s : State) : KeepsOutcome s (execMoveWordCopy s) := finish (by
  split
  · exact .refl s
  · split
    · exact .copyWord _ _ s
    · exact .of_eq rfl rfl rfl rfl)

@[simp] theorem contextOpStart (p : Port) (s : State) : KeepsOutcome s (execContextOpStart p s) := finish (by
  split
  · exact .refl s
  · exact .modPort s p _)

@[simp] theorem contextWordTransfer (p : Port) (s : State) : KeepsOutcome s (execContextWordTransfer p s) := finish (by
  split
  · exact .refl s
  · next r _ =>
    dsimp only
    split
    · exact (KeepsTable.transfer r p s).trans (.contextEnded p _ _)
    · exact (KeepsTable.transfer r p s).trans (.modPort _ p _))

@[simp] theorem commitCopy (n : ProfileId) (s : State) : KeepsOutcome s (execCommitCopy n s) := finish (.tryCopy n s)
@[simp] theorem profileFreed (n : ProfileId) (s : State) : KeepsOutcome s (execProfileFreed n s) := finish (.freeTest n s)

@[simp] theorem transactionStart (p : Port) (s : State) : KeepsOutcome s (execTransactionStart p s) := finish (by
  unfold startTransaction
  split
  · exact .refl s
  · exact .modPort s p _)

@[simp] theorem transactionOfNoWholeWord (p : Port) (s : State) : KeepsOutcome s (execTransactionOfNoWholeWord p s) :=
  finish (.modPort s p _)

@[simp] theorem poll (f : Frame) (s : State) : KeepsOutcome s (execPoll f s) := finish (by
  split
  · exact .modPort s _ _
  · exact .receive f s)

@[simp] theorem unknownCommand (code : Byte) (f : Frame) (s : State) : KeepsOutcome s (execUnknownCommand code f s) := finish (by
  split
  · exact .refl s
  · split
    · exact .command (fun _ _ s => .refl s) code f s
    · exact .refl s)

@[simp] theorem powerOnReset (low : BitVec 4) (s : State) : KeepsOutcome s (execPowerOnReset low s) := finish (by
  obtain ⟨ps, h⟩ := State.foldl_ignore_eq low allPorts { State.reset with choices := s.choices, pending := s.pending }
  obtain ⟨-, -, -, members, slots, -, copies, references, probes, -⟩ := resetSatisfiesInvariants
  refine Eq.symm h ▸ ?_
  exact ⟨⟨fun _ => members, fun _ => slots, fun _ => probes⟩, fun _ _ => ⟨references, copies⟩⟩)

/-! ### The rows of the client commands -/

@[simp] theorem create (f : Frame) (s : State) : KeepsOutcome s (execCreate f s) :=
  command .create 0x10 f s

@[simp] theorem delete (f : Frame) (s : State) : KeepsOutcome s (execDelete f s) :=
  command .delete 0x11 f s

@[simp] theorem lead (f : Frame) (s : State) : KeepsOutcome s (execLead f s) :=
  command .lead 0x12 f s

@[simp] theorem release (f : Frame) (s : State) : KeepsOutcome s (execRelease f s) :=
  command .release 0x13 f s

@[simp] theorem follow (f : Frame) (s : State) : KeepsOutcome s (execFollow f s) :=
  command .follow 0x14 f s

@[simp] theorem unfollow (f : Frame) (s : State) : KeepsOutcome s (execUnfollow f s) :=
  command .unfollow 0x15 f s

@[simp] theorem readProfile (f : Frame) (s : State) : KeepsOutcome s (execReadProfile f s) :=
  command .readProfile 0x16 f s

@[simp] theorem writeCandidate (f : Frame) (s : State) : KeepsOutcome s (execWriteCandidate f s) :=
  command .writeCandidate 0x17 f s

@[simp] theorem commit (f : Frame) (s : State) : KeepsOutcome s (execCommit f s) :=
  command .commit 0x18 f s

@[simp] theorem setFields (f : Frame) (s : State) : KeepsOutcome s (execSetFields f s) :=
  command .setFields 0x19 f s

@[simp] theorem adapt (f : Frame) (s : State) : KeepsOutcome s (execAdapt f s) :=
  command .adapt 0x1A f s

@[simp] theorem abortAdapt (f : Frame) (s : State) : KeepsOutcome s (execAbortAdapt f s) :=
  command .abortAdapt 0x1B f s

@[simp] theorem freeze (f : Frame) (s : State) : KeepsOutcome s (execFreeze f s) :=
  command .freeze 0x1C f s

@[simp] theorem clearFlags (f : Frame) (s : State) : KeepsOutcome s (execClearFlags f s) :=
  command .clearFlags 0x1D f s

@[simp] theorem claimSlot (f : Frame) (s : State) : KeepsOutcome s (execClaimSlot f s) :=
  command .claimSlot 0x20 f s

@[simp] theorem freeSlot (f : Frame) (s : State) : KeepsOutcome s (execFreeSlot f s) :=
  command .freeSlot 0x21 f s

@[simp] theorem route (f : Frame) (s : State) : KeepsOutcome s (execRoute f s) :=
  command .route 0x22 f s

@[simp] theorem mute (f : Frame) (s : State) : KeepsOutcome s (execMute f s) :=
  command .mute 0x23 f s

@[simp] theorem readSlot (f : Frame) (s : State) : KeepsOutcome s (execReadSlot f s) :=
  command .readSlot 0x24 f s

@[simp] theorem openWindow (f : Frame) (s : State) : KeepsOutcome s (execOpenWindow f s) :=
  command .openWindow 0x30 f s

@[simp] theorem closeWindow (f : Frame) (s : State) : KeepsOutcome s (execCloseWindow f s) :=
  command .closeWindow 0x31 f s

@[simp] theorem writeWords (f : Frame) (s : State) : KeepsOutcome s (execWriteWords f s) :=
  command .writeWordsCommand 0x32 f s

@[simp] theorem readWords (f : Frame) (s : State) : KeepsOutcome s (execReadWords f s) :=
  command .readWords 0x33 f s

@[simp] theorem move (f : Frame) (s : State) : KeepsOutcome s (execMove f s) :=
  command .move 0x34 f s

@[simp] theorem moveStatus (f : Frame) (s : State) : KeepsOutcome s (execMoveStatus f s) :=
  command .moveStatus 0x35 f s

@[simp] theorem dot (f : Frame) (s : State) : KeepsOutcome s (execDot f s) :=
  command (fun p _ => .queueJob p _) 0x40 f s

@[simp] theorem energy (f : Frame) (s : State) : KeepsOutcome s (execEnergy f s) :=
  command (fun p _ => .queueJob p _) 0x41 f s

@[simp] theorem peak (f : Frame) (s : State) : KeepsOutcome s (execPeak f s) :=
  command (fun p _ => .queueJob p _) 0x42 f s

@[simp] theorem sweep (f : Frame) (s : State) : KeepsOutcome s (execSweep f s) :=
  command (fun p _ => .queueJob p _) 0x43 f s

@[simp] theorem push (f : Frame) (s : State) : KeepsOutcome s (execPush f s) :=
  command (fun p _ => .queueJob p _) 0x44 f s

@[simp] theorem drop (f : Frame) (s : State) : KeepsOutcome s (execDrop f s) :=
  command (fun p _ => .queueJob p _) 0x45 f s

@[simp] theorem scale (f : Frame) (s : State) : KeepsOutcome s (execScale f s) :=
  command (fun p _ => .queueJob p _) 0x46 f s

@[simp] theorem store (f : Frame) (s : State) : KeepsOutcome s (execStore f s) :=
  command (fun p _ => .queueJob p _) 0x47 f s

@[simp] theorem save (f : Frame) (s : State) : KeepsOutcome s (execSave f s) :=
  command (.queueContext .save) 0x50 f s

@[simp] theorem saveNow (f : Frame) (s : State) : KeepsOutcome s (execSaveNow f s) :=
  command .saveNow 0x51 f s

@[simp] theorem saveEnv (f : Frame) (s : State) : KeepsOutcome s (execSaveEnv f s) :=
  command (.queueContext .saveEnv) 0x52 f s

@[simp] theorem restore (f : Frame) (s : State) : KeepsOutcome s (execRestore f s) :=
  command (.queueContext .restore) 0x53 f s

@[simp] theorem restoreEnv (f : Frame) (s : State) : KeepsOutcome s (execRestoreEnv f s) :=
  command (.queueContext .restoreEnv) 0x54 f s

@[simp] theorem clearExceptions (f : Frame) (s : State) : KeepsOutcome s (execClearExceptions f s) :=
  command .clearExceptions 0x55 f s

@[simp] theorem setControl (f : Frame) (s : State) : KeepsOutcome s (execSetControl f s) :=
  command .setControl 0x56 f s

@[simp] theorem readContextStatus (f : Frame) (s : State) : KeepsOutcome s (execReadContextStatus f s) :=
  command (fun _ _ s => .refl s) 0x57 f s

@[simp] theorem claimGenerator (f : Frame) (s : State) : KeepsOutcome s (execClaimGenerator f s) :=
  command .claimGenerator 0x60 f s

@[simp] theorem setGenerator (f : Frame) (s : State) : KeepsOutcome s (execSetGenerator f s) :=
  command .setGenerator 0x61 f s

@[simp] theorem releaseGenerator (f : Frame) (s : State) : KeepsOutcome s (execReleaseGenerator f s) :=
  command .releaseGenerator 0x62 f s

@[simp] theorem claimChecker (f : Frame) (s : State) : KeepsOutcome s (execClaimChecker f s) :=
  command .claimChecker 0x63 f s

@[simp] theorem releaseChecker (f : Frame) (s : State) : KeepsOutcome s (execReleaseChecker f s) :=
  command (fun _ _ s => .holderCommand fun i => .modChecker s i _) 0x66 f s

@[simp] theorem readChecker (f : Frame) (s : State) : KeepsOutcome s (execReadChecker f s) :=
  command .readChecker 0x64 f s

@[simp] theorem checkerFreeze (f : Frame) (s : State) : KeepsOutcome s (execCheckerFreeze f s) :=
  finish (.checkerRow .freeze f s)

@[simp] theorem checkerUnfreeze (f : Frame) (s : State) : KeepsOutcome s (execCheckerUnfreeze f s) :=
  finish (.checkerRow .unfreeze f s)

@[simp] theorem checkerClear (f : Frame) (s : State) : KeepsOutcome s (execCheckerClear f s) :=
  finish (.checkerRow .clear f s)

@[simp] theorem identify (f : Frame) (s : State) : KeepsOutcome s (execIdentify f s) :=
  command (fun _ _ s => .refl s) 0x70 f s

@[simp] theorem fetchNotices (f : Frame) (s : State) : KeepsOutcome s (execFetchNotices f s) :=
  command .fetchNotices 0x71 f s

@[simp] theorem setKeepalive (f : Frame) (s : State) : KeepsOutcome s (execSetKeepalive f s) :=
  command .setKeepalive 0x72 f s

@[simp] theorem portReset (f : Frame) (s : State) : KeepsOutcome s (execPortReset f s) :=
  command (run := fun p _ s => (Machine.portReset p s, (.ok, []))) (fun p _ s => .portReset p s) 0x73 f s

@[simp] theorem readDevice (f : Frame) (s : State) : KeepsOutcome s (execReadDevice f s) :=
  command (fun _ _ s => .refl s) 0x74 f s

/-! ### Any row, and the block event -/

theorem frame (code : Byte) (f : Frame) (s : State) : KeepsOutcome s (execFrame code f s) := by
  unfold execFrame
  repeat' split
  all_goals simp

theorem inner (e : Inner) (s : State) : KeepsOutcome s (execInner e s) := by
  cases e with
  | frame code f => exact frame code f s
  | _ => simp [execInner]

end KeepsOutcome

namespace KeepsTable

/-- A moment of a block event (R4). -/
theorem take (k : Block) (r : EventRun) (m : Moment) : KeepsTable r.state (r.take k m).state := by
  cases m with
  | engine => exact engineTurn k r.slots r.engine r.state
  | controller n =>
    simp only [EventRun.take]
    split
    · exact refl _
    · exact controllerEvent k r.flipped r.state n
  | flip n => exact bankFlip k r.state n
  | slot i =>
    simp only [EventRun.take, EventRun.takeSlot]
    split
    · exact refl _
    · exact slotEvent k r.state i
  | inner e => exact (KeepsOutcome.inner e r.state).after

theorem takeAll (k : Block) (within : List Moment) : ∀ r : EventRun,
    KeepsTable r.state (within.foldl (EventRun.take k) r).state := by
  induction within with
  | nil => exact fun r => refl r.state
  | cons m ms ih => exact fun r => (take k r m).trans (ih _)

theorem finish (k : Block) (r : EventRun) : KeepsTable r.state (r.finish k) := by
  unfold EventRun.finish
  exact (((engineRest k r.slots r.engine r.state).trans (controllerBlockEvent k r.treated r.flipped _)).trans
    (bankFlips k _)).trans (slotMapEvent k r.slots _)

theorem blockEventTaken (k : Block) (within : List Moment) (s : State) : KeepsTable s (blockEventTaken k within s) :=
  (takeAll k within ⟨s, 0, [], [], []⟩).trans (finish k _)

theorem frameEvent (frame : LaneFrame) (s : State) : KeepsTable s (frameEvent frame s) := by
  rw [frameEvent_eq]
  exact of_eq rfl rfl rfl rfl

theorem takeFrame (frame : LaneFrame) (within : List Moment) (s : State) : KeepsTable s (takeFrame frame within s) := by
  have hlane (l : Lane) : KeepsTable s { s with lane := l } := of_eq rfl rfl rfl rfl
  unfold Machine.takeFrame
  extract_lets l k l'
  split
  · exact (hlane l').trans (blockEventTaken l'.blockCounter within _)
  · exact hlane _

end KeepsTable

@[simp] theorem KeepsOutcome.frameTaken (frame : TakenFrame) (s : State) : KeepsOutcome s (execFrameTaken frame s) :=
  .finish (by
    split
    · exact (KeepsTable.frameEvent frame.samples s).trans (.takeFrame frame.samples frame.within _)
    · exact .refl s)

/-- The rows of the table, each by its own lemma. -/
theorem KeepsOutcome.exec (i : Instr) (s : State) : KeepsOutcome s (exec i s) := by
  cases i <;> simp [Machine.exec]

/-- Every step keeps the invariants of the profile table. -/
theorem KeepsTable.step {s t : State} (h : step s = .next t) : KeepsTable s t := by
  unfold Machine.step at h
  split at h
  · obtain rfl := Host.Outcome.next.inj h
    exact refl s
  · next i rest hp =>
    have hq : KeepsTable s { s with pending := rest } := .of_eq rfl rfl rfl rfl
    exact hq.trans (KeepsOutcome.exec i _ t h)

/-- Settles O59, by the keeping of the table's invariants through every row (KeepsTable.step). -/
theorem membersAndSlotsStaySound : Obligations.MembersAndSlotsStaySound := by
  unfold Obligations.MembersAndSlotsStaySound
  exact fun s t hm hs h => ⟨(KeepsTable.step h).members hm, (KeepsTable.step h).slots hs⟩

/-- Settles O60, by the keeping of the table's invariants through every row (KeepsTable.step). -/
theorem referencesAndProbesStayCounted : Obligations.ReferencesAndProbesStayCounted := by
  unfold Obligations.ReferencesAndProbesStayCounted
  exact fun s t h => ⟨(KeepsTable.step h).references, (KeepsTable.step h).probes⟩

end Sys2Proof.Machine

/-! SUPPORT. What the commands answer a frame that is taken, and the profile commands of the consoles (O22, O24, O27, O29). -/

namespace Sys2Proof.Machine

/-! ### Operands -/

@[simp] theorem toNat_natWord {k : Nat} (h : k < 65536) : (natWord k).toNat = k := Nat.mod_eq_of_lt h

@[simp] theorem fin?_natWord {n k : Nat} (h : k < 65536) : fin? n (natWord k) = if h : k < n then some ⟨k, h⟩ else none := by
  simp [fin?, toNat_natWord h]

theorem fin?_finWord {n : Nat} (h : n ≤ 65536) (i : Fin n) : fin? n (finWord i) = some i := by
  rw [finWord, fin?_natWord (Nat.lt_of_lt_of_le i.isLt h), dif_pos i.isLt]

theorem fin?_none {n : Nat} {w : Word} (h : n ≤ w.toNat) : fin? n w = none := dif_neg (Nat.not_lt.mpr h)

/-! ### The checks that come first -/

/-- What a row answers a frame that is taken: the answer of its run on the state after receive. -/
theorem finish_command {s : State} {f : Frame} {pl : List Word} {code : Byte} {rule : List Word → PayloadVerdict}
    {run : Port → List Word → State → State × Answer} {t : State} {a : Answer} (h : s.Takes f pl)
    (hr : payloadRule code = some rule) (hf : rule pl = .fits) (e : run f.port pl (receive f s) = (t, a)) :
    finish (command code run f s) = .next (t.reply f.port code f.tag a) := by
  rw [command_of_takes h hr hf, e, finish]

section
variable {s : State} {p : Port} {pl : List Word} {n : ProfileId} {q : Profile} {k : ProfileId → State × Answer}

theorem boundCommand_of_range (h : 31 < (arg pl 0).toNat) : boundCommand pl s k = (s, .badValue, []) := by
  rw [boundCommand, fin?_none h]
  rfl

theorem boundCommand_of_profile (h : arg pl 0 = finWord n) :
    boundCommand pl s k = if (s.profile n).state = .bound then k n else (s, .noSuch, []) := by
  rw [boundCommand, h, fin?_finWord (by decide)]
  rfl

theorem boundCommand_of_bound (h : arg pl 0 = finWord n) (hq : s.profile n = q) (hb : q.state = .bound) :
    boundCommand pl s k = k n := by
  rw [boundCommand_of_profile h, hq, if_pos hb]

theorem boundCommand_of_unbound (h : arg pl 0 = finWord n) (hq : s.profile n = q) (hb : q.state ≠ .bound) :
    boundCommand pl s k = (s, .noSuch, []) := by
  rw [boundCommand_of_profile h, hq, if_neg hb]

theorem leaderCommand_of_range (h : 31 < (arg pl 0).toNat) : leaderCommand p pl s k = (s, .badValue, []) :=
  boundCommand_of_range h

theorem leaderCommand_of_unbound (h : arg pl 0 = finWord n) (hq : s.profile n = q) (hb : q.state ≠ .bound) :
    leaderCommand p pl s k = (s, .noSuch, []) := boundCommand_of_unbound h hq hb

theorem leaderCommand_of_other (h : arg pl 0 = finWord n) (hq : s.profile n = q) (hb : q.state = .bound)
    (hl : q.leader ≠ some p) : leaderCommand p pl s k = (s, .notLeader, []) := by
  rw [leaderCommand, boundCommand_of_bound h hq hb, hq, if_neg hl]
  rfl

theorem leaderCommand_of_leader (h : arg pl 0 = finWord n) (hq : s.profile n = q) (hb : q.state = .bound)
    (hl : q.leader = some p) : leaderCommand p pl s k = k n := by
  rw [leaderCommand, boundCommand_of_bound h hq hb, hq, if_pos hl]

end

/-! ### CREATE (R19) -/

theorem State.freeProfile_of_none {s : State} (h : ∀ n, (s.profile n).state ≠ .free) : s.freeProfile = none :=
  List.find?_eq_none.mpr fun n _ => by simpa using h n

/-- The first of an ascending list that satisfies p is the least that does. -/
theorem find?_of_least {p : ProfileId → Bool} {l : List ProfileId} {n : ProfileId} (hl : l.Pairwise (· < ·)) (hn : n ∈ l) (hp : p n = true)
    (hm : ∀ m, m < n → p m = false) : l.find? p = some n := by
  obtain ⟨as, bs, rfl⟩ := List.append_of_mem hn
  refine List.find?_eq_some_iff_append.mpr ⟨hp, as, bs, rfl, fun m has => ?_⟩
  rw [hm m ((List.pairwise_append.mp hl).2.2 m has n List.mem_cons_self)]
  rfl

theorem State.freeProfile_of_lowest {s : State} {n : ProfileId} (h : (s.profile n).state = .free)
    (hm : ∀ m, m < n → (s.profile m).state ≠ .free) : s.freeProfile = some n :=
  find?_of_least (by decide) (mem_allProfiles n) (by simpa using h) fun m hlt => by simpa using hm m hlt

theorem create_of_range {p : Port} {w : Word} {s : State} (h : 15 < w.toNat) : create p [w] s = (s, .badValue, []) := by
  rw [create, fin?_none (show 16 ≤ (arg [w] 0).toNat from h)]
  rfl

theorem create_of_channel (p : Port) (c : Channel) (s : State) : create p [finWord c] s = match s.freeProfile with
    | none => (s, .full, [])
    | some n => (s.modProfile n fun r => { r with state := .bound, channel := c, leader := some p, followers := 0 },
        .ok, [finWord n]) := by
  rw [create, show fin? 16 (arg [finWord c] 0) = some c from fin?_finWord (by decide) c]
  rfl

/-- Settles O22, by the checks of CREATE in their order. -/
theorem createBindsLowestFreeRecord : Obligations.CreateBindsLowestFreeRecord := by
  unfold Obligations.CreateBindsLowestFreeRecord
  intro s f w h r
  have hp (n : ProfileId) : r.profile n = s.profile n := receive_profile f s n
  refine ⟨fun hw => finish_command h rfl rfl (create_of_range hw), ?_⟩
  rintro c rfl
  refine ⟨fun hn => finish_command h rfl rfl ?_, fun n hn hm => finish_command h rfl rfl ?_⟩
  · rw [create_of_channel, show (receive f s).freeProfile = none from State.freeProfile_of_none fun n => by rw [hp]; exact hn n]
  · rw [create_of_channel, show (receive f s).freeProfile = some n from
      State.freeProfile_of_lowest (by rw [hp]; exact hn) fun m hlt => by rw [hp]; exact hm m hlt]

/-! ### Leader and followers (R23 to R25) -/

section
variable {s : State} {p : Port} {n : ProfileId} {q : Profile} (hq : s.profile n = q) (hb : q.state = .bound)
include hq hb

theorem lead_of_unled (hl : q.leader = none) : lead p [finWord n] s
    = (s.modProfile n fun r => { r with leader := some p, followers := eraseBit r.followers p.val }, .ok, []) := by
  rw [lead, boundCommand_of_bound rfl hq hb, hq, hl]

theorem lead_of_led {l : Port} (hl : q.leader = some l) :
    lead p [finWord n] s = (s, if l = p then (.ok, []) else refuse .held) := by
  rw [lead, boundCommand_of_bound rfl hq hb, hq, hl]

theorem release_of_leader (hl : q.leader = some p) : release p [finWord n] s =
    if q.adapt ≠ .idle then (s, refuse .adapting)
    else if q.stage ≠ .none then (s, refuse .busy)
    else ((s.notifySet q.followers (.leaderless n)).modProfile n fun r => { r with
      leader := none, followers := insertBit r.followers p.val }, .ok, []) := by
  rw [release, leaderCommand_of_leader rfl hq hb hl, hq]

theorem follow_of_bound : follow p [finWord n] s = if q.leader = some p then (s, .ok, [])
    else (s.modProfile n fun r => { r with followers := insertBit r.followers p.val }, .ok, []) := by
  rw [follow, boundCommand_of_bound rfl hq hb, hq]

theorem unfollow_of_bound : unfollow p [finWord n] s = if !q.followers.getLsbD p.val then (s, .ok, [])
    else if s.portUses p n then (s, refuse .inUse)
    else (s.modProfile n fun r => { r with followers := eraseBit r.followers p.val }, .ok, []) := by
  rw [unfollow, boundCommand_of_bound rfl hq hb, hq]

end

/-- Settles O24, command by command. -/
theorem leaderAndFollowers : Obligations.LeaderAndFollowers := by
  unfold Obligations.LeaderAndFollowers
  intro s f n h hb r q ok
  have hq : (receive f s).profile n = q := receive_profile f s n
  have hu : (receive f s).portUses f.port n = s.portUses f.port n := by rw [State.portUses, receive_slots]; rfl
  refine ⟨fun hl => finish_command h rfl rfl ?_, fun hl => finish_command h rfl rfl ?_,
    fun p hl hne => finish_command h rfl rfl ?_, fun hl ha => finish_command h rfl rfl ?_,
    fun hl ha hs => finish_command h rfl rfl ?_, fun hl ha hs => finish_command h rfl rfl ?_,
    fun hl => ⟨finish_command h rfl rfl ?_, finish_command h rfl rfl ?_⟩, fun hl => finish_command h rfl rfl ?_,
    fun hf => finish_command h rfl rfl ?_,
    fun hf => ⟨fun hi => finish_command h rfl rfl ?_, fun hi => finish_command h rfl rfl ?_⟩⟩
  · exact lead_of_unled hq hb hl
  · rw [lead_of_led hq hb hl, if_pos rfl]
  · rw [lead_of_led hq hb hl, if_neg hne]; rfl
  · rw [release_of_leader hq hb hl, if_pos ha]; rfl
  · rw [release_of_leader hq hb hl, if_neg (not_not.mpr ha), if_pos hs]; rfl
  · rw [release_of_leader hq hb hl, if_neg (not_not.mpr ha), if_neg (not_not.mpr hs)]; rfl
  · exact leaderCommand_of_other rfl hq hb hl
  · rw [follow_of_bound hq hb, if_neg hl]; rfl
  · rw [follow_of_bound hq hb, if_pos hl]
  · rw [unfollow_of_bound hq hb, hf]; rfl
  · rw [unfollow_of_bound hq hb, hf, hu, hi]; rfl
  · rw [unfollow_of_bound hq hb, hf, hu, hi]; rfl

/-! ### COMMIT (R33) -/

section
variable {s : State} {n : ProfileId} {p : Profile} {B : Block}

theorem Profile.copyIfDue_of_bank0 (hs : p.stage = .waitingSpare) (hr : p.refs p.spare = 0) (hl : p.live = .bank0) :
    p.copyIfDue B = { p with
      bank1 := ⟨p.candidate, p.generation + 1⟩, stage := .waitingFlip, flipEvent := some (B + 1) } := by
  rw [Profile.copyIfDue, if_pos ⟨hs, hr⟩, show p.spare = .bank1 from congrArg BankId.other hl]
  rfl

theorem Profile.copyIfDue_of_bank1 (hs : p.stage = .waitingSpare) (hr : p.refs p.spare = 0) (hl : p.live = .bank1) :
    p.copyIfDue B = { p with
      bank0 := ⟨p.candidate, p.generation + 1⟩, stage := .waitingFlip, flipEvent := some (B + 1) } := by
  rw [Profile.copyIfDue, if_pos ⟨hs, hr⟩, show p.spare = .bank0 from congrArg BankId.other hl]
  rfl

theorem Profile.copyIfDue_of_not_due (h : p.stage ≠ .waitingSpare ∨ 0 < p.refs p.spare) : p.copyIfDue B = p :=
  if_neg fun ⟨hs, hr⟩ => h.elim (· hs) fun hpos => Nat.ne_of_gt hpos hr

theorem State.modProfile_congr {f g : Profile → Profile} (h : f (s.profile n) = g (s.profile n)) :
    s.modProfile n f = s.modProfile n g := by
  rw [State.modProfile, h]
  rfl

theorem commit_of_leader {c : Port} (hq : s.profile n = p) (hb : p.state = .bound) (hl : p.leader = some c) :
    commit c [finWord n] s = if p.adapt ≠ .idle then (s, refuse .adapting)
      else if p.stage ≠ .none then (s, refuse .busy)
      else (s.modProfile n fun _ => ({ p with stage := .waitingSpare } : Profile).copyIfDue s.lane.blockCounter,
        .accepted, []) := by
  rw [commit, leaderCommand_of_leader rfl hq hb hl, hq, startCommit, tryCopy, State.modProfile_modProfile]
  subst hq
  rfl

end

/-- Settles O27, by the checks of COMMIT in their order and the copy of a waiting commit. -/
theorem commitCopiesToSpare : Obligations.CommitCopiesToSpare := by
  unfold Obligations.CommitCopiesToSpare
  refine ⟨fun s f n h => ?_, fun s f n h hb hl ha hs => ?_, fun s n hs hr => ⟨fun hl => ?_, fun hl => ?_⟩, fun s n hn => ?_⟩
  · intro q refused
    have hq : (receive f s).profile n = q := receive_profile f s n
    refine ⟨fun hb => finish_command h rfl rfl (leaderCommand_of_unbound rfl hq hb),
      fun hb hl => finish_command h rfl rfl (leaderCommand_of_other rfl hq hb hl),
      fun hb hl ha => finish_command h rfl rfl ?_, fun hb hl ha hs => finish_command h rfl rfl ?_⟩
    · rw [commit_of_leader hq hb hl, if_pos ha]; rfl
    · rw [commit_of_leader hq hb hl, if_neg (not_not.mpr ha), if_pos hs]; rfl
  · intro q
    have hq : (receive f s).profile n = q := receive_profile f s n
    refine ⟨({ q with stage := .waitingSpare } : Profile).copyIfDue s.lane.blockCounter, finish_command h rfl rfl ?_,
      fun hr => Profile.copyIfDue_of_not_due (.inr hr), fun hr hl => Profile.copyIfDue_of_bank0 rfl hr hl,
      fun hr hl => Profile.copyIfDue_of_bank1 rfl hr hl⟩
    rw [commit_of_leader hq hb hl, if_neg (not_not.mpr ha), if_neg (not_not.mpr hs), receive_lane]
  · exact congrArg Host.Outcome.next (State.modProfile_congr (Profile.copyIfDue_of_bank0 hs hr hl))
  · exact congrArg Host.Outcome.next (State.modProfile_congr (Profile.copyIfDue_of_bank1 hs hr hl))
  · refine ⟨_, rfl, ?_, rfl, rfl, rfl⟩
    rw [tryCopy, State.profile_modProfile_same, Profile.copyIfDue_of_not_due hn]

/-! ### CLEAR FLAGS (R43) -/

/-- Settles O29, by the checks of CLEAR FLAGS in their order. -/
theorem clearFlagsReportsAndClears : Obligations.ClearFlagsReportsAndClears := by
  unfold Obligations.ClearFlagsReportsAndClears
  intro s f n h r q
  have hq : (receive f s).profile n = q := receive_profile f s n
  refine ⟨fun hb => finish_command h rfl rfl (leaderCommand_of_unbound rfl hq hb),
    fun hb hl => finish_command h rfl rfl (leaderCommand_of_other rfl hq hb hl), fun hb hl => finish_command h rfl rfl ?_⟩
  rw [clearFlags, leaderCommand_of_leader rfl hq hb hl, hq]
  rfl

end Sys2Proof.Machine

/-! SUPPORT. The checks that come first (O21), and READ PROFILE (O25). -/

namespace Sys2Proof.Machine

/-! ### Operands out of range (2.2, 3.1) -/

theorem flag?_none {w : Word} (h : 1 < w.toNat) : flag? w = none := by
  have h0 : w ≠ 0 := fun e => by subst e; exact absurd h (by decide)
  have h1 : w ≠ 1 := fun e => by subst e; exact absurd h (by decide)
  rw [flag?, if_neg h0, if_neg h1]

theorem windowKind?_none {w : Word} (h : 1 < w.toNat) : windowKind? w = none := by
  have h0 : w ≠ 0 := fun e => by subst e; exact absurd h (by decide)
  have h1 : w ≠ 1 := fun e => by subst e; exact absurd h (by decide)
  rw [windowKind?, if_neg h0, if_neg h1]

theorem place?_none {ref off : Word} (h : windowName? ref = none ∨ 32767 < off.toNat) : place? ref off = none := by
  unfold place?
  split
  · next nm hnm =>
    rw [if_neg]
    rcases h with h | h
    · rw [hnm] at h; cases h
    · exact Nat.not_le.mpr h
  · rfl

section
variable {s : State} {p : Port} {pl : List Word}

theorem slotCommand_of_range {k : SlotId → State × Answer} (h : 15 < (arg pl 0).toNat) :
    slotCommand pl s k = (s, .badValue, []) := by
  rw [slotCommand, fin?_none h]
  rfl

theorem slotCommand_of_slot {k : SlotId → State × Answer} {i : SlotId} (h : arg pl 0 = finWord i) :
    slotCommand pl s k = k i := by
  rw [slotCommand, h, fin?_finWord (by decide)]

theorem ownerCommand_of_range {k : SlotId → State × Answer} (h : 15 < (arg pl 0).toNat) :
    ownerCommand p pl s k = (s, .badValue, []) := slotCommand_of_range h

theorem ownerCommand_of_owner {k : SlotId → State × Answer} {i : SlotId} (h : arg pl 0 = finWord i)
    (ho : (s.slot i).owner = some p) : ownerCommand p pl s k = k i := by
  rw [ownerCommand, slotCommand_of_slot h, if_pos ho]

theorem holderCommand_of_range {k : Fin 2 → State × Answer} (h : 1 < (arg pl 0).toNat) :
    holderCommand p pl s k = (s, .badValue, []) := by
  rw [holderCommand, fin?_none h]
  rfl

theorem readChecker_of_range (h : 1 < (arg pl 0).toNat) : readChecker p pl s = (s, .badValue, []) := by
  rw [readChecker, fin?_none h]
  rfl

theorem claimChecker_of_range (h : 1 < (arg pl 0).toNat ∨ 15 < (arg pl 1).toNat) :
    claimChecker p pl s = (s, .badValue, []) := by
  unfold claimChecker
  split
  · next hi hc =>
    rcases h with h | h
    · rw [fin?_none h] at hi; cases hi
    · rw [fin?_none h] at hc; cases hc
  · rfl

theorem moveStatus_of_range (h : 3 < (arg pl 0).toNat ∨ 1 < (arg pl 1).toNat) :
    moveStatus p pl s = (s, .badValue, []) := by
  unfold moveStatus
  split
  · next hr hc =>
    rcases h with h | h
    · rw [fin?_none h] at hr; cases hr
    · rw [flag?_none h] at hc; cases hc
  · rfl

theorem closeWindow_of_range (h : windowName? (arg pl 0) = none) : closeWindow p pl s = (s, .badValue, []) := by
  rw [closeWindow, h]
  rfl

theorem readWords_of_range (h : windowName? (arg pl 0) = none) : readWords p pl s = (s, .badValue, []) := by
  rw [readWords, h]
  rfl

theorem openWindow_of_range (h : 1 < (arg pl 0).toNat) : openWindow p pl s = (s, .badValue, []) := by
  rw [openWindow, windowKind?_none h]
  rfl

theorem checkPlace_of_range {n : Nat} (h : place? (arg pl 0) (arg pl 1) = none) : checkPlace p pl n s = .inr .badValue := by
  rw [checkPlace, h]

theorem queueContext_of_range {op : ContextOp} (h : place? (arg pl 0) (arg pl 1) = none) :
    queueContext op p pl s = (s, .badValue, []) := by
  rw [queueContext, checkPlace_of_range h]
  rfl

theorem saveNow_of_range (h : place? (arg pl 0) (arg pl 1) = none) : saveNow p pl s = (s, .badValue, []) := by
  rw [saveNow, checkPlace_of_range h]
  rfl

theorem checkerControl_of_range {a : CheckerAction} (h : 1 < (arg pl 0).toNat ∨ arg pl 1 ≠ a.code) :
    checkerControl a p pl s = (s, .badValue, []) := by
  unfold checkerControl
  split
  · rfl
  · next hc => exact holderCommand_of_range (h.resolve_right hc)

theorem mute_of_range {i : SlotId} (h : arg pl 0 = finWord i) (ho : (s.slot i).owner = some p) (hv : 1 < (arg pl 1).toNat) :
    mute p pl s = (s, .badValue, []) := by
  rw [mute, ownerCommand_of_owner h ho, flag?_none hv]
  rfl

theorem readSlot_of_range {i : SlotId} (h : arg pl 0 = finWord i) (hv : 1 < (arg pl 1).toNat) :
    readSlot p pl s = (s, .badValue, []) := by
  rw [readSlot, slotCommand_of_slot h, flag?_none hv]
  rfl

theorem readProfile_of_range (h : 31 < (arg pl 0).toNat) : readProfile p pl s = (s, .badValue, []) := by
  rw [readProfile, fin?_none h]
  rfl

end

/-- The action word of a CHECKER CONTROL frame is the row's own, or none of the three. -/
theorem otherAction_false {s : State} {f : Frame} {a : CheckerAction} {w v : Word} (h : s.Takes f [w, v])
    (hv : v = a.code ∨ 2 < v.toNat) : otherAction f a = false := by
  rw [otherAction, checkFrame_of_carries h.1]
  show (v != a.code && decide (v.toNat ≤ 2)) = false
  rcases hv with rfl | hv
  · simp
  · simp [Nat.not_le.mpr hv]

/-- A CHECKER CONTROL frame of the row's own action refused, or of no row's action. -/
theorem checkerRow_of_range {s : State} {f : Frame} {a : CheckerAction} {w v : Word} (h : s.Takes f [w, v])
    (hv : v = a.code ∨ 2 < v.toNat) (hw : 1 < w.toNat ∨ v ≠ a.code) :
    finish (checkerRow a f s) = .next ((receive f s).reply f.port 0x65 f.tag (.badValue, [])) := by
  rw [checkerRow, otherAction_false h hv]
  exact finish_command h rfl rfl (checkerControl_of_range hw)

/-! ### The profile commands of one operand (R22) -/

/-- A row whose command asks for a BOUND profile first. -/
def BoundRow (x : (Frame → Instr) × Byte) : Prop :=
  payloadRule x.2 = some (lengthIs 1) ∧ ∃ k : Port → List Word → State → ProfileId → State × Answer,
    ∀ f s, exec (x.1 f) s = finish (command x.2 (fun p pl s => boundCommand pl s (k p pl s)) f s)

/-- A row of the leader's alone. -/
def LedRow (x : (Frame → Instr) × Byte) : Prop :=
  payloadRule x.2 = some (lengthIs 1) ∧ ∃ k : Port → List Word → State → ProfileId → State × Answer,
    ∀ f s, exec (x.1 f) s = finish (command x.2 (fun p pl s => leaderCommand p pl s (k p pl s)) f s)

theorem LedRow.bound {x : (Frame → Instr) × Byte} (h : LedRow x) : BoundRow x := by
  obtain ⟨hr, k, e⟩ := h
  exact ⟨hr, _, e⟩

theorem boundRows : ∀ x ∈ [(Instr.lead, (0x12 : Byte)), (.follow, 0x14), (.unfollow, 0x15)], BoundRow x := by
  simp only [List.forall_mem_cons]
  exact ⟨⟨rfl, _, fun _ _ => rfl⟩, ⟨rfl, _, fun _ _ => rfl⟩, ⟨rfl, _, fun _ _ => rfl⟩, fun _ h => nomatch h⟩

theorem ledRows : ∀ x ∈ [(Instr.delete, (0x11 : Byte)), (.release, 0x13), (.commit, 0x18), (.adapt, 0x1A),
    (.abortAdapt, 0x1B), (.freeze, 0x1C), (.clearFlags, 0x1D)], LedRow x := by
  simp only [List.forall_mem_cons]
  exact ⟨⟨rfl, _, fun _ _ => rfl⟩, ⟨rfl, _, fun _ _ => rfl⟩, ⟨rfl, _, fun _ _ => rfl⟩, ⟨rfl, _, fun _ _ => rfl⟩,
    ⟨rfl, _, fun _ _ => rfl⟩, ⟨rfl, _, fun _ _ => rfl⟩, ⟨rfl, _, fun _ _ => rfl⟩, fun _ h => nomatch h⟩

section
variable {s : State} {f : Frame} {x : (Frame → Instr) × Byte} {w : Word} {n : ProfileId}

theorem BoundRow.of_range (hx : BoundRow x) (h : s.Takes f [w]) (hw : 31 < w.toNat) :
    exec (x.1 f) s = .next ((receive f s).reply f.port x.2 f.tag (.badValue, [])) := by
  obtain ⟨hr, k, e⟩ := hx
  rw [e]
  exact finish_command h hr rfl (boundCommand_of_range hw)

theorem BoundRow.of_unbound (hx : BoundRow x) (h : s.Takes f [finWord n]) (hb : (s.profile n).state ≠ .bound) :
    exec (x.1 f) s = .next ((receive f s).reply f.port x.2 f.tag (.noSuch, [])) := by
  obtain ⟨hr, k, e⟩ := hx
  rw [e]
  exact finish_command h hr rfl (boundCommand_of_unbound rfl (receive_profile f s n) hb)

theorem LedRow.of_other (hx : LedRow x) (h : s.Takes f [finWord n]) (hb : (s.profile n).state = .bound)
    (hl : (s.profile n).leader ≠ some f.port) :
    exec (x.1 f) s = .next ((receive f s).reply f.port x.2 f.tag (.notLeader, [])) := by
  obtain ⟨hr, k, e⟩ := hx
  rw [e]
  exact finish_command h hr rfl (leaderCommand_of_other rfl (receive_profile f s n) hb hl)

end

/-- Settles O21, by the first check of each command. -/
theorem operandsAndRightsChecked : Obligations.OperandsAndRightsChecked := by
  unfold Obligations.OperandsAndRightsChecked
  intro s f pl h refused member led
  have rows (x) (hx : x ∈ member ++ led) : BoundRow x :=
    (List.mem_append.mp hx).elim (boundRows x) fun hl => (ledRows x hl).bound
  refine ⟨?one, ?two, ?three⟩
  case one =>
    rintro w rfl
    refine ⟨fun hw x hx => (rows x hx).of_range h hw, ?_, fun hw => ⟨?_, ?_⟩, fun hw => ⟨?_, ?_⟩, fun hw => ?_⟩
    · rintro n rfl
      exact ⟨fun hb x hx => (rows x hx).of_unbound h hb, fun hb hl x hx => (ledRows x hx).of_other h hb hl⟩
    · exact finish_command h rfl rfl (slotCommand_of_range hw)
    · exact finish_command h rfl rfl (ownerCommand_of_range hw)
    · exact finish_command h rfl rfl (readChecker_of_range hw)
    · exact finish_command h rfl rfl (holderCommand_of_range hw)
    · exact finish_command h rfl rfl (closeWindow_of_range hw)
  case two =>
    rintro w v rfl
    refine ⟨fun hw => ⟨?_, ?_⟩, fun i hi hv => ⟨?_, fun ho => ?_⟩, fun hw => ?_, fun hw hv => ?_, fun hw hv => ?_,
      fun hw hv => ?_, fun hv => ?_, fun hw => ?_, fun hw => ⟨?_, ?_, ?_, ?_, ?_⟩⟩
    · exact finish_command h rfl rfl (ownerCommand_of_range hw)
    · exact finish_command h rfl rfl (slotCommand_of_range hw)
    · exact finish_command h rfl rfl (readSlot_of_range hi hv)
    · exact finish_command h rfl rfl (mute_of_range hi (by rw [receive_slot]; exact ho) hv)
    · exact finish_command h rfl rfl (claimChecker_of_range hw)
    · exact checkerRow_of_range h (.inl hv) (.inl hw)
    · exact checkerRow_of_range h (.inl hv) (.inl hw)
    · exact checkerRow_of_range h (.inl hv) (.inl hw)
    · exact checkerRow_of_range h (.inr hv) (.inr fun e => absurd hv (by rw [e]; decide))
    · exact finish_command h rfl rfl (moveStatus_of_range hw)
    · exact finish_command h rfl rfl (queueContext_of_range (place?_none hw))
    · exact finish_command h rfl rfl (saveNow_of_range (place?_none hw))
    · exact finish_command h rfl rfl (queueContext_of_range (place?_none hw))
    · exact finish_command h rfl rfl (queueContext_of_range (place?_none hw))
    · exact finish_command h rfl rfl (queueContext_of_range (place?_none hw))
  case three =>
    rintro w v u rfl
    refine ⟨fun hw => ?_, fun hw => ?_, fun hw => ?_, fun hw => ?_⟩
    · exact finish_command h rfl rfl (ownerCommand_of_range hw)
    · exact finish_command h rfl rfl (readProfile_of_range hw)
    · exact finish_command h rfl rfl (openWindow_of_range hw)
    · exact finish_command h rfl rfl (readWords_of_range hw)

/-! ### READ PROFILE (R44) -/

/-- The items of a vector, one after another. -/
theorem Vector.toList_eq_map_get {α : Type} {k : Nat} (v : Vector α k) : v.toList = (List.finRange k).map v.get := by
  refine List.ext_getElem (by simp) fun i h _ => ?_
  simp [Vector.get]

theorem readProfile_of_part {s : State} {p : Port} {n : ProfileId} {q : Profile} {part start : Word} {ws : List Word}
    (hq : s.profile n = q) (h : profilePart q part start = some ws) :
    readProfile p [finWord n, part, start] s = (s, .ok, ws) := by
  rw [readProfile, show fin? 32 (arg [finWord n, part, start] 0) = some n from fin?_finWord (by decide) n]
  show (match profilePart (s.profile n) part start with
    | none => (s, refuse .badValue)
    | some ws => (s, .ok, ws)) = _
  rw [hq, h]

theorem readProfile_of_no_part {s : State} {p : Port} {n : ProfileId} {q : Profile} {part start : Word}
    (hq : s.profile n = q) (h : profilePart q part start = none) :
    readProfile p [finWord n, part, start] s = (s, .badValue, []) := by
  rw [readProfile, show fin? 32 (arg [finWord n, part, start] 0) = some n from fin?_finWord (by decide) n]
  show (match profilePart (s.profile n) part start with
    | none => (s, refuse .badValue)
    | some ws => (s, .ok, ws)) = _
  rw [hq, h]
  rfl

/-- No part above code 4, and no coefficient set from past its last tap. -/
theorem profilePart_none {q : Profile} {part start : Word} (h : 4 < part.toNat ∨ 63 < start.toNat ∧ 2 ≤ part.toNat) :
    profilePart q part start = none := by
  unfold profilePart
  extract_lets set
  have hset (c : CoeffSet) (g : List Word) (hs : 63 < start.toNat) : set c g = none := if_neg (Nat.not_le.mpr hs)
  split
  · omega
  · omega
  · exact hset _ _ (by omega)
  · exact hset _ _ (by omega)
  · exact hset _ _ (by omega)
  · rfl

theorem setHeadWords_eq (d : CoeffSet) : setHeadWords d =
    let w (j : Fin 5) : Nat := (d.weights.get j).val
    let b (j : Fin 5) : Nat := if d.polarities.get j then 1 else 0
    [natWord (d.emphasis.val + 16 * d.gain.val + 64 * b 0 + 128 * b 1 + 256 * b 2 + 512 * b 3 + 1024 * b 4),
      finWord d.tapCount, natWord (w 0 + 32 * w 1 + 1024 * w 2), natWord (w 3 + 32 * w 4)] := by
  extract_lets w b
  have hw : d.weights.toList = (List.finRange 5).map d.weights.get := Vector.toList_eq_map_get _
  have hb : d.polarities.toList = (List.finRange 5).map d.polarities.get := Vector.toList_eq_map_get _
  have hn (j : Fin 5) : boolNat (d.polarities.get j) = b j := rfl
  unfold setHeadWords
  rw [hw, hb]
  simp only [show List.finRange 5 = [0, 1, 2, 3, 4] by decide, List.map_cons, List.map_nil, List.foldr_cons, List.foldr_nil, hn]
  refine congrArg₂ _ (congrArg _ ?_) rfl
  ring

/-- Settles O25, part by part. -/
theorem readProfileGivesPart : Obligations.ReadProfileGivesPart := by
  unfold Obligations.ReadProfileGivesPart
  intro s f n part start h q answer taps entry summary selection c polarity config head
  have hq : (receive f s).profile n = q := receive_profile f s n
  have some_answer {ws : List Word} (e : profilePart q part start = some ws) : answer (.ok, ws) :=
    finish_command h rfl rfl (readProfile_of_part hq e)
  have none_answer (e : 4 < part.toNat ∨ 63 < start.toNat ∧ 2 ≤ part.toNat) : answer (.badValue, []) :=
    finish_command h rfl rfl (readProfile_of_no_part hq (profilePart_none e))
  refine ⟨?_, ?_, fun hs => ⟨?_, ?_, ?_⟩, fun hs hp => none_answer (.inr ⟨hs, hp⟩), fun hp => none_answer (.inl hp)⟩
  · rintro rfl
    refine some_answer (congrArg some ?_)
    unfold summaryWords
    rw [Vector.toList_eq_map_get q.ring, show List.finRange 4 = [0, 1, 2, 3] by decide]
    simp only [List.map_cons, List.map_nil, List.flatMap_cons, List.flatMap_nil, List.append_nil, summary, List.append_assoc]
    rfl
  · rintro rfl
    refine some_answer (congrArg some ?_)
    have hl : natWord q.config.probeLength.samples
        = (match q.config.probeLength with | .w32 => 32 | .w64 => 64 | .w128 => 128) := by
      cases q.config.probeLength <;> rfl
    unfold configWords
    rw [Vector.toList_eq_map_get q.config.startPolarities, show List.finRange 5 = [0, 1, 2, 3, 4] by decide, hl]
    rfl
  · rintro rfl
    refine some_answer ((if_pos hs).trans (congrArg some ?_))
    rw [setHeadWords_eq]; rfl
  · rintro rfl
    refine some_answer ((if_pos hs).trans (congrArg some ?_))
    rw [setHeadWords_eq]; rfl
  · rintro rfl
    refine some_answer ((if_pos hs).trans (congrArg some ?_))
    rw [setHeadWords_eq, List.append_nil]; rfl

end Sys2Proof.Machine

/-! SUPPORT. Field lists of the profile commands: WRITE CANDIDATE and SET FIELDS (O26, O28). -/

namespace Sys2Proof.Machine

/-! ### Field lists (R189) -/

theorem cutFields_fst (size : Nat → List Word → Nat) (is : List Nat) : ∀ ws, (cutFields size is ws).map Prod.fst = is := by
  induction is with
  | nil => exact fun _ => rfl
  | cons i is ih => exact fun ws => congrArg (i :: ·) (ih _)

section
variable {α β : Type} {f : Nat → List Word → α → Option α} {l : List (Nat × List Word)}

/-- What every field of a list keeps, the list keeps. -/
theorem applyFields_kept {g : α → β} (h : ∀ i ∈ l.map Prod.fst, ∀ ws a b, f i ws a = some b → g b = g a) :
    ∀ {a b : α}, applyFields f l a = some b → g b = g a := by
  induction l with
  | nil => exact fun e => congrArg g (Option.some.inj e).symm
  | cons x l ih =>
    intro a b e
    obtain ⟨c, hc, e⟩ := Option.bind_eq_some_iff.mp e
    exact (ih (fun i hi => h i (List.mem_cons_of_mem _ hi)) e).trans (h _ List.mem_cons_self _ _ _ hc)

/-- Whether the fields of a list are in range does not depend on the record, when it does not for one field. -/
theorem applyFields_isSome (h : ∀ i ws a b, (f i ws a).isSome = (f i ws b).isSome) :
    ∀ a b : α, (applyFields f l a).isSome = (applyFields f l b).isSome := by
  induction l with
  | nil => exact fun _ _ => rfl
  | cons x l ih =>
    intro a b
    obtain ⟨i, ws⟩ := x
    have hab := h i ws a b
    simp only [applyFields]
    cases ha : f i ws a with
    | none =>
      rw [ha] at hab
      rw [Option.isNone_iff_eq_none.mp (Option.isSome_eq_false_iff.mp hab.symm)]
    | some c =>
      rw [ha] at hab
      obtain ⟨d, hd⟩ := Option.isSome_iff_exists.mp hab.symm
      rw [hd]
      exact ih c d

theorem mem_selected {n sel i : Nat} (h : i ∈ selected n sel) : sel.testBit i = true := (List.mem_filter.mp h).2

/-- A field that is not selected is kept. -/
theorem applyFields_cut_kept {size : Nat → List Word → Nat} {n sel j : Nat} {ws : List Word} {g : α → β}
    (hj : sel.testBit j = false) (h : ∀ i ws a b, f i ws a = some b → i ≠ j → g b = g a) {a b : α}
    (e : applyFields f (cutFields size (selected n sel) ws) a = some b) : g b = g a := by
  refine applyFields_kept (fun i hi ws a b hf => h i ws a b hf fun hij => ?_) e
  rw [cutFields_fst] at hi
  rw [hij] at hi
  exact Bool.false_ne_true (hj.symm.trans (mem_selected hi))

/-- A field selected alone takes its own words. -/
theorem applyFields_cut_one {size : Nat → List Word → Nat} {i : Nat} {ws : List Word} {is : List Nat} (h : is = [i]) (a : α) :
    applyFields f (cutFields size is ws) a = f i (ws.take (size i ws)) a := by
  subst h
  exact Option.bind_fun_some _

end

/-! ### Values -/

theorem map_fin? {β : Type} {n : Nat} {w : Word} {g : Fin n → β} :
    (fin? n w).map g = if h : w.toNat < n then some (g ⟨w.toNat, h⟩) else none := by
  unfold fin?
  split <;> rfl

/-- The codes of a value are the same whether they are read by number or by word. -/
theorem Word.eq_iff_toNat {w : Word} {k : Nat} (h : k < 65536) : w = natWord k ↔ w.toNat = k := by
  rw [← BitVec.toNat_inj, toNat_natWord h]

theorem flag?_boolWord (b : Bool) : flag? (boolWord b) = some b := by cases b <;> rfl

theorem flags5?_of {v : Vector Bool 5} : flags5? (v.toList.map boolWord) = some v := by
  rw [Vector.toList_eq_map_get v, show List.finRange 5 = [0, 1, 2, 3, 4] by decide]
  simp only [flags5?, List.map_cons, List.map_nil, flag?_boolWord]
  refine congrArg some (vector_ext_get fun i => ?_)
  fin_cases i <;> rfl

theorem weights5?_of {v : Vector (Fin 32) 5} : weights5? (v.toList.map finWord) = some v := by
  rw [Vector.toList_eq_map_get v, show List.finRange 5 = [0, 1, 2, 3, 4] by decide]
  simp only [weights5?, List.map_cons, List.map_nil, fin?_finWord (show 32 ≤ 65536 by decide)]
  refine congrArg some (vector_ext_get fun i => ?_)
  fin_cases i <;> rfl

theorem flags5?_none {ws : List Word} (h : ∃ w ∈ ws, 1 < w.toNat) : flags5? ws = none := by
  obtain ⟨w, hw, hlt⟩ := h
  have hm : none ∈ ws.map flag? := List.mem_map.mpr ⟨w, hw, flag?_none hlt⟩
  unfold flags5?
  split
  · next e => rw [e] at hm; simp at hm
  · rfl

theorem weights5?_none {ws : List Word} (h : ∃ w ∈ ws, 31 < w.toNat) : weights5? ws = none := by
  obtain ⟨w, hw, hlt⟩ := h
  have hm : none ∈ ws.map (fin? 32) := List.mem_map.mpr ⟨w, hw, fin?_none hlt⟩
  unfold weights5?
  split
  · next e => rw [e] at hm; simp at hm
  · rfl

/-! ### WRITE CANDIDATE (R27, R30) -/

/-- The sets agree but for field i of R27's table. -/
structure CoeffSet.SameBut (i : Nat) (c d : CoeffSet) : Prop where
  emphasis   : i ≠ 0 → d.emphasis = c.emphasis
  tapCount   : i ≠ 1 → d.tapCount = c.tapCount
  taps       : i ≠ 2 → d.taps = c.taps
  weights    : i ≠ 3 → d.weights = c.weights
  polarities : i ≠ 4 → d.polarities = c.polarities
  gain       : i ≠ 5 → d.gain = c.gain

theorem setField_weights (ws : List Word) (c : CoeffSet) :
    setField 3 ws c = (weights5? ws).map fun v => { c with weights := v } := rfl

theorem setField_polarities (ws : List Word) (c : CoeffSet) :
    setField 4 ws c = (flags5? ws).map fun v => { c with polarities := v } := rfl

/-- Field i of a coefficient set writes no other. -/
theorem setField_sameBut {i : Nat} {ws : List Word} {c d : CoeffSet} (h : setField i ws c = some d) : c.SameBut i d := by
  unfold setField at h
  extract_lets w at h
  split at h
  case h_3 =>
    split at h
    · obtain rfl := Option.some.inj h
      constructor <;> simp
    · cases h
  case h_7 => cases h
  all_goals
    obtain ⟨v, -, rfl⟩ := Option.map_eq_some_iff.mp h
    constructor <;> simp

theorem writeTaps_get (vs : List Word) : ∀ (taps : Vector Sample 64) (start : Nat) (i : Fin 64),
    (writeTaps taps start vs).get i
      = if start ≤ i.val ∧ i.val < start + vs.length then vs.getD (i.val - start) 0 else taps.get i := by
  induction vs with
  | nil => exact fun taps start i => (if_neg fun h => Nat.not_lt.mpr h.1 h.2).symm
  | cons v vs ih =>
    intro taps start i
    rw [writeTaps, ih, List.length_cons]
    by_cases e : i.val = start
    · subst e
      rw [if_neg (by omega), if_pos (by omega), dif_pos i.isLt, vset_get_same, Nat.sub_self, List.getD_cons_zero]
    · have hi : (if h : start < 64 then vset taps ⟨start, h⟩ v else taps).get i = taps.get i := by
        split
        · exact vset_get_ne taps v fun h => e (congrArg Fin.val h)
        · rfl
      rw [hi]
      by_cases hr : start + 1 ≤ i.val ∧ i.val < start + 1 + vs.length
      · rw [if_pos hr, if_pos (by omega), show i.val - start = i.val - (start + 1) + 1 by omega, List.getD_cons_succ]
      · rw [if_neg hr, if_neg (by omega)]

section
variable {n : Word} {c : CoeffSet}

theorem candidateOf_one {sel : Word} {i : Nat} {vs : List Word} (h : selected 6 sel.toNat = [i]) :
    candidateOf ([n, sel] ++ vs) c = setField i (vs.take (setFieldSize i vs)) c := applyFields_cut_one h c

theorem candidateOf_taps {start : Word} {vs : List Word} (hl : vs.length ≤ 56) :
    candidateOf ([n, 4, start, natWord vs.length] ++ vs) c
      = if start.toNat ≤ 63 ∧ 1 ≤ vs.length ∧ vs.length ≤ 56 ∧ start.toNat + vs.length ≤ 64 then
          some { c with taps := writeTaps c.taps start.toNat vs } else none := by
  have hn : (natWord vs.length).toNat = vs.length := toNat_natWord (by omega)
  have hs : setFieldSize 2 ([start, natWord vs.length] ++ vs) = ([start, natWord vs.length] ++ vs).length := by
    show 2 + (natWord vs.length).toNat = vs.length + 2
    omega
  refine (candidateOf_one (sel := 4) (i := 2) (vs := [start, natWord vs.length] ++ vs) (by decide)).trans ?_
  rw [hs, List.take_length]
  show (if start.toNat ≤ 63 ∧ 1 ≤ (natWord vs.length).toNat ∧ (natWord vs.length).toNat ≤ 56
      ∧ start.toNat + (natWord vs.length).toNat ≤ 64 then some { c with taps := writeTaps c.taps start.toNat vs } else none) = _
  rw [hn]

theorem candidateOf_five {sel : Word} {i : Nat} {ws : List Word} (h : selected 6 sel.toNat = [i])
    (hi : i = 3 ∨ i = 4) (hw : ws.length = 5) : candidateOf ([n, sel] ++ ws) c = setField i ws c := by
  rw [candidateOf_one h, show setFieldSize i ws = 5 by rcases hi with rfl | rfl <;> rfl, ← hw, List.take_length]

end

theorem writeCandidate_of_leader {s : State} {p : Port} {pl : List Word} {n : ProfileId} {q : Profile}
    (h : arg pl 0 = finWord n) (hq : s.profile n = q) (hb : q.state = .bound) (hl : q.leader = some p) :
    writeCandidate p pl s = if q.adapt ≠ .idle then (s, .adapting, [])
      else if q.stage = .waitingSpare then (s, .busy, [])
      else (candidateOf pl q.candidate).elim (s, .badValue, []) fun c =>
        (s.modProfile n fun r => { r with candidate := c }, .ok, []) := by
  rw [writeCandidate, leaderCommand_of_leader h hq hb hl, hq]
  refine if_congr Iff.rfl rfl (if_congr Iff.rfl rfl ?_)
  cases candidateOf pl q.candidate <;> rfl

/-- Settles O26: the checks in their order, then the fields of the list one by one. -/
theorem writeCandidateSetsFields : Obligations.WriteCandidateSetsFields := by
  unfold Obligations.WriteCandidateSetsFields
  refine ⟨fun s f pl h hf => ?command, fun pl c d e => ?kept, fun n w c => ?words, fun n start vs c hl => ?taps,
    fun n w c => ?weights, fun n ws c hw => ?range, fun n b c => ?polarities⟩
  case command =>
    refine ⟨fun hw => finish_command h rfl hf (leaderCommand_of_range hw), fun n hn => ?_⟩
    have hq : (receive f s).profile n = s.profile n := receive_profile f s n
    refine ⟨fun hb => finish_command h rfl hf (leaderCommand_of_unbound hn hq hb),
      fun hb hl => finish_command h rfl hf (leaderCommand_of_other hn hq hb hl), fun hb hl => ?_⟩
    have run := writeCandidate_of_leader (p := f.port) hn hq hb hl
    refine ⟨fun ha => finish_command h rfl hf (run.trans (if_pos ha)), fun ha => ?_⟩
    rw [if_neg (not_not.mpr ha)] at run
    refine ⟨fun hs => finish_command h rfl hf (run.trans (if_pos hs)), fun hs => ?_⟩
    rw [if_neg hs] at run
    refine ⟨fun hc => finish_command h rfl hf ?_, fun c hc => finish_command h rfl hf ?_⟩
    all_goals rw [run, hc]; rfl
  case kept =>
    intro sel
    refine ⟨fun hj => ?_, fun hj => ?_, fun hj => ?_, fun hj => ?_, fun hj => ?_, fun hj => ?_⟩
    · exact applyFields_cut_kept hj (fun i ws a b hab => (setField_sameBut hab).emphasis) e
    · exact applyFields_cut_kept hj (fun i ws a b hab => (setField_sameBut hab).tapCount) e
    · exact applyFields_cut_kept hj (fun i ws a b hab => (setField_sameBut hab).taps) e
    · exact applyFields_cut_kept hj (fun i ws a b hab => (setField_sameBut hab).weights) e
    · exact applyFields_cut_kept hj (fun i ws a b hab => (setField_sameBut hab).polarities) e
    · exact applyFields_cut_kept hj (fun i ws a b hab => (setField_sameBut hab).gain) e
  case words =>
    refine ⟨?_, ?_, ?_⟩
    · exact (candidateOf_one (sel := 1) (i := 0) (vs := [w]) (by decide)).trans map_fin?
    · exact (candidateOf_one (sel := 2) (i := 1) (vs := [w]) (by decide)).trans map_fin?
    · exact (candidateOf_one (sel := 32) (i := 5) (vs := [w]) (by decide)).trans map_fin?
  case taps =>
    rw [candidateOf_taps hl]
    refine ⟨fun hin => ⟨_, if_pos (by omega), fun i => writeTaps_get vs c.taps start.toNat i⟩, fun hout => if_neg (by omega)⟩
  case weights =>
    rw [candidateOf_five (i := 3) (by decide) (.inl rfl) (by simp), setField_weights, weights5?_of]
    rfl
  case range =>
    refine ⟨fun hout => ?_, fun hout => ?_⟩
    · rw [candidateOf_five (i := 3) (by decide) (.inl rfl) hw, setField_weights, weights5?_none hout]
      rfl
    · rw [candidateOf_five (i := 4) (by decide) (.inr rfl) hw, setField_polarities, flags5?_none hout]
      rfl
  case polarities =>
    rw [candidateOf_five (i := 4) (by decide) (.inr rfl) (by simp), setField_polarities, flags5?_of]
    rfl

end Sys2Proof.Machine

/-! SUPPORT. SET FIELDS (O28). -/

namespace Sys2Proof.Machine

/-! ### The fields of R38's table -/

/-- The configurations agree but for field i of R38's table. -/
structure AdaptConfig.SameBut (i : Nat) (c d : AdaptConfig) : Prop where
  mode             : i ≠ 0 → d.mode = c.mode
  shapingFom       : i ≠ 1 → d.shapingFom = c.shapingFom
  trimFom          : i ≠ 2 → d.trimFom = c.trimFom
  fomA             : i ≠ 3 → d.fomA = c.fomA
  fomB             : i ≠ 4 → d.fomB = c.fomB
  fomC             : i ≠ 5 → d.fomC = c.fomC
  shapingMinimum   : i ≠ 6 → d.shapingMinimum = c.shapingMinimum
  acceptance       : i ≠ 7 → d.acceptance = c.acceptance
  startPolarities  : i ≠ 8 → d.startPolarities = c.startPolarities
  trimCeiling      : i ≠ 9 → d.trimCeiling = c.trimCeiling
  probeLength      : i ≠ 10 → d.probeLength = c.probeLength
  target           : i ≠ 11 → d.target = c.target
  continuous       : i ≠ 12 → d.continuous = c.continuous
  trackInterval    : i ≠ 13 → d.trackInterval = c.trackInterval
  lookAhead        : i ≠ 14 → d.lookAhead = c.lookAhead
  allowableChange  : i ≠ 15 → d.allowableChange = c.allowableChange
  hysteresis       : i ≠ 16 → d.hysteresis = c.hysteresis

/-- Field i of R38's table writes no other. -/
theorem configField_sameBut {i : Nat} {ws : List Word} {c d : AdaptConfig} (h : configField i ws c = some d) :
    c.SameBut i d := by
  unfold configField at h
  extract_lets w at h
  split at h
  case h_14 | h_15 =>
    split at h
    · cases h
    · obtain ⟨v, -, rfl⟩ := Option.map_eq_some_iff.mp h
      constructor <;> simp
  case h_18 => cases h
  all_goals
    obtain ⟨v, -, rfl⟩ := Option.map_eq_some_iff.mp h
    constructor <;> simp

/-- Whether a value is in range does not depend on the configuration that takes it. -/
theorem configField_isSome (i : Nat) (ws : List Word) (c d : AdaptConfig) :
    (configField i ws c).isSome = (configField i ws d).isSome := by
  unfold configField
  extract_lets w
  split
  case h_14 | h_15 =>
    split
    · rfl
    · rw [Option.isSome_map, Option.isSome_map]
  case h_18 => rfl
  all_goals rw [Option.isSome_map, Option.isSome_map]

theorem configOf_isSome (pl : List Word) (c d : AdaptConfig) : (configOf pl c).isSome = (configOf pl d).isSome :=
  applyFields_isSome configField_isSome c d

theorem fom?_map {β : Type} {w : Word} {g : Int → β} :
    (fom? w).map g = if -510 ≤ w.toInt ∧ w.toInt ≤ 510 then some (g w.toInt) else none := by
  unfold fom?
  split <;> rfl

theorem flag?_map {β : Type} {w : Word} {g : Bool → β} :
    (flag? w).map g = if w = 0 then some (g false) else if w = 1 then some (g true) else none := by
  unfold flag?
  repeat' split
  · rfl
  · rfl
  · rfl

theorem fomSelection?_map {β : Type} {w : Word} {g : FomSelection → β} : (fomSelection? w).map g
    = if w = 0 then some (g .residual) else if w = 1 then some (g .headroom) else if w = 2 then some (g .both)
      else if w = 3 then some (g .weighted) else none := by
  repeat' split
  · next h => subst h; rfl
  · next h => subst h; rfl
  · next h => subst h; rfl
  · next h => subst h; rfl
  · next h0 h1 h2 h3 =>
    unfold fomSelection?
    split
    · next e => exact absurd (BitVec.eq_of_toNat_eq e) h0
    · next e => exact absurd (BitVec.eq_of_toNat_eq e) h1
    · next e => exact absurd (BitVec.eq_of_toNat_eq e) h2
    · next e => exact absurd (BitVec.eq_of_toNat_eq e) h3
    · rfl

theorem probeLength?_map {β : Type} {w : Word} {g : ProbeLength → β} : (probeLength? w).map g
    = if w = 32 then some (g .w32) else if w = 64 then some (g .w64) else if w = 128 then some (g .w128) else none := by
  repeat' split
  · next h => subst h; rfl
  · next h => subst h; rfl
  · next h => subst h; rfl
  · next h0 h1 h2 =>
    unfold probeLength?
    split
    · next e => exact absurd (BitVec.eq_of_toNat_eq e) h0
    · next e => exact absurd (BitVec.eq_of_toNat_eq e) h1
    · next e => exact absurd (BitVec.eq_of_toNat_eq e) h2
    · rfl

theorem target?_window {nm : WindowName} {ref off : Word} (h : windowName? ref = some nm) :
    target? 0 ref off = if h : off.toNat < 32768 then some (.window nm ⟨off.toNat, h⟩) else none := by
  rw [target?, if_pos rfl, h, fin?]
  by_cases ho : off.toNat < 32768
  · rw [dif_pos ho, dif_pos ho]
  · rw [dif_neg ho, dif_neg ho]

theorem target?_no_window {ref off : Word} (h : windowName? ref = none) : target? 0 ref off = none := by
  rw [target?, if_pos rfl, h]

theorem target?_none {kind ref off : Word} (h : 1 < kind.toNat) : target? kind ref off = none := by
  have h0 : kind ≠ 0 := fun e => by subst e; exact absurd h (by decide)
  have h1 : kind ≠ 1 := fun e => by subst e; exact absurd h (by decide)
  rw [target?, if_neg h0, if_neg h1]

section
variable {a b lo hi : Word} {c : AdaptConfig}

/-- A field of R38's table that is listed alone takes the value words after the select. -/
theorem configOf_one {i : Nat} {vs : List Word} (h : selected 17 (word32 lo hi).toNat = [i]) :
    configOf ([a, b, lo, hi] ++ vs) c = configField i (vs.take (configFieldSize i vs)) c := applyFields_cut_one h c

theorem configOf_polarities {ws : List Word} (hw : ws.length = 5) :
    configOf ([a, b, 0x0100, 0] ++ ws) c = (flags5? ws).map fun v => { c with startPolarities := v } := by
  rw [configOf_one (i := 8) (by decide), show ws.take (configFieldSize 8 ws) = ws from List.take_of_length_le hw.le]
  rfl

end

/-! ### The profiles of the mask (R39, R107) -/

theorem getLsbD_foldl_insertBit (c : ProfileId → Bool) (l : List ProfileId) (n : ProfileId) : ∀ m : Block,
    (l.foldl (fun m n => if c n then insertBit m n.val else m) m).getLsbD n.val = (m.getLsbD n.val || (l.contains n && c n)) := by
  induction l with
  | nil => simp
  | cons k l ih =>
    intro m
    have hk : (if c k then insertBit m k.val else m).getLsbD n.val = (m.getLsbD n.val || (n == k && c k)) := by
      cases hc : c k with
      | false => simp
      | true =>
        rw [if_pos rfl, getLsbD_insertBit, Bool.and_true]
        exact congrArg _ (decide_eq_decide.mpr eq_comm)
    rw [List.foldl_cons, ih, hk, List.contains_cons, Bool.or_assoc, Bool.and_or_distrib_right]
    by_cases h : n = k
    · subst h; rfl
    · rw [beq_eq_false_iff_ne.mpr h, Bool.false_and, Bool.false_and]

/-- The mask applied holds just what SET FIELDS may change. -/
theorem getLsbD_appliedMask (mask : Block) (p : Port) (fields : List Nat) (s : State) (n : ProfileId) :
    (appliedMask mask p fields s).getLsbD n.val = (mask.getLsbD n.val && (s.profile n).takesFields p fields) := by
  refine (getLsbD_foldl_insertBit (fun n => mask.getLsbD n.val && (s.profile n).takesFields p fields) allProfiles n 0).trans ?_
  rw [List.contains_iff_mem.mpr (mem_allProfiles n)]
  simp

/-- The profiles of a list that c picks take f; nothing else changes. -/
theorem foldl_modProfile (c : ProfileId → Bool) (f : Profile → Profile) {l : List ProfileId} (hl : l.Nodup) : ∀ s : State,
    (∀ n, (l.foldl (fun s n => if c n then s.modProfile n f else s) s).profile n
      = if n ∈ l ∧ c n = true then f (s.profile n) else s.profile n)
    ∧ ∃ ps, l.foldl (fun s n => if c n then s.modProfile n f else s) s = { s with profiles := ps } := by
  induction l with
  | nil => exact fun s => ⟨fun n => (if_neg fun h => nomatch h.1).symm, s.profiles, rfl⟩
  | cons k l ih =>
    intro s
    obtain ⟨hk, hl⟩ := List.nodup_cons.mp hl
    rw [List.foldl_cons]
    obtain ⟨hp, ps, e⟩ := ih hl (if c k then s.modProfile k f else s)
    refine ⟨fun n => (hp n).trans ?_, ps, e.trans ?_⟩
    · by_cases h : n = k
      · subst h
        rw [if_neg fun h => hk h.1]
        cases hc : c n <;> simp
      · have hs : (if c k then s.modProfile k f else s).profile n = s.profile n := by
          split
          · exact State.profile_modProfile_ne _ _ _ _ h
          · rfl
        rw [hs]
        exact if_congr (and_congr_left' (by rw [List.mem_cons, or_iff_right h])) rfl rfl
    · split <;> rfl

/-- What SET FIELDS makes of one record it changes. -/
def Profile.takeFields (pl : List Word) (r : Profile) : Profile := r.withConfig ((configOf pl r.config).getD r.config)

theorem setFields_of_range {p : Port} {pl : List Word} {s : State} (h : configOf pl .default = none) :
    setFields p pl s = (s, .badValue, []) := by
  rw [setFields, h]
  rfl

theorem setFields_of_fits {p : Port} {pl : List Word} {s : State} (h : configOf pl .default ≠ none) :
    setFields p pl s =
      let mask := word32 (arg pl 0) (arg pl 1)
      let applied := appliedMask mask p (fieldsOf pl) s
      (allProfiles.foldl (fun s n => if applied.getLsbD n.val then s.modProfile n (Profile.takeFields pl) else s) s,
        .ok, words32 applied ++ words32 (mask &&& ~~~applied)) := by
  obtain ⟨c, hc⟩ := Option.ne_none_iff_exists'.mp h
  rw [setFields, hc]
  rfl

theorem Profile.takesFields_iff {r : Profile} {p : Port} {fields : List Nat} : r.takesFields p fields = true
    ↔ r.state = .bound ∧ r.leader = some p ∧ (r.adapt = .idle ∨ r.adapt = .tracking ∧ ∀ i ∈ fields, 12 ≤ i) := by
  simp [Profile.takesFields, isTrackingField, and_assoc]

theorem Profile.takeFields_eq {pl : List Word} {r : Profile} {c : AdaptConfig} (h : configOf pl r.config = some c) :
    r.takeFields pl = { r with
      config := c
      adapt := if r.adapt = .tracking ∧ r.search.phase ≠ .round ∧ c.continuous = false then .idle else r.adapt } := by
  rw [Profile.takeFields, h]
  simp [Profile.withConfig, and_assoc]

/-- What the two masks of the reply make up. -/
theorem masks_of_applied {applied mask : Block} (h : ∀ n : ProfileId, applied.getLsbD n.val = true → mask.getLsbD n.val = true) :
    applied ||| (mask &&& ~~~applied) = mask ∧ applied &&& (mask &&& ~~~applied) = 0 := by
  refine ⟨BitVec.eq_of_getLsbD_eq fun i hi => ?_, BitVec.eq_of_getLsbD_eq fun i hi => ?_⟩
  all_goals
    have hn := h ⟨i, hi⟩
    cases ha : applied.getLsbD i <;> simp_all

/-- Settles O28: each field of R38's table by its code, then the profiles of the mask one by one. -/
theorem setFieldsOnLedProfiles : Obligations.SetFieldsOnLedProfiles := by
  unfold Obligations.SetFieldsOnLedProfiles
  refine ⟨fun a b lo hi vs c d e => ?kept, fun a b w c => ?words, fun a b c => ⟨fun v => ?_, fun ws hw hout => ?_, ?target⟩,
    fun s f pl h hf => ?command⟩
  case kept =>
    intro kept
    have one {β : Type} {g : AdaptConfig → β} {j : Nat} (hg : ∀ i x y, AdaptConfig.SameBut i x y → i ≠ j → g y = g x)
        (hj : kept j) : g d = g c :=
      applyFields_cut_kept hj (fun i ws x y hxy => hg i x y (configField_sameBut hxy)) e
    exact ⟨one fun _ _ _ h => h.mode, one fun _ _ _ h => h.shapingFom, one fun _ _ _ h => h.trimFom,
      one fun _ _ _ h => h.fomA, one fun _ _ _ h => h.fomB, one fun _ _ _ h => h.fomC,
      one fun _ _ _ h => h.shapingMinimum, one fun _ _ _ h => h.acceptance, one fun _ _ _ h => h.startPolarities,
      one fun _ _ _ h => h.trimCeiling, one fun _ _ _ h => h.probeLength, one fun _ _ _ h => h.target,
      one fun _ _ _ h => h.continuous, one fun _ _ _ h => h.trackInterval, one fun _ _ _ h => h.lookAhead,
      one fun _ _ _ h => h.allowableChange, one fun _ _ _ h => h.hysteresis⟩
  case words =>
    intro one bounded selects merit
    refine ⟨?_, ?_, ?_, ?_, ?_, ?_, ?_, ?_, ?_, ?_, ?_, fun hw => ⟨?_, ?_⟩, fun hw => ⟨?_, ?_⟩, ?_, ?_⟩
    · exact (configOf_one (i := 0) (vs := [w]) (by decide)).trans map_fin?
    · exact (configOf_one (i := 1) (vs := [w]) (by decide)).trans fomSelection?_map
    · exact (configOf_one (i := 2) (vs := [w]) (by decide)).trans fomSelection?_map
    · exact (configOf_one (i := 3) (vs := [w]) (by decide)).trans map_fin?
    · exact (configOf_one (i := 4) (vs := [w]) (by decide)).trans map_fin?
    · exact (configOf_one (i := 5) (vs := [w]) (by decide)).trans map_fin?
    · exact (configOf_one (i := 6) (vs := [w]) (by decide)).trans fom?_map
    · exact (configOf_one (i := 7) (vs := [w]) (by decide)).trans fom?_map
    · exact (configOf_one (i := 9) (vs := [w]) (by decide)).trans map_fin?
    · exact (configOf_one (i := 10) (vs := [w]) (by decide)).trans probeLength?_map
    · exact (configOf_one (i := 12) (vs := [w]) (by decide)).trans flag?_map
    · exact (configOf_one (i := 13) (vs := [w]) (by decide)).trans ((if_neg hw).trans map_fin?)
    · exact (configOf_one (i := 14) (vs := [w]) (by decide)).trans ((if_neg hw).trans map_fin?)
    · exact (configOf_one (i := 13) (vs := [w]) (by decide)).trans (if_pos hw)
    · exact (configOf_one (i := 14) (vs := [w]) (by decide)).trans (if_pos hw)
    · exact (configOf_one (i := 15) (vs := [w]) (by decide)).trans map_fin?
    · exact (configOf_one (i := 16) (vs := [w]) (by decide)).trans map_fin?
  · rw [configOf_polarities (by simp), flags5?_of]
    rfl
  · rw [configOf_polarities hw, flags5?_none hout]
    rfl
  case target =>
    intro kind ref off target
    have ht : target = (target? kind ref off).map fun v => { c with target := v } :=
      configOf_one (i := 11) (vs := [kind, ref, off]) (by decide)
    rw [ht]
    refine ⟨?_, ?_, ?_, fun hk => ?_⟩
    · rintro nm rfl hnm
      rw [target?_window hnm]
      split <;> rfl
    · rintro rfl hnm
      rw [target?_no_window hnm]
      rfl
    · rintro rfl
      show ((fin? 256 off).map Target.generator).map _ = _
      rw [Option.map_map]
      exact map_fin?
    · rw [target?_none hk]
      rfl
  case command =>
    intro mask takes
    refine ⟨fun hc => finish_command h rfl hf (setFields_of_range hc), fun hc => ?_⟩
    have hp (n : ProfileId) : (receive f s).profile n = s.profile n := receive_profile f s n
    have run := setFields_of_fits (p := f.port) (s := receive f s) hc
    extract_lets applied at run
    have bit (n : ProfileId) : applied.getLsbD n.val = true ↔ takes n := by
      rw [getLsbD_appliedMask, hp, Bool.and_eq_true, Profile.takesFields_iff]
    obtain ⟨hor, hand⟩ := masks_of_applied (applied := applied) (mask := mask) fun n hn => ((bit n).mp hn).1
    obtain ⟨records, ps, only⟩ := foldl_modProfile (fun n => applied.getLsbD n.val) (Profile.takeFields pl) nodup_allProfiles
      (receive f s)
    refine ⟨_, applied, mask &&& ~~~applied, finish_command h rfl hf run, ?_, hor, hand, fun n hn => ?_, fun n hn => ?_,
      ?_, ?_, ?_⟩
    · rw [State.port_reply, if_pos rfl, only]
      rfl
    · have ha := (bit n).mpr hn
      obtain ⟨c, hcfg⟩ := Option.isSome_iff_exists.mp
        ((configOf_isSome pl (s.profile n).config .default).trans (Option.isSome_iff_ne_none.mpr hc))
      refine ⟨ha, c, hcfg, (records n).trans ?_⟩
      rw [if_pos ⟨mem_allProfiles n, ha⟩, hp, Profile.takeFields_eq hcfg]
    · have ha : ¬ applied.getLsbD n.val = true := fun ha => hn ((bit n).mp ha)
      refine ⟨Bool.not_eq_true _ |>.mp ha, (records n).trans ?_⟩
      rw [if_neg fun h => ha h.2, hp]
    · exact (congrArg State.slots only).trans (receive_slots f s)
    · exact (congrArg State.engine only).trans (receive_engine f s)
    · exact (congrArg State.mem only).trans (receive_mem f s)

end Sys2Proof.Machine

/-! SUPPORT. DELETE and the end of retirement (O23). -/

namespace Sys2Proof.Machine

/-! ### A probe withdrawn (R71) -/

/-- The engine without the probes of profile n; the step of a running one drains. -/
def Engine.withdrawn (n : ProfileId) (e : Engine) : Engine :=
  { e.dropRunningProbe n with probes := (e.dropRunningProbe n).probes.filter fun x => x.profile != n }

theorem Engine.dropRunningProbe_of_not_running {e : Engine} {n : ProfileId}
    (h : ∀ x ∈ e.probes, x.profile = n → x.condition ≠ .running) : e.dropRunningProbe n = e := by
  unfold Engine.dropRunningProbe
  split
  · next x hx =>
    obtain ⟨hm, hn⟩ := Engine.mem_probesOf.mp (List.mem_of_mem_head? ((Engine.probeOf_eq_head? e n).symm.trans hx))
    exact if_neg (h x hm hn)
  · rfl

theorem Engine.withdrawn_of_nil {e : Engine} {n : ProfileId} (h : e.probesOf n = []) : e.withdrawn n = e := by
  have hn := Engine.probesOf_eq_nil.mp h
  have hfilter : (e.probes.filter fun x => x.profile != n) = e.probes :=
    List.filter_eq_self.mpr fun x hx => bne_iff_ne.mpr (hn x hx)
  rw [Engine.withdrawn, Engine.dropRunningProbe_of_not_running fun x hx he => absurd he (hn x hx), hfilter]

theorem Engine.withdrawn_routes (n : ProfileId) (e : Engine) : (e.withdrawn n).routes = e.routes := by
  rw [Engine.withdrawn, Engine.dropRunningProbe_eq]

theorem Engine.mem_withdrawn {n : ProfileId} {e : Engine} {x : ProbeEntry} :
    x ∈ (e.withdrawn n).probes ↔ x ∈ e.probes ∧ x.profile ≠ n := by
  rw [Engine.withdrawn, List.mem_filter, bne_iff_ne, Engine.probes_dropRunningProbe]

/-- A withdrawal from a BOUND profile, whether it has a probe or not. -/
theorem withdrawProbe_eq {s : State} {n : ProfileId} (hb : (s.profile n).state = .bound) (hc : s.ProbeCounted n) :
    withdrawProbe n s = { s with engine := s.engine.withdrawn n }.modProfile n fun p => { p with probeRef := false } := by
  unfold withdrawProbe
  split
  · next hx =>
    have hnil : s.engine.probesOf n = [] := by rwa [Engine.probeOf_eq_head?, List.head?_eq_none_iff] at hx
    have hf : { s.profile n with probeRef := false } = s.profile n := by rw [← hc.probeRef_of_nil hnil]
    rw [Engine.withdrawn_of_nil hnil, State.modProfile, hf]
    exact (congrArg (fun ps => { s with profiles := ps }) (vset_get_self s.profiles n)).symm
  · dsimp only
    rw [freeTest_of_bound (by rw [State.profile_modProfile_same]; exact hb)]
    rfl

/-! ### The end of retirement (R21) -/

theorem freeTest_engine (n : ProfileId) (s : State) : (freeTest n s).engine = s.engine := by
  unfold freeTest
  split
  · exact (onlyNotices_notifyOpt s _ _).engine
  · rfl

theorem freeTest_adds (n : ProfileId) (s : State) : s.Adds (· = .profileGone n) (freeTest n s) := by
  unfold freeTest
  split
  · exact (State.Adds.notifyOpt (K := (· = .profileGone n)) s (s.profile n).deletingPort rfl).trans (.of_ports rfl)
  · exact .refl s

theorem Profile.retired_iff {p : Profile} (hs : p.state = .retiring) (hf : p.probeRef = false) :
    p.retired = true ↔ p.refs0 + p.refs1 = 0 := by
  simp [Profile.retired, hs, hf]

/-! ### DELETE (R20) -/

/-- The record once its adaptation has ended for DELETE (R111). -/
def Profile.endForDelete (p : Profile) : Profile :=
  if p.adapt = .idle then p
  else { p with
    probeRef := false, lastOutcome := .aborted, adapt := .idle, search := { p.search with phase := .none, window := none } }

theorem Profile.endForDelete_idle {p : Profile} (h : p.adapt = .idle) : p.endForDelete = p := if_pos h

theorem Profile.endForDelete_adapting {p : Profile} (h : p.adapt ≠ .idle) : p.endForDelete = { p with
    probeRef := false, lastOutcome := .aborted, adapt := .idle
    search := { p.search with phase := .none, window := none } } := if_neg h

/-- Ending its adaptation leaves a record without a probe. -/
theorem Profile.probeRef_endForDelete {p : Profile} (h : p.adapt = .idle → p.probeRef = false) :
    p.endForDelete.probeRef = false := by
  unfold Profile.endForDelete
  split
  · next ha => exact h ha
  · rfl

/-- Ending its adaptation writes the fields of the adaptation alone. -/
theorem Profile.endForDelete_adaptOnly (p : Profile) : AdaptOnly p p.endForDelete := by
  unfold Profile.endForDelete
  split
  · exact .refl _
  · rfl

theorem Profile.adapt_endForDelete (p : Profile) : p.endForDelete.adapt = .idle := by
  unfold Profile.endForDelete
  split
  · next ha => exact ha
  · rfl

/-- The record that DELETE leaves while a route pass reads a bank of it. -/
theorem Profile.retire_endForDelete {p : Profile} {l : Port} (hl : p.leader = some l)
    (hidle : p.adapt = .idle → p.probeRef = false) :
    let q := p.endForDelete.retire
    q.state = .retiring ∧ q.leader = none ∧ q.followers = 0 ∧ q.deletingPort = some l ∧ q.stage = .none ∧ q.flipEvent = none
      ∧ q.adapt = .idle ∧ q.live = p.live ∧ q.generation = p.generation ∧ q.candidate = p.candidate ∧ q.probeRef = false
      ∧ (p.adapt = .idle → q.SameAdaptation p)
      ∧ (p.adapt ≠ .idle → q.lastOutcome = .aborted ∧ q.search = { p.search with phase := .none, window := none }) := by
  intro q
  have e := p.endForDelete_adaptOnly
  have hlive : p.endForDelete.live = p.live := by rw [e]
  have hgen : p.endForDelete.generation = p.generation := by rw [e]
  have hlead : p.endForDelete.leader = p.leader := by rw [e]
  refine ⟨rfl, rfl, rfl, hlead.trans hl, rfl, rfl, p.adapt_endForDelete, hlive, hgen, ?_,
    Profile.probeRef_endForDelete hidle, fun ha => ?_, fun ha => ?_⟩
  · show p.endForDelete.candidate = _
    unfold Profile.endForDelete
    split <;> rfl
  · simp only [q, Profile.endForDelete_idle ha]
    exact ⟨rfl, rfl, rfl, rfl, rfl, rfl, rfl⟩
  · simp only [q, Profile.endForDelete_adapting ha]
    exact ⟨rfl, rfl⟩

/-- The record of a DELETE is freed at once just when no route pass reads a bank of it. -/
theorem Profile.retired_endForDelete {p : Profile} (hidle : p.adapt = .idle → p.probeRef = false) :
    p.endForDelete.retire.retired = true ↔ p.refs0 + p.refs1 = 0 := by
  have e := p.endForDelete_adaptOnly
  have h0 : p.endForDelete.refs0 = p.refs0 := by rw [e]
  have h1 : p.endForDelete.refs1 = p.refs1 := by rw [e]
  refine (Profile.retired_iff (p := p.endForDelete.retire) rfl (Profile.probeRef_endForDelete hidle)).trans ?_
  rw [show p.endForDelete.retire.refs0 = p.refs0 from h0, show p.endForDelete.retire.refs1 = p.refs1 from h1]

section
variable {s : State} {n : ProfileId} (hb : (s.profile n).state = .bound) (hc : s.ProbeCounted n)
  (hidle : (s.profile n).adapt = .idle → (s.profile n).probeRef = false)
include hb hc hidle

theorem endForDelete_eq : endForDelete n s
    = { s with engine := s.engine.withdrawn n }.modProfile n Profile.endForDelete := by
  unfold endForDelete
  split
  · next h =>
    rw [Engine.withdrawn_of_nil (hc.none (hidle h)), State.modProfile, show State.profile _ n = s.profile n from rfl,
      Profile.endForDelete_idle h]
    exact (congrArg (fun ps => { s with profiles := ps }) (vset_get_self s.profiles n)).symm
  · next h =>
    rw [withdrawProbe_eq hb hc, State.modProfile_modProfile]
    exact State.modProfile_congr (Profile.endForDelete_adapting h).symm

theorem deleteProfile_profile : (deleteProfile n s).profile n = if (s.profile n).endForDelete.retire.retired then .cleared
    else (s.profile n).endForDelete.retire := by
  rw [deleteProfile, freeTest_profile, State.profile_modProfile_same, (onlyNotices_notifySet _ _ _).profile,
    endForDelete_eq hb hc hidle, State.profile_modProfile_same]
  rfl

theorem deleteProfile_engine : (deleteProfile n s).engine = s.engine.withdrawn n := by
  rw [deleteProfile, freeTest_engine, State.engine_modProfile, (onlyNotices_notifySet _ _ _).engine,
    endForDelete_eq hb hc hidle]
  rfl

theorem deleteProfile_adds : s.Adds (· = .profileGone n) (deleteProfile n s) := by
  have hends : s.Adds (· = .profileGone n) (endForDelete n s) := .of_ports (by rw [endForDelete_eq hb hc hidle]; rfl)
  have hset := State.Adds.notifySet (K := (· = .profileGone n)) (endForDelete n s) ((endForDelete n s).profile n).followers rfl
  exact ((hends.trans hset).trans (.of_ports rfl)).trans (freeTest_adds n _)

/-- The followers are told that the profile is gone (R20, step 4). -/
theorem deleteProfile_told {p : Port} (hp : (s.profile n).followers.getLsbD p.val = true) :
    ((deleteProfile n s).port p).notices.profileGone.getLsbD n.val = true := by
  have hf : ((endForDelete n s).profile n).followers = (s.profile n).followers := by
    rw [endForDelete_eq hb hc hidle, State.profile_modProfile_same]
    show (s.profile n).endForDelete.followers = _
    unfold Profile.endForDelete
    split <;> rfl
  refine (freeTest_adds n _).kept (Notices.setBy_profileGone n) ?_
  rw [State.port_modProfile, State.port_notifySet, hf, if_pos hp]
  exact PortState.noticed_bit (Notices.setBy_profileGone n) _

/-- The leader is told when nothing reads the profile any more (R21). -/
theorem deleteProfile_told_leader {p : Port} (hl : (s.profile n).leader = some p)
    (hr : (s.profile n).endForDelete.retire.retired = true) :
    ((deleteProfile n s).port p).notices.profileGone.getLsbD n.val = true := by
  have hq : (((endForDelete n s).notifySet ((endForDelete n s).profile n).followers (.profileGone n)).modProfile n
      Profile.retire).profile n = (s.profile n).endForDelete.retire := by
    rw [State.profile_modProfile_same, (onlyNotices_notifySet _ _ _).profile, endForDelete_eq hb hc hidle,
      State.profile_modProfile_same]
    rfl
  refine freeTest_told (by rw [hq]; exact hr) ?_
  rw [hq]
  show (s.profile n).endForDelete.leader = _
  unfold Profile.endForDelete
  split <;> exact hl

end

theorem profileOnly_deleteProfile (n : ProfileId) (s : State) : ProfileOnly n s (deleteProfile n s) :=
  (((profileOnly_endForDelete n s).trans ((onlyNotices_notifySet _ _ _).profileOnly n)).trans
    (profileOnly_modProfile n _ _)).trans (profileOnly_freeTest n _)

theorem delete_of_leader {s : State} {p : Port} {n : ProfileId} {q : Profile} (hq : s.profile n = q) (hb : q.state = .bound)
    (hl : q.leader = some p) : delete p [finWord n] s
      = if s.profileInUse n then (s, .inUse, []) else (deleteProfile n s, .accepted, []) := by
  rw [delete, leaderCommand_of_leader rfl hq hb hl]
  rfl

theorem State.port_reply_notices (s : State) (p q : Port) (code tag : Byte) (a : Answer) :
    ((s.reply p code tag a).port q).notices = (s.port q).notices := by
  rw [State.port_reply]
  split
  · next e => rw [e]
  · rfl

theorem receive_port_notices (f : Frame) (s : State) (q : Port) : ((receive f s).port q).notices = (s.port q).notices := by
  by_cases h : q = f.port
  · rw [h, receive_port]
  · rw [receive_port_ne f s h]

/-- A set of profiles in a notice set that no addition writes is as it was. -/
theorem State.Adds.profiles_eq {K : Notice → Prop} {s t : State} (a : s.Adds K t) {g : Notices → BitVec 32}
    {j : ProfileId → Notice} (hg : ∀ n, Notices.SetBy (fun ns => (g ns).getLsbD n.val) (j n)) (hK : ∀ n, ¬ K (j n)) (p : Port) :
    g (t.port p).notices = g (s.port p).notices :=
  BitVec.eq_of_getLsbD_eq fun i hi => a.bit_eq (hg ⟨i, hi⟩) (hK ⟨i, hi⟩) p

/-- Settles O23, by the equations of a withdrawal and of the test of R21 for a BOUND profile. -/
theorem deleteRetiresProfile : Obligations.DeleteRetiresProfile := by
  unfold Obligations.DeleteRetiresProfile
  refine ⟨fun s f n h hb hl hu => ?inUse, fun s f n h hb hl hu hcount hidle => ?taken, fun s n p hs h0 h1 hf hd => ?freed⟩
  case inUse =>
    have hu' : (receive f s).profileInUse n = true := by rw [State.profileInUse, receive_slots]; exact hu
    exact finish_command h rfl rfl ((delete_of_leader (receive_profile f s n) hb hl).trans (if_pos hu'))
  case taken =>
    have hu' : ¬ (receive f s).profileInUse n = true := by rw [State.profileInUse, receive_slots]; exact ne_true_of_eq_false hu
    have run := (delete_of_leader (receive_profile f s n) hb hl).trans (if_neg hu')
    have hq : (receive f s).profile n = s.profile n := receive_profile f s n
    have hb' : ((receive f s).profile n).state = .bound := by rw [hq]; exact hb
    have hc : (receive f s).ProbeCounted n := (hcount.probeCounted n).of_eq (by rw [receive_engine]) hq
    have hidle' : ((receive f s).profile n).adapt = .idle → ((receive f s).profile n).probeRef = false := by
      rw [hq]; exact hidle
    have profile := deleteProfile_profile hb' hc hidle'
    have engine := deleteProfile_engine hb' hc hidle'
    have adds := deleteProfile_adds hb' hc hidle'
    have only := profileOnly_deleteProfile n (receive f s)
    rw [hq] at profile
    rw [receive_engine] at engine
    have retired := Profile.retired_endForDelete hidle
    have mac : (deleteProfile n (receive f s)).engine.mac = (s.engine.dropRunningProbe n).mac := by rw [engine]; rfl
    refine ⟨_, finish_command h rfl rfl run, ?replies, fun p hp => ?followers, fun h0 => ⟨?cleared, ?leader⟩, fun hpos => ?retiring,
      fun x => ?probes, fun x hx hn hrun => ?drains, fun hno => ?mac, fun q => ?notices, fun q hne => ?ports,
      fun m hm => (only.other m hm).trans (receive_profile f s m), only.slots.trans (receive_slots f s), ?routes,
      ?lane, ?mem, ?gen⟩
    case replies =>
      rw [State.port_reply, if_pos rfl, adds.port]
    case followers =>
      rw [State.port_reply_notices]
      exact deleteProfile_told hb' hc hidle' (by rw [hq]; exact hp)
    case cleared => exact profile.trans (if_pos (retired.mpr h0))
    case leader =>
      rw [State.port_reply_notices]
      exact deleteProfile_told_leader hb' hc hidle' (by rw [hq]; exact hl) (by rw [hq]; exact retired.mpr h0)
    case retiring =>
      have e := profile.trans (if_neg fun hr => Nat.ne_of_gt hpos (retired.mp hr))
      rw [State.reply, State.profile_modPort, e]
      exact Profile.retire_endForDelete hl hidle
    case probes => rw [State.reply, State.engine_modPort, engine]; exact Engine.mem_withdrawn
    case drains => exact mac.trans (Engine.dropRunningProbe_mac ((hcount.probeCounted n).only hx hn).2.1 hrun)
    case mac => exact mac.trans (congrArg Engine.mac (Engine.dropRunningProbe_of_not_running hno))
    case notices =>
      rw [State.port_reply_notices, ← receive_port_notices f s q]
      exact ⟨adds.profiles_eq Notices.setBy_adaptDone (fun _ e => nomatch e) q,
        adds.profiles_eq Notices.setBy_committed (fun _ e => nomatch e) q⟩
    case ports =>
      rw [State.port_reply, if_neg hne, adds.port, receive_port_ne f s hne]
    case routes => exact (congrArg Engine.routes engine).trans (Engine.withdrawn_routes n s.engine)
    case lane => exact (congrArg State.lane only.state).trans (receive_lane f s)
    case mem => exact (congrArg State.mem only.state).trans (receive_mem f s)
    case gen => exact (congrArg State.gen only.state).trans (receive_gen f s)
  case freed =>
    have hr : (s.profile n).retired = true := (Profile.retired_iff hs hf).mpr (by rw [h0, h1])
    show Host.Outcome.next (freeTest n s) = _
    rw [freeTest, if_pos hr, hd]
    rfl

end Sys2Proof.Machine

/-! SUPPORT. The completion of a route pass (O15). -/

namespace Sys2Proof.Machine

/-! ### The record of a profile whose route pass completes (R33, R36, R40) -/

section
variable (B k : Block) (b : BankId) (ys : List Sample) (sat wrapped : Bool) (p : Profile)

/-- The record after the ring entry, the flags and the dropped reference, before a copy that is then due (R33). -/
def Profile.completedRefs : Profile :=
  (p.completeBlock k (p.bank b).generation ys sat wrapped).setRefs b (p.refs b - 1)

/-- The record after the route pass of block k on bank b, before the test of R21 (R40). -/
def Profile.completed : Profile := (p.completedRefs k b ys sat wrapped).copyIfDue B

theorem Profile.completedRefs_eq : p.completedRefs k b ys sat wrapped = { p with
    refs0 := (p.completedRefs k b ys sat wrapped).refs0, refs1 := (p.completedRefs k b ys sat wrapped).refs1
    ring := (p.completedRefs k b ys sat wrapped).ring, trim := (p.completedRefs k b ys sat wrapped).trim
    trimBlock := (p.completedRefs k b ys sat wrapped).trimBlock
    dynamicSat := sat, staticSat := p.staticSat || sat, wrap := p.wrap || wrapped } := by
  rw [Profile.completedRefs, Profile.completeBlock_eq]
  cases b <;> rfl

/-- What a completion keeps and what it sets, whether its entry still awaits the block or not. -/
theorem Profile.completed_eq : p.completed B k b ys sat wrapped = { p with
    bank0 := (p.completed B k b ys sat wrapped).bank0, bank1 := (p.completed B k b ys sat wrapped).bank1
    stage := (p.completed B k b ys sat wrapped).stage, flipEvent := (p.completed B k b ys sat wrapped).flipEvent
    refs0 := (p.completed B k b ys sat wrapped).refs0, refs1 := (p.completed B k b ys sat wrapped).refs1
    ring := (p.completed B k b ys sat wrapped).ring, trim := (p.completed B k b ys sat wrapped).trim
    trimBlock := (p.completed B k b ys sat wrapped).trimBlock
    dynamicSat := sat, staticSat := p.staticSat || sat, wrap := p.wrap || wrapped } := by
  rw [Profile.completed, Profile.copyIfDue_eq, Profile.completedRefs_eq]

theorem Profile.refs_completeBlock (gen : Block) (c : BankId) :
    (p.completeBlock k gen ys sat wrapped).refs c = p.refs c := by
  rw [Profile.completeBlock_eq]
  cases c <;> rfl

theorem Profile.refs_completedRefs (c : BankId) :
    (p.completedRefs k b ys sat wrapped).refs c = if c = b then p.refs c - 1 else p.refs c := by
  rw [Profile.completedRefs, Profile.refs_setRefs, Profile.refs_completeBlock]
  split
  · next e => rw [e]
  · rfl

theorem Profile.refs_completed (c : BankId) :
    (p.completed B k b ys sat wrapped).refs c = if c = b then p.refs c - 1 else p.refs c := by
  rw [Profile.completed, (Profile.copyIfDue_routes B _).1, Profile.refs_completedRefs]

/-- The ring entry and the trim history are those of the completed block, when the entry awaits it (R36). -/
theorem Profile.completed_ring :
    (p.completed B k b ys sat wrapped).ring = (p.completeBlock k (p.bank b).generation ys sat wrapped).ring
    ∧ (p.completed B k b ys sat wrapped).trim = (p.completeBlock k (p.bank b).generation ys sat wrapped).trim
    ∧ (p.completed B k b ys sat wrapped).trimBlock = (p.completeBlock k (p.bank b).generation ys sat wrapped).trimBlock := by
  obtain ⟨-, hr, ht, htb, -⟩ := Profile.copyIfDue_routes B (p.completedRefs k b ys sat wrapped)
  rw [Profile.completed, hr, ht, htb]
  cases b <;> exact ⟨rfl, rfl, rfl⟩

variable {p k}

theorem Profile.awaits_iff : p.awaits k = true ↔ p.entryState k = .pending := beq_iff_eq

theorem Profile.completed_pending (h : p.entryState k = .pending) :
    (p.completed B k b ys sat wrapped).ring.get (ringIndex k) = ⟨some k, .valid, (p.bank b).generation, sat, ys⟩
    ∧ (p.completed B k b ys sat wrapped).trim = lastFive ys ∧ (p.completed B k b ys sat wrapped).trimBlock = some k := by
  obtain ⟨hr, ht, htb⟩ := p.completed_ring B k b ys sat wrapped
  rw [hr, ht, htb, Profile.completeBlock, if_pos (Profile.awaits_iff.mpr h)]
  exact ⟨vset_get_same _ _ _, rfl, rfl⟩

theorem Profile.completed_not_pending (h : p.entryState k ≠ .pending) :
    (p.completed B k b ys sat wrapped).ring = p.ring ∧ (p.completed B k b ys sat wrapped).trim = p.trim
    ∧ (p.completed B k b ys sat wrapped).trimBlock = p.trimBlock := by
  obtain ⟨hr, ht, htb⟩ := p.completed_ring B k b ys sat wrapped
  rw [hr, ht, htb, Profile.completeBlock, if_neg fun ha => h (Profile.awaits_iff.mp ha)]
  exact ⟨rfl, rfl, rfl⟩

/-- A completion does not touch a bank but by the copy of a waiting commit. -/
theorem Profile.bank_completedRefs (c : BankId) : (p.completedRefs k b ys sat wrapped).bank c = p.bank c := by
  rw [Profile.completedRefs_eq]
  cases c <;> rfl

theorem Profile.spare_completedRefs : (p.completedRefs k b ys sat wrapped).spare = p.spare := by
  rw [Profile.completedRefs_eq]
  rfl

/-- The copy that a completion lets a waiting commit make (R33). -/
theorem Profile.completed_copies (hs : p.stage = .waitingSpare)
    (hr : (if p.spare = b then p.refs p.spare - 1 else p.refs p.spare) = 0) :
    (p.completed B k b ys sat wrapped).stage = .waitingFlip
    ∧ (p.completed B k b ys sat wrapped).flipEvent = some (B + 1)
    ∧ (p.completed B k b ys sat wrapped).bank p.spare = ⟨p.candidate, p.generation + 1⟩ := by
  have hspare := Profile.spare_completedRefs (p := p) (k := k) b ys sat wrapped
  have hstage : (p.completedRefs k b ys sat wrapped).stage = p.stage := by rw [Profile.completedRefs_eq]
  have hcand : (p.completedRefs k b ys sat wrapped).candidate = p.candidate := by rw [Profile.completedRefs_eq]
  have hgen : (p.completedRefs k b ys sat wrapped).generation = p.generation := by rw [Profile.completedRefs_eq]
  have h := Profile.copyIfDue_due (B := B) (hstage.trans hs) (by rw [hspare, Profile.refs_completedRefs]; exact hr)
  rw [hspare, hcand, hgen] at h
  exact h

/-- Without a copy the commit and the banks stay. -/
theorem Profile.completed_no_copy
    (h : p.stage ≠ .waitingSpare ∨ (if p.spare = b then p.refs p.spare - 1 else p.refs p.spare) ≠ 0) :
    p.completed B k b ys sat wrapped = p.completedRefs k b ys sat wrapped := by
  have hstage : (p.completedRefs k b ys sat wrapped).stage = p.stage := by rw [Profile.completedRefs_eq]
  refine Profile.copyIfDue_of_not_due ?_
  rw [hstage, Profile.spare_completedRefs, Profile.refs_completedRefs]
  exact h.imp_right Nat.pos_of_ne_zero

/-- A copy writes the spare bank, never the live one. -/
theorem Profile.bank_live_copyIfDue : (p.copyIfDue B).bank p.live = p.bank p.live := by
  unfold Profile.copyIfDue Profile.spare
  split
  · cases p.live <;> rfl
  · rfl

theorem Profile.bank_live_completed : (p.completed B k b ys sat wrapped).bank p.live = p.bank p.live := by
  have hlive : (p.completedRefs k b ys sat wrapped).live = p.live := by rw [Profile.completedRefs_eq]
  have h := Profile.bank_live_copyIfDue (p := p.completedRefs k b ys sat wrapped) B
  rw [hlive, Profile.bank_completedRefs] at h
  exact h

end

/-- A completion frees the record just when it was RETIRING and nothing else reads it (R21). -/
theorem Profile.retired_completed {B k : Block} {b : BankId} {ys : List Sample} {sat wrapped : Bool} {p : Profile} :
    let left (c : BankId) : Nat := if c = b then p.refs c - 1 else p.refs c
    (p.completed B k b ys sat wrapped).retired = true
      ↔ p.state = .retiring ∧ left .bank0 = 0 ∧ left .bank1 = 0 ∧ p.probeRef = false := by
  intro left
  have h0 : (p.completed B k b ys sat wrapped).refs0 = left .bank0 := p.refs_completed B k b ys sat wrapped .bank0
  have h1 : (p.completed B k b ys sat wrapped).refs1 = left .bank1 := p.refs_completed B k b ys sat wrapped .bank1
  have hs : (p.completed B k b ys sat wrapped).state = p.state := by rw [Profile.completed_eq]
  have hf : (p.completed B k b ys sat wrapped).probeRef = p.probeRef := by rw [Profile.completed_eq]
  simp [Profile.retired, h0, h1, hs, hf, and_assoc]

/-! ### The completion (R40) -/

section
variable (n : ProfileId) (k : Block) (b : BankId) (ys : List Sample) (sat wrapped : Bool) (s : State)

/-- A completion is the new record and the test of R21. -/
theorem routeCompleted_eq : routeCompleted n k b ys sat wrapped s
    = freeTest n (s.modProfile n (Profile.completed s.lane.blockCounter k b ys sat wrapped)) := by
  unfold routeCompleted dropReference tryCopy
  dsimp only
  rw [State.modProfile_modProfile, State.modProfile_modProfile]
  refine congrArg (freeTest n) (State.modProfile_congr ?_)
  show Profile.copyIfDue _ (Profile.setRefs _ b ((Profile.completeBlock _ _ _ _ _ _).refs b - 1)) = _
  rw [Profile.refs_completeBlock]
  rfl

theorem freeTest_of_not_retired {n : ProfileId} {s : State} (h : ¬ (s.profile n).retired = true) : freeTest n s = s :=
  if_neg h

end

theorem runningRoute_of_split {s : State} {pre post : List RouteEntry} {e : RouteEntry} (h : s.engine.routes = pre ++ e :: post)
    (hpre : ∀ x ∈ pre, x.running = false) (he : e.running = true) :
    s.engine.runningRoute = some e ∧ s.engine.routes.eraseP RouteEntry.isRunning = pre ++ post := by
  have hn (x) (hx : x ∈ pre) : ¬ RouteEntry.isRunning x = true := ne_true_of_eq_false (hpre x hx)
  refine ⟨?_, ?_⟩
  · exact List.find?_eq_some_iff_append.mpr ⟨he, pre, post, h, fun x hx => by simpa using hn x hx⟩
  · rw [h, List.eraseP_append_right _ hn, List.eraseP_cons_of_pos (show RouteEntry.isRunning e = true from he)]

/-- Settles O15, by the record that a completion leaves before the test of R21. -/
theorem routePassCompletes : Obligations.RoutePassCompletes := by
  unfold Obligations.RoutePassCompletes
  intro s pre post e hmac hroutes hpre he hlast n p d left freed
  obtain ⟨hrun, herase⟩ := runningRoute_of_split hroutes hpre he
  let u : State := { s with engine := { s.engine with mac := .free, routes := pre ++ post } }
  let z : Profile := p.completed s.lane.blockCounter e.block e.bank d.outputs d.progress.saturated d.progress.wrapped
  have hexec : exec .routePassComplete s = .next (freeTest n (u.modProfile n fun _ => z)) := by
    show execRoutePassComplete s = _
    simp only [execRoutePassComplete, hmac, hrun, hlast, if_true, herase]
    exact congrArg Host.Outcome.next ((routeCompleted_eq _ _ _ _ _ _ _).trans (congrArg _ (State.modProfile_congr rfl)))
  have hz : (u.modProfile n fun _ => z).profile n = z := State.profile_modProfile_same _ _ _
  have hfreed : z.retired = true ↔ freed := Profile.retired_completed
  have only := (profileOnly_modProfile n u fun _ => z).trans (profileOnly_freeTest n _)
  have hlane := congrArg State.lane only.state
  have hmem := congrArg State.mem only.state
  refine ⟨_, hexec, freeTest_engine n _, only.other, hlane, only.slots, hmem, fun q => ?ports,
    fun h => ⟨?cleared, fun q hq => ?told⟩, fun h => ?kept⟩
  case ports => rw [only.port q]; rfl
  case cleared => rw [freeTest_profile, hz, if_pos (hfreed.mpr h)]
  case told =>
    have hd : z.deletingPort = p.deletingPort := by simp only [z]; rw [Profile.completed_eq]
    exact freeTest_told (by rw [hz]; exact hfreed.mpr h) (by rw [hz]; exact hd.trans hq)
  case kept =>
    rw [freeTest_of_not_retired (by rw [hz]; exact fun hr => h (hfreed.mp hr)), hz]
    have record : z = _ := Profile.completed_eq _ _ _ _ _ _ p
    refine ⟨rfl, by rw [record], Profile.refs_completed _ _ _ _ _ _ _, Profile.completed_pending _ _ _ _ _,
      Profile.completed_not_pending _ _ _ _ _, by rw [record], by rw [record], by rw [record], ?_, by rw [record],
      by rw [record], Profile.bank_live_completed _ _ _ _ _, Profile.completed_copies _ _ _ _ _, fun hno => ?_⟩
    · rw [record]
      exact ⟨rfl, rfl, rfl, rfl, rfl, rfl, rfl⟩
    · rw [show z = p.completedRefs e.block e.bank d.outputs d.progress.saturated d.progress.wrapped from
        Profile.completed_no_copy _ _ _ _ _ hno]
      refine ⟨by rw [Profile.completedRefs_eq], by rw [Profile.completedRefs_eq], Profile.bank_completedRefs _ _ _ _ _⟩

end Sys2Proof.Machine

/-! SUPPORT. The arithmetic of a filter pass, step by step (O14). -/

namespace Sys2Proof.Machine

/-! ### Narrowing (R28, R62) -/

theorem sat16_word (v : Int) : (sat16 v).1 = BitVec.ofInt 16 (max (-32768) (min 32767 v)) := by
  unfold sat16
  split
  · next h => rw [min_eq_left (by omega)]; rfl
  · split
    · next h => rw [min_eq_right (by omega), max_eq_left (by omega)]
    · rw [min_eq_right (by omega), max_eq_right (by omega)]

theorem sat16_bit (v : Int) : (sat16 v).2 = true ↔ v < -32768 ∨ 32767 < v := by
  unfold sat16
  split
  · next h => exact iff_of_true rfl (.inr h)
  · split
    · next h => exact iff_of_true rfl (.inl h)
    · next h h' => exact iff_of_false Bool.false_ne_true (by omega)

theorem fits48_iff (v : Int) : fits48 v = true ↔ -(2 ^ 47) ≤ v ∧ v < 2 ^ 47 := by simp [fits48]

theorem not_fits48_iff (v : Int) : (!fits48 v) = true ↔ v < -(2 ^ 47) ∨ 2 ^ 47 ≤ v := by
  rw [Bool.not_eq_true', ← Bool.not_eq_true, fits48_iff, not_and_or, not_le, not_lt]

theorem toInt_ofInt_of_fits48 {v : Int} (h : fits48 v = true) : (BitVec.ofInt 48 v).toInt = v := by
  obtain ⟨h1, h2⟩ := (fits48_iff v).mp h
  rw [BitVec.toInt_ofInt]
  exact Int.bmod_eq_of_le (by norm_num; omega) (by norm_num; omega)

/-- The accumulator keeps each exact sum modulo 2^48. -/
theorem ofInt_toInt_add (a d : Int) : BitVec.ofInt 48 ((BitVec.ofInt 48 a).toInt + d) = BitVec.ofInt 48 (a + d) := by
  rw [BitVec.ofInt_add, BitVec.ofInt_toInt, ← BitVec.ofInt_add]

/-- A sum of the accumulator that fits marks no wrap. -/
theorem no_wrap {a d : Int} (ha : fits48 a = true) (hs : fits48 (a + d) = true) :
    (!fits48 ((BitVec.ofInt 48 a).toInt + d)) = false := by
  rw [toInt_ofInt_of_fits48 ha, hs, Bool.not_true]

theorem accAdd_neg (a : Acc) (d : Int) : accAdd a (-d) = (BitVec.ofInt 48 (a.toInt - d), !fits48 (a.toInt - d)) := by
  rw [accAdd, accSet, Int.sub_eq_add_neg]

theorem trimRound_eq (a : Acc) : trimRound a = (BitVec.ofInt 48 (a.toInt + 512), !fits48 (a.toInt + 512)) := by
  rw [trimRound, accAdd, accSet]

/-! ### The steps of one sample (R28, R61) -/

section
variable {c : CoeffSet} {pr : FilterProgress}

theorem FilterProgress.inHistory_true (h : pr.history < c.tapCount.val - 1) : pr.inHistory c = true := decide_eq_true h

theorem FilterProgress.inHistory_false (h : c.tapCount.val - 1 ≤ pr.history) : pr.inHistory c = false :=
  decide_eq_false (Nat.not_lt.mpr h)

theorem FilterProgress.endStep_history (h : pr.history < c.tapCount.val - 1) : pr.endStep c
    = ({ pr with es := (emphasisTerm c.emphasis pr.x pr.xBefore).1 :: pr.es, history := pr.history + 1 }, none) := by
  rw [FilterProgress.endStep, FilterProgress.inHistory_true h]
  rfl

/-- The emphasis terms of the sample in hand, newest first. -/
def FilterProgress.terms (c : CoeffSet) (pr : FilterProgress) : List Sample :=
  ((emphasisTerm c.emphasis pr.x pr.xBefore).1 :: pr.es).take (mainSteps c)

variable (hh : c.tapCount.val - 1 ≤ pr.history)
include hh

theorem FilterProgress.endStep_emphasis (h : pr.sub = 0) : pr.endStep c = ({ pr with
    es := pr.terms c, acc := 0, sub := 1
    saturated := pr.saturated || (emphasisTerm c.emphasis pr.x pr.xBefore).2 }, none) := by
  simp only [FilterProgress.endStep, FilterProgress.inHistory_false hh, Bool.false_eq_true, if_false, if_pos h]
  rfl

theorem FilterProgress.endStep_main {i : Nat} (h : pr.sub = i + 1) (hi : i < mainSteps c) : pr.endStep c = ({ pr with
    acc := BitVec.ofInt 48 (pr.acc.toInt + mainProduct c pr.es i)
    wrapped := pr.wrapped || !fits48 (pr.acc.toInt + mainProduct c pr.es i), sub := pr.sub + 1 }, none) := by
  simp only [FilterProgress.endStep, FilterProgress.inHistory_false hh, Bool.false_eq_true, if_false]
  rw [if_neg (by omega), if_pos (by omega), h, Nat.add_sub_cancel]
  rfl

theorem FilterProgress.endStep_load (h : pr.sub = mainSteps c + 1) : pr.endStep c = ({ pr with
    acc := BitVec.ofInt 48 (mainOutput pr.acc * 1024)
    wrapped := pr.wrapped || !fits48 (mainOutput pr.acc * 1024), sub := pr.sub + 1 }, none) := by
  simp only [FilterProgress.endStep, FilterProgress.inHistory_false hh, Bool.false_eq_true, if_false]
  rw [if_neg (by omega), if_neg (by omega), if_pos h]
  rfl

theorem FilterProgress.endStep_trim {j : Nat} (h : pr.sub = mainSteps c + 2 + j) (hj : j < 4) : pr.endStep c = ({ pr with
    acc := BitVec.ofInt 48 (pr.acc.toInt - trimProduct c pr.ys j)
    wrapped := pr.wrapped || !fits48 (pr.acc.toInt - trimProduct c pr.ys j), sub := pr.sub + 1 }, none) := by
  simp only [FilterProgress.endStep, FilterProgress.inHistory_false hh, Bool.false_eq_true, if_false]
  rw [if_neg (by omega), if_neg (by omega), if_neg (by omega), if_pos (by rw [lastSub]; omega), h, Nat.add_sub_cancel_left]
  rfl

theorem FilterProgress.endStep_last (h : pr.sub = mainSteps c + 6) {v u : Int} {y : Sample × Bool}
    (hv : pr.acc.toInt - trimProduct c pr.ys 4 = v) (hu : (BitVec.ofInt 48 v).toInt + 512 = u)
    (hy : gainOutput c.gain (trimOutput (BitVec.ofInt 48 u)) = y) : pr.endStep c = ({ pr with
      acc := BitVec.ofInt 48 u, wrapped := pr.wrapped || !fits48 v || !fits48 u, saturated := pr.saturated || y.2
      ys := #v[y.1, pr.ys.get 0, pr.ys.get 1, pr.ys.get 2, pr.ys.get 3], sample := pr.sample + 1, sub := 0 }, some y.1) := by
  have h0 : ¬ pr.sub = 0 := by omega
  have hm : ¬ pr.sub ≤ mainSteps c := by omega
  have hl : ¬ pr.sub = mainSteps c + 1 := by omega
  have ht : ¬ pr.sub < lastSub c := by rw [lastSub]; omega
  have hj : pr.sub - (mainSteps c + 2) = 4 := by omega
  simp only [FilterProgress.endStep, FilterProgress.inHistory_false hh, Bool.false_eq_true, if_false, if_neg h0, if_neg hm,
    if_neg hl, if_neg ht, hj, accAdd_neg, trimRound_eq, hv, hu, hy]

end

/-! ### One sample (R28, R61) -/

/-- The exact sum of the first i products of the main filter. -/
def mainSum (c : CoeffSet) (es : List Sample) (i : Nat) : Int := ((List.range i).map (mainProduct c es)).sum

/-- The exact sum of the first j trim products. -/
def trimSum (c : CoeffSet) (ys : Vector Sample 5) (j : Nat) : Int := ((List.range j).map (trimProduct c ys)).sum

/-- What the trim load puts into the accumulator. -/
def mainLoad (c : CoeffSet) (es : List Sample) : Int := mainOutput (BitVec.ofInt 48 (mainSum c es (mainSteps c))) * 1024

theorem mainSum_succ (c : CoeffSet) (es : List Sample) (i : Nat) :
    mainSum c es (i + 1) = mainSum c es i + mainProduct c es i := by
  simp [mainSum, List.range_succ]

theorem trimSum_succ (c : CoeffSet) (ys : Vector Sample 5) (j : Nat) :
    trimSum c ys (j + 1) = trimSum c ys j + trimProduct c ys j := by
  simp [trimSum, List.range_succ]

/-- No exact sum of the sample in hand leaves the accumulator. -/
structure FilterProgress.Fits (c : CoeffSet) (pr : FilterProgress) : Prop where
  main  : ∀ i ≤ mainSteps c, fits48 (mainSum c (pr.terms c) i) = true
  trim  : ∀ j ≤ 5, fits48 (mainLoad c (pr.terms c) - trimSum c pr.ys j) = true
  round : fits48 (mainLoad c (pr.terms c) - trimSum c pr.ys 5 + 512) = true

/-- One step of the sample in hand. -/
def FilterProgress.stepped (c : CoeffSet) (pr : FilterProgress) : FilterProgress := (pr.endStep c).1

/-- The sample in hand after its emphasis step and some others: the accumulator, and whether it has wrapped. -/
def FilterProgress.during (c : CoeffSet) (pr : FilterProgress) (acc : Acc) (wrapped : Bool) (sub : Nat) : FilterProgress :=
  { pr with
    es := pr.terms c, acc := acc, wrapped := wrapped, sub := sub
    saturated := pr.saturated || (emphasisTerm c.emphasis pr.x pr.xBefore).2 }

section
variable {c : CoeffSet} {pr : FilterProgress} (hh : c.tapCount.val - 1 ≤ pr.history)
include hh

theorem FilterProgress.stepped_main (a : Int) (w : Bool) {i : Nat} (hi : i < mainSteps c) :
    (pr.during c (BitVec.ofInt 48 a) w (i + 1)).stepped c
      = pr.during c (BitVec.ofInt 48 (a + mainProduct c (pr.terms c) i))
        (w || !fits48 ((BitVec.ofInt 48 a).toInt + mainProduct c (pr.terms c) i)) (i + 1 + 1) := by
  rw [← ofInt_toInt_add, FilterProgress.stepped, FilterProgress.endStep_main (pr := pr.during c _ w _) hh rfl hi]
  rfl

theorem FilterProgress.stepped_load (a : Acc) (w : Bool) :
    (pr.during c a w (mainSteps c + 1)).stepped c
      = pr.during c (BitVec.ofInt 48 (mainOutput a * 1024)) (w || !fits48 (mainOutput a * 1024)) (mainSteps c + 2) := by
  rw [FilterProgress.stepped, FilterProgress.endStep_load (pr := pr.during c a w _) hh rfl]
  rfl

theorem FilterProgress.stepped_trim (a : Int) (w : Bool) {j : Nat} (hj : j < 4) :
    (pr.during c (BitVec.ofInt 48 a) w (mainSteps c + 2 + j)).stepped c
      = pr.during c (BitVec.ofInt 48 (a - trimProduct c pr.ys j))
        (w || !fits48 ((BitVec.ofInt 48 a).toInt - trimProduct c pr.ys j)) (mainSteps c + 2 + j + 1) := by
  rw [Int.sub_eq_add_neg (a := a), ← ofInt_toInt_add, ← Int.sub_eq_add_neg, FilterProgress.stepped,
    FilterProgress.endStep_trim (pr := pr.during c _ w _) hh rfl hj]
  rfl

/-- After the emphasis and i products. -/
theorem FilterProgress.iterate_main (h0 : pr.sub = 0) {i : Nat} (hi : i ≤ mainSteps c) : ∃ w,
    (FilterProgress.stepped c)^[i + 1] pr = pr.during c (BitVec.ofInt 48 (mainSum c (pr.terms c) i)) w (i + 1)
      ∧ (pr.Fits c → w = pr.wrapped) := by
  induction i with
  | zero =>
    refine ⟨pr.wrapped, ?_, fun _ => rfl⟩
    rw [Function.iterate_one, FilterProgress.stepped, FilterProgress.endStep_emphasis hh h0]
    rfl
  | succ i ih =>
    obtain ⟨w, e, hw⟩ := ih (by omega)
    rw [Function.iterate_succ_apply', e, FilterProgress.stepped_main hh _ _ hi, mainSum_succ]
    refine ⟨_, rfl, fun hf => ?_⟩
    rw [no_wrap (hf.main i (by omega)) (mainSum_succ c _ i ▸ hf.main (i + 1) hi), Bool.or_false, hw hf]

/-- After the trim load and j trim products. -/
theorem FilterProgress.iterate_trim (h0 : pr.sub = 0) {j : Nat} (hj : j ≤ 4) : ∃ w,
    (FilterProgress.stepped c)^[mainSteps c + 2 + j] pr
      = pr.during c (BitVec.ofInt 48 (mainLoad c (pr.terms c) - trimSum c pr.ys j)) w (mainSteps c + 2 + j)
      ∧ (pr.Fits c → w = pr.wrapped) := by
  induction j with
  | zero =>
    obtain ⟨w, e, hw⟩ := FilterProgress.iterate_main hh h0 (Nat.le_refl (mainSteps c))
    have hz : mainLoad c (pr.terms c) - trimSum c pr.ys 0 = mainLoad c (pr.terms c) := Int.sub_zero _
    rw [Nat.add_zero, Function.iterate_succ_apply', e, FilterProgress.stepped_load hh, hz]
    refine ⟨_, rfl, fun hf => ?_⟩
    rw [show mainOutput _ * 1024 = mainLoad c (pr.terms c) from rfl, ← hz, hf.trim 0 (by omega), hw hf]
    exact Bool.or_false _
  | succ j ih =>
    obtain ⟨w, e, hw⟩ := ih (by omega)
    rw [← Nat.add_assoc, Function.iterate_succ_apply', e, FilterProgress.stepped_trim hh _ _ hj, trimSum_succ,
      ← Int.sub_sub]
    refine ⟨_, rfl, fun hf => ?_⟩
    have hn := no_wrap (d := -trimProduct c pr.ys j) (hf.trim j (by omega))
      (by rw [← Int.sub_eq_add_neg, Int.sub_sub, ← trimSum_succ]; exact hf.trim (j + 1) (by omega))
    rw [Int.sub_eq_add_neg, hn, Bool.or_false, hw hf]

/-- The last step of a sample hands it over. -/
theorem FilterProgress.iterate_last (h0 : pr.sub = 0) {y : Sample × Bool}
    (hy : gainOutput c.gain (trimOutput (BitVec.ofInt 48 (mainLoad c (pr.terms c) - trimSum c pr.ys 5 + 512))) = y) : ∃ w,
    ((FilterProgress.stepped c)^[mainSteps c + 6] pr).endStep c
      = ({ pr.during c (BitVec.ofInt 48 (mainLoad c (pr.terms c) - trimSum c pr.ys 5 + 512)) w 0 with
          saturated := pr.saturated || (emphasisTerm c.emphasis pr.x pr.xBefore).2 || y.2
          ys := #v[y.1, pr.ys.get 0, pr.ys.get 1, pr.ys.get 2, pr.ys.get 3], sample := pr.sample + 1 }, some y.1)
      ∧ (pr.Fits c → w = pr.wrapped) := by
  obtain ⟨w, e, hw⟩ := FilterProgress.iterate_trim hh h0 (Nat.le_refl 4)
  have hA : mainLoad c (pr.terms c) - trimSum c pr.ys 4 - trimProduct c pr.ys 4 = mainLoad c (pr.terms c) - trimSum c pr.ys 5 := by
    rw [Int.sub_sub, ← trimSum_succ]
  have fits (hf : pr.Fits c) := And.intro (hf.trim 4 (by omega)) (And.intro (hf.trim 5 (by omega)) hf.round)
  generalize mainLoad c (pr.terms c) - trimSum c pr.ys 5 = a5 at hA hy fits ⊢
  generalize mainLoad c (pr.terms c) - trimSum c pr.ys 4 = a4 at hA e fits
  obtain ⟨v, hv⟩ : ∃ v, (BitVec.ofInt 48 a4).toInt - trimProduct c pr.ys 4 = v := ⟨_, rfl⟩
  obtain ⟨u, hu⟩ : ∃ u, (BitVec.ofInt 48 v).toInt + 512 = u := ⟨_, rfl⟩
  have hwv : BitVec.ofInt 48 v = BitVec.ofInt 48 a5 := by
    rw [← hv, ← hA, Int.sub_eq_add_neg, ofInt_toInt_add]
    rfl
  have hwu : BitVec.ofInt 48 u = BitVec.ofInt 48 (a5 + 512) := by rw [← hu, hwv, ofInt_toInt_add]
  have hlast := FilterProgress.endStep_last (pr := pr.during c (BitVec.ofInt 48 a4) w (mainSteps c + 6)) hh rfl hv hu
    (y := y) (by rw [hwu]; exact hy)
  refine ⟨w || !fits48 v || !fits48 u, ?_, fun hf => ?_⟩
  · rw [show mainSteps c + 6 = mainSteps c + 2 + 4 from rfl, e]
    rw [← hwu]
    exact hlast
  · obtain ⟨h4, h5, h512⟩ := fits hf
    have hv5 : v = a5 := by rw [← hv, toInt_ofInt_of_fits48 h4, hA]
    have hu5 : u = a5 + 512 := by rw [← hu, hv5, toInt_ofInt_of_fits48 h5]
    rw [hv5, hu5, h5, h512, hw hf]
    exact (Bool.or_false _).trans (Bool.or_false _)

end

/-! ### The products by tap (R28) -/

theorem mainProduct_eq {c : CoeffSet} {es : List Sample} {i : Nat} (hi : i < mainSteps c) : mainProduct c es i
    = (if c.tapCount.val = 0 then 16384 else (c.taps.toList.getD i 0).toInt) * (es.getD i 0).toInt := by
  unfold mainProduct
  split
  · next h =>
    have h0 : i = 0 := by rw [mainSteps, h] at hi; omega
    rw [h0, Int.mul_comm]
  · rfl

theorem mainSum_eq (c : CoeffSet) (es : List Sample) : mainSum c es (mainSteps c) = ((List.range (mainSteps c)).map fun i =>
    (if c.tapCount.val = 0 then 16384 else (c.taps.toList.getD i 0).toInt) * (es.getD i 0).toInt).sum :=
  congrArg List.sum (List.map_congr_left fun _ hi => mainProduct_eq (List.mem_range.mp hi))

theorem Vector.toList_getD {α : Type} {k : Nat} (v : Vector α k) (j : Fin k) (d : α) : v.toList.getD j.val d = v.get j := by
  rw [Vector.toList_eq_map_get]
  simp

theorem trimProduct_eq (c : CoeffSet) (ys : Vector Sample 5) (j : Fin 5) : trimProduct c ys j.val
    = (if c.polarities.get j then -1 else 1) * ((c.weights.get j).val : Int) * (ys.get j).toInt := by
  rw [trimProduct, Vector.toList_getD, Vector.toList_getD, Vector.toList_getD]

theorem trimSum_eq (c : CoeffSet) (ys : Vector Sample 5) : trimSum c ys 5 = ((List.finRange 5).map fun j =>
    (if c.polarities.get j then -1 else 1) * ((c.weights.get j).val : Int) * (ys.get j).toInt).sum := by
  rw [trimSum, show List.range 5 = (List.finRange 5).map Fin.val by decide, List.map_map]
  exact congrArg List.sum (List.map_congr_left fun j _ => trimProduct_eq c ys j)

/-! ### The default coefficient set (R27) -/

theorem Sample.toInt_bounds (x : Sample) : -32768 ≤ x.toInt ∧ x.toInt ≤ 32767 := by
  have h1 := BitVec.le_toInt x
  have h2 := BitVec.toInt_lt (x := x)
  norm_num at h1 h2
  omega

theorem sat16_toInt (x : Sample) : sat16 x.toInt = (x, false) := by
  obtain ⟨h1, h2⟩ := Sample.toInt_bounds x
  rw [sat16, if_neg (by omega), if_neg (by omega), BitVec.ofInt_toInt]

theorem emphasisTerm_zero (x before : Sample) : emphasisTerm 0 x before = (x, false) := by
  rw [emphasisTerm, show x.toInt + ((0 : Fin 16).val : Int) * (x.toInt - before.toInt) / 16 = x.toInt by simp, sat16_toInt]

theorem FilterProgress.terms_default (pr : FilterProgress) : pr.terms .default = [pr.x] := by
  rw [FilterProgress.terms, show CoeffSet.default.emphasis = 0 from rfl, emphasisTerm_zero]
  rfl

theorem mainSum_default (x : Sample) : mainSum .default [x] 1 = x.toInt * 16384 := by
  rw [mainSum_succ]
  exact Int.zero_add _

theorem trimProduct_default (ys : Vector Sample 5) (j : Nat) : trimProduct .default ys j = 0 := by
  have hw : CoeffSet.default.weights.toList.getD j 0 = 0 := by
    rw [show CoeffSet.default.weights.toList = List.replicate 5 0 from rfl,
      List.getD_eq_getElem?_getD, List.getElem?_replicate]
    split <;> rfl
  rw [trimProduct, hw]
  simp

theorem trimSum_default (ys : Vector Sample 5) (j : Nat) : trimSum .default ys j = 0 := by
  induction j with
  | zero => rfl
  | succ j ih => rw [trimSum_succ, ih, trimProduct_default]; rfl

theorem fits48_of_sample {v : Int} (h1 : -(2 ^ 40) ≤ v) (h2 : v ≤ 2 ^ 40) : fits48 v = true :=
  (fits48_iff v).mpr (by omega)

theorem mainLoad_default (x : Sample) : mainLoad .default [x] = x.toInt * 1024 := by
  obtain ⟨h1, h2⟩ := Sample.toInt_bounds x
  rw [mainLoad, show mainSteps .default = 1 from rfl, mainSum_default, mainOutput,
    toInt_ofInt_of_fits48 (fits48_of_sample (by omega) (by omega))]
  omega

/-- With the default set nothing leaves the accumulator. -/
theorem FilterProgress.fits_default (pr : FilterProgress) : pr.Fits .default := by
  obtain ⟨h1, h2⟩ := Sample.toInt_bounds pr.x
  refine ⟨fun i hi => ?_, fun j _ => ?_, ?_⟩
  · rw [pr.terms_default]
    obtain rfl | rfl : i = 0 ∨ i = 1 := by rw [show mainSteps .default = 1 from rfl] at hi; omega
    · rfl
    · rw [mainSum_default]
      exact fits48_of_sample (by omega) (by omega)
  · rw [pr.terms_default, mainLoad_default, trimSum_default]
    exact fits48_of_sample (by omega) (by omega)
  · rw [pr.terms_default, mainLoad_default, trimSum_default]
    exact fits48_of_sample (by omega) (by omega)

theorem gainOutput_default (pr : FilterProgress) : gainOutput CoeffSet.default.gain (trimOutput (BitVec.ofInt 48
    (mainLoad .default (pr.terms .default) - trimSum .default pr.ys 5 + 512))) = (pr.x, false) := by
  obtain ⟨h1, h2⟩ := Sample.toInt_bounds pr.x
  rw [trimOutput, toInt_ofInt_of_fits48 pr.fits_default.round, pr.terms_default, mainLoad_default, trimSum_default]
  have hg : (pr.x.toInt * 1024 - 0 + 512) / 1024 * 2 ^ (CoeffSet.default.gain.val) = pr.x.toInt := by
    show _ * 2 ^ 0 = _
    omega
  rw [gainOutput, hg, sat16_toInt]

/-! ### What a step reads (R29, R61) -/

/-- The step in hand begins by reading its input sample, unless it is past the emphasis of its output sample. -/
theorem FilterProgress.beginStep_reads (c : CoeffSet) (first : Nat) (input : Nat → Sample) (pr : FilterProgress) :
    let reads (o : Nat) : Prop := pr.beginStep c first input = { pr with
      x := input o, xBefore := if pr.history = 0 ∧ pr.sample = 0 then input (o - 1) else pr.x }
    (pr.history < c.tapCount.val - 1 → reads (first - (c.tapCount.val - 1) + pr.history))
      ∧ (c.tapCount.val - 1 ≤ pr.history → pr.sub = 0 → reads (first + pr.sample))
      ∧ (c.tapCount.val - 1 ≤ pr.history → pr.sub ≠ 0 → pr.beginStep c first input = pr) := by
  intro reads
  refine ⟨fun h => ?_, fun h h0 => ?_, fun h h0 => ?_⟩
  · simp [reads, FilterProgress.beginStep, FilterProgress.inHistory_true h, historySteps]
  · simp [reads, FilterProgress.beginStep, FilterProgress.inHistory_false h, h0]
  · simp [FilterProgress.beginStep, FilterProgress.inHistory_false h, h0]

theorem ProbeEntry.endStep_none {e : ProbeEntry} {s : State} (h : (e.progress.endStep e.trial).2 = none) :
    e.endStep s = { e with progress := (e.progress.endStep e.trial).1 } := by
  unfold ProbeEntry.endStep
  dsimp only
  rw [h]

theorem ProbeEntry.endStep_some {e : ProbeEntry} {s : State} {y : Sample} (h : (e.progress.endStep e.trial).2 = some y) :
    e.endStep s = { e with
      progress := (e.progress.endStep e.trial).1
      sumTarget := e.sumTarget + (s.targetSample e e.progress.sample).toInt.natAbs
      sumError := e.sumError + ((s.targetSample e e.progress.sample).toInt - y.toInt).natAbs
      peak := max e.peak y.toInt.natAbs } := by
  unfold ProbeEntry.endStep
  dsimp only
  rw [h]

/-- Settles O14: the steps of a sample one by one, their iteration, and what a step reads when it begins. -/
theorem defaultSetPassesInput : Obligations.DefaultSetPassesInput := by
  unfold Obligations.DefaultSetPassesInput
  intro clamp outside wraps term taps product trims
  have hterm (c : CoeffSet) (pr : FilterProgress) :
      (emphasisTerm c.emphasis pr.x pr.xBefore).1 = BitVec.ofInt 16 (clamp (term c pr)) := sat16_word _
  refine ⟨fun pr h0 => ?default, fun c pr h => ?history, fun c pr hh => ⟨fun i h hi => ?main, fun h => ?load, fun j h => ?trim⟩,
    fun c pr hh h0 => ?sample, ?reads⟩
  case default =>
    intro after
    obtain ⟨w, e, hw⟩ := FilterProgress.iterate_last (c := .default) (Nat.zero_le _) h0 (gainOutput_default pr)
    have hr : after.endStep .default = _ := e
    rw [hr, hw pr.fits_default, show CoeffSet.default.emphasis = 0 from rfl, emphasisTerm_zero]
    refine ⟨rfl, ?_, rfl, rfl, rfl⟩
    exact (Bool.or_false _).trans (Bool.or_false _)
  case history => rw [FilterProgress.endStep_history h, hterm]
  case main =>
    intro v
    rw [FilterProgress.endStep_main hh h hi, show mainProduct c pr.es i = product c pr.es i from mainProduct_eq hi]
    exact ⟨_, rfl, by rw [Bool.or_eq_true, not_fits48_iff]⟩
  case load =>
    intro v
    rw [FilterProgress.endStep_load hh h]
    exact ⟨_, rfl, by rw [Bool.or_eq_true, not_fits48_iff]; rfl⟩
  case trim =>
    intro v
    have hv : pr.acc.toInt - trimProduct c pr.ys j.val = v := by rw [trimProduct_eq]
    refine ⟨fun hj => ?_, fun hj => ?_⟩
    · rw [FilterProgress.endStep_trim hh h hj, hv]
      exact ⟨_, rfl, by rw [Bool.or_eq_true, not_fits48_iff]⟩
    · intro u
      subst hj
      rw [FilterProgress.endStep_last hh h hv rfl rfl]
      show (pr.wrapped || !fits48 v || !fits48 u) = true ↔ _
      rw [Bool.or_eq_true, Bool.or_eq_true, not_fits48_iff, not_fits48_iff, or_assoc]
  case sample =>
    intro after e es main f trim g y r
    have hes : pr.terms c = es := by rw [FilterProgress.terms, hterm]; rfl
    have hmain : BitVec.ofInt 48 (mainSum c (pr.terms c) (mainSteps c)) = main := by rw [hes, mainSum_eq]; rfl
    have hload : mainLoad c (pr.terms c) = f * 1024 := by rw [mainLoad, hmain, mainOutput]
    have htrim : BitVec.ofInt 48 (mainLoad c (pr.terms c) - trimSum c pr.ys 5 + 512) = trim := by rw [hload, trimSum_eq]
    have hy : gainOutput c.gain (trimOutput (BitVec.ofInt 48 (mainLoad c (pr.terms c) - trimSum c pr.ys 5 + 512)))
        = sat16 (g * 2 ^ c.gain.val) := by rw [htrim, trimOutput, gainOutput]
    obtain ⟨w, e', -⟩ := FilterProgress.iterate_last hh h0 hy
    have hr : r = _ := e'
    have hyw : (sat16 (g * 2 ^ c.gain.val)).1 = y := sat16_word _
    have hsat := sat16_bit (g * 2 ^ c.gain.val)
    rw [hr]
    refine ⟨congrArg some hyw, rfl, rfl, hes, rfl, ?_, ?_⟩
    · rw [← hyw]
    · dsimp only
      rw [Bool.or_eq_true, Bool.or_eq_true, or_assoc, hsat]
      exact or_congr_right (or_congr_left (sat16_bit _))
  case reads =>
    intro begins ring
    refine ⟨fun s e => ⟨?_, ⟨_, rfl, FilterProgress.beginStep_reads _ 64 _ _⟩, rfl⟩, fun s e => ?_⟩
    · rfl
    · intro w base input i target r
      have ht : s.targetSample e i = target := by
        simp only [target, State.targetSample]
        cases e.target with
        | window id off =>
          cases id with
          | none => rfl
          | some id =>
            simp only [State.readWord]
            cases s.resolve id (off.val + i) <;> rfl
        | generator lag => rfl
      refine ⟨⟨_, rfl, FilterProgress.beginStep_reads e.trial (192 - w) input e.progress⟩, fun h => ProbeEntry.endStep_none h,
        fun y h => ?_⟩
      rw [ProbeEntry.endStep_some h, ht]

end Sys2Proof.Machine

/-! SUPPORT. What the steps of a port reset leave (O55). -/

namespace Sys2Proof.Machine

/-! ### The notices of a port reset (R26, R56) -/

theorem Notices.setBy_leaderless (n : ProfileId) : Notices.SetBy (fun ns => ns.leaderless.getLsbD n.val) (.leaderless n) := by
  intro ns k
  cases k with
  | leaderless m => simpa [Notices.add] using getLsbD_insertBit ns.leaderless m n
  | _ => simp [Notices.add]

theorem Notices.setBy_slotSilenced (i : SlotId) :
    Notices.SetBy (fun ns => ns.slotSilenced.getLsbD i.val) (.slotSilenced i) := by
  intro ns k
  cases k with
  | slotSilenced j => simpa [Notices.add] using getLsbD_insertBit ns.slotSilenced j i
  | _ => simp [Notices.add]

theorem State.port_notifyOpt_ne {s : State} {o : Option Port} {p : Port} (k : Notice) (h : o ≠ some p) :
    (s.notifyOpt o k).port p = s.port p := by
  cases o with
  | none => rfl
  | some q => exact (State.port_notify s q p k).trans (if_neg fun e => h (congrArg some e.symm))

theorem State.port_notifySet_not {s : State} {m : BitVec 4} {p : Port} (k : Notice) (h : m.getLsbD p.val = false) :
    (s.notifySet m k).port p = s.port p :=
  (State.port_notifySet s m k p).trans (if_neg (ne_true_of_eq_false h))

/-- A port that is no member of the profile is not told. -/
theorem State.port_notifyMembers_not {s : State} {n : ProfileId} {p : Port} (k : Notice) (hl : (s.profile n).leader ≠ some p)
    (hf : (s.profile n).followers.getLsbD p.val = false) : (s.notifyMembers n k).port p = s.port p :=
  (State.port_notifySet_not k hf).trans (State.port_notifyOpt_ne k hl)

/-! ### References to a port's own windows (R115) -/

/-- A port names the own windows of no other port. -/
theorem WindowName.of_ne_priv {p q : Port} (h : q ≠ p) (k : Fin 8) (nm : WindowName) : nm.of q ≠ .priv p k := by
  cases nm with
  | priv j => exact fun e => h (WindowId.priv.inj e).1
  | shared j => exact fun e => nomatch e

section
variable {q : Port} {id : WindowId} (h : ∀ nm : WindowName, nm.of q ≠ id)
include h

theorem MoveRecord.references_not (m : MoveRecord) : m.references q id = false := by
  rw [MoveRecord.references, beq_eq_false_iff_ne.mpr (h m.target), Bool.false_or, Bool.and_eq_false_iff]
  right
  cases m.source with
  | window nm o => exact beq_eq_false_iff_ne.mpr (h nm)
  | ring c b o => rfl
  | generator b o => rfl

theorem QueueEntry.references_not (e : QueueEntry) : e.references q id = false := by
  unfold QueueEntry.references
  split
  · exact List.any_eq_false.mpr fun nm _ => by simpa using h nm
  · exact beq_eq_false_iff_ne.mpr (h _)

theorem State.portReferences_not (s : State) : s.portReferences q id = false := by
  rw [State.portReferences, Bool.or_eq_false_iff]
  refine ⟨List.any_eq_false.mpr fun r _ => ?_, List.any_eq_false.mpr fun e _ => ?_⟩
  · split
    · rw [MoveRecord.references_not h, Bool.and_false]
      exact Bool.false_ne_true
    · exact Bool.false_ne_true
  · rw [QueueEntry.references_not h]
    exact Bool.false_ne_true

end

/-- A port without queue entries, whose moves are all stopped, references nothing. -/
theorem State.portReferences_stopped {s : State} {p : Port} {id : WindowId} (jobs : (s.port p).jobs = [])
    (moves : ∀ r, (s.port p).moves.get r = none ∨ s.mover.stoppedRecord p r = true) : s.portReferences p id = false := by
  rw [State.portReferences, jobs, List.any_nil, Bool.or_false]
  refine List.any_eq_false.mpr fun r _ => ?_
  rcases moves r with e | e <;> rw [e]
  · exact Bool.false_ne_true
  · split
    · exact Bool.false_ne_true
    · exact Bool.false_ne_true

theorem Profile.references_priv {r : Profile} {p : Port} (h : r.leader ≠ some p) (k : Fin 8) :
    r.references (.priv p k) = false := by
  have hl (j : Fin 8) : (r.leader.map fun q => WindowId.priv q j) ≠ some (.priv p k) := fun e => by
    obtain ⟨q, hq, e⟩ := Option.map_eq_some_iff.mp e
    exact h (hq.trans (congrArg some (WindowId.priv.inj e).1))
  unfold Profile.references Profile.probeTarget
  rw [Bool.and_eq_false_iff]
  right
  cases r.config.target with
  | generator lag => rfl
  | window nm o =>
    cases nm with
    | priv j => exact beq_eq_false_iff_ne.mpr (hl j)
    | shared j => rfl

/-- Nothing references an own window of a port that has no queue entry, no move but a stopped one, and no lead. -/
theorem State.referenced_priv {s : State} {p : Port} (jobs : (s.port p).jobs = [])
    (moves : ∀ r, (s.port p).moves.get r = none ∨ s.mover.stoppedRecord p r = true)
    (leads : ∀ n, (s.profile n).leader ≠ some p) (k : Fin 8) : s.referenced (.priv p k) = false := by
  rw [State.referenced, Bool.or_eq_false_iff]
  refine ⟨List.any_eq_false.mpr fun q _ => ?_, List.any_eq_false.mpr fun r hr => ?_⟩
  · by_cases h : q = p
    · rw [h, State.portReferences_stopped jobs moves]
      exact Bool.false_ne_true
    · rw [State.portReferences_not (WindowName.of_ne_priv h k)]
      exact Bool.false_ne_true
  · rw [Vector.toList_eq_map_get] at hr
    obtain ⟨n, -, rfl⟩ := List.mem_map.mp hr
    exact ne_true_of_eq_false (Profile.references_priv (leads n) k)

/-! ### The release of the generator (R56, R171) -/

/-- t is s but for slots and notices of silenced slots. -/
structure SilenceOnly (s t : State) : Prop where
  state : t = { s with slots := t.slots, ports := t.ports }
  adds  : s.Adds (fun k => ∃ i, k = .slotSilenced i) t
  owner : ∀ i, (t.slot i).owner = (s.slot i).owner
  port  : ∀ p, (∀ i, (s.slot i).owner ≠ some p) → t.port p = s.port p

theorem OnlyNotices.slot {s t : State} (h : OnlyNotices s t) (i : SlotId) : t.slot i = s.slot i := by rw [h.state]; rfl

theorem silenceSlot_slot (s : State) (i j : SlotId) : (silenceSlot s i).slot j
    = if j = i ∧ (s.slot i).onGenerator = true then { s.slot i with pending := some .silent } else s.slot j := by
  unfold silenceSlot
  split
  · next hg =>
    rw [(onlyNotices_notifyOpt _ _ _).slot, State.slot_modSlot]
    exact if_congr (by rw [and_iff_left hg]) rfl rfl
  · next hg => exact (if_neg fun h => hg h.2).symm

namespace SilenceOnly

variable {s t u : State}

theorem refl (s : State) : SilenceOnly s s := ⟨rfl, .refl s, fun _ => rfl, fun _ _ => rfl⟩

theorem trans (a : SilenceOnly s t) (b : SilenceOnly t u) : SilenceOnly s u := by
  refine ⟨by rw [b.state, a.state], a.adds.trans b.adds, fun i => (b.owner i).trans (a.owner i), fun p h => ?_⟩
  exact (b.port p fun i => by rw [a.owner]; exact h i).trans (a.port p h)

theorem silenceSlot (s : State) (i : SlotId) : SilenceOnly s (silenceSlot s i) := by
  have owner (j : SlotId) : ((Machine.silenceSlot s i).slot j).owner = (s.slot j).owner := by
    rw [silenceSlot_slot]
    split
    · next h => rw [h.1]
    · rfl
  unfold Machine.silenceSlot at owner ⊢
  split at owner
  · next hg =>
    have hn := onlyNotices_notifyOpt (s.modSlot i fun t => { t with pending := some .silent }) (s.slot i).owner (.slotSilenced i)
    rw [if_pos hg]
    exact ⟨by rw [hn.state]; rfl, (State.Adds.of_ports rfl).trans (.notifyOpt _ _ ⟨i, rfl⟩), owner,
      fun p h => State.port_notifyOpt_ne _ (h i)⟩
  · next hg => rw [if_neg hg]; exact refl s

theorem foldl (l : List SlotId) (s : State) : SilenceOnly s (l.foldl Machine.silenceSlot s) :=
  foldl_relates (P := fun _ => True) refl (fun _ _ _ => trans) (fun _ _ _ _ => trivial) _ l (fun s _ i _ => silenceSlot s i) s trivial

end SilenceOnly

theorem foldl_silenceSlot_slot {l : List SlotId} {i : SlotId} (h : i ∉ l) (s : State) :
    (l.foldl silenceSlot s).slot i = s.slot i :=
  (foldl_relates (Rel := fun s t => t.slot i = s.slot i) (P := fun _ => True) (fun _ => rfl) (fun _ _ _ a b => b.trans a)
    (fun _ _ _ _ => trivial) _ l (fun s _ j hj => (silenceSlot_slot s j i).trans (if_neg fun ⟨e, _⟩ => h (e ▸ hj))) s trivial)

theorem mem_allSlots (i : SlotId) : i ∈ allSlots := by
  revert i
  decide

theorem nodup_allSlots : allSlots.Nodup := by decide

/-- The turns before that of slot i, and those after it, leave the slot. -/
theorem silenceGeneratorSlots_split (s : State) (i : SlotId) : ∃ u, SilenceOnly s u ∧ u.slot i = s.slot i
    ∧ SilenceOnly (silenceSlot u i) (silenceGeneratorSlots s)
    ∧ (silenceGeneratorSlots s).slot i = (silenceSlot u i).slot i := by
  obtain ⟨pre, post, hl, hpre, hpost⟩ := split_of_mem nodup_allSlots (mem_allSlots i)
  refine ⟨pre.foldl silenceSlot s, .foldl pre s, foldl_silenceSlot_slot hpre s, ?_⟩
  rw [silenceGeneratorSlots, hl, List.foldl_append, List.foldl_cons]
  exact ⟨.foldl post _, foldl_silenceSlot_slot hpost _⟩

theorem silenceGeneratorSlots_only (s : State) : SilenceOnly s (silenceGeneratorSlots s) := .foldl allSlots s

theorem Slot.onGenerator_iff {t : Slot} : t.onGenerator = true ↔ t.source = .generator ∨ t.pending = some .generator := by
  simp [Slot.onGenerator]

theorem silenceGeneratorSlots_slot (s : State) (i : SlotId) : (silenceGeneratorSlots s).slot i
    = if (s.slot i).onGenerator then { s.slot i with pending := some .silent } else s.slot i := by
  obtain ⟨u, -, hu, -, e⟩ := silenceGeneratorSlots_split s i
  rw [e, ← hu, silenceSlot_slot]
  exact if_congr (and_iff_right rfl) rfl rfl

/-- The owner of a slot on the generator is told. -/
theorem silenceGeneratorSlots_told {s : State} {i : SlotId} {o : Port} (hg : (s.slot i).onGenerator = true)
    (ho : (s.slot i).owner = some o) : ((silenceGeneratorSlots s).port o).notices.slotSilenced.getLsbD i.val = true := by
  obtain ⟨u, -, hu, after, -⟩ := silenceGeneratorSlots_split s i
  refine after.adds.kept (Notices.setBy_slotSilenced i) ?_
  rw [← hu] at hg ho
  rw [silenceSlot, if_pos hg, ho]
  show ((State.notify _ o _).port o).notices.slotSilenced.getLsbD i.val = true
  rw [State.port_notify, if_pos rfl]
  exact PortState.noticed_bit (Notices.setBy_slotSilenced i) _

end Sys2Proof.Machine

/-! SUPPORT. The steps of a port reset (O55). -/

namespace Sys2Proof.Machine

/-! ### Replies, jobs, moves and windows (R117, R127, R148) -/

/-- The copier after a port reset: a segment of the port goes on by the addresses its windows gave (R127). -/
def State.stoppedMover (s : State) (p : Port) : Mover :=
  match s.segmentOf p with
  | some (g, m) => ⟨some { g with stopped := g.stopped.or (some (s.stopBases p m)) }, s.mover.pointer⟩
  | none => s.mover

/-- The move records that a port reset leaves the port. -/
def State.stoppedMoves (s : State) (p : Port) : Vector (Option MoveRecord) 4 :=
  match s.segmentOf p with
  | some (g, m) => vset (Vector.replicate 4 none) g.record (some m)
  | none => Vector.replicate 4 none

/-- The shared windows, those of the port without an owner (R117). -/
def State.disowned (s : State) (p : Port) : Vector (Option SharedWindow) 16 :=
  vmap (Option.map fun w => if w.creator = some p then { w with creator := none } else w) s.shared

/-- The port without replies, notices, jobs, moves and windows, its context initial. -/
def PortState.wiped (moves : Vector (Option MoveRecord) 4) (ps : PortState) : PortState := { ps with
  replies := [], notices := .empty, jobs := [], ctxRun := none, ctx := .initial, moves := moves, moveOrder := []
  windows := Vector.replicate 8 none }

/-- The steps of a port reset before the memberships are given up. -/
def State.wiped (s : State) (p : Port) : State :=
  { s with engine := discardPass p s.engine, mover := s.stoppedMover p, shared := s.disowned p }.modPort p
    (PortState.wiped (s.stoppedMoves p))

theorem wiped_eq (p : Port) (s : State) :
    closeWindows p (stopMoves p (resetJobs p (resetReplies p s))) = s.wiped p := by
  obtain ⟨r, hr⟩ : ∃ r, resetJobs p (resetReplies p s) = r := ⟨_, rfl⟩
  have e : r = { s with engine := discardPass p s.engine }.modPort p fun ps =>
      { ps with replies := [], notices := .empty, jobs := [], ctxRun := none, ctx := .initial } := by
    rw [← hr]
    exact State.modPort_modPort { s with engine := discardPass p s.engine } p
      (fun ps => { ps with replies := [], notices := .empty }) fun ps => { ps with jobs := [], ctxRun := none, ctx := .initial }
  have hown : r.port p = { s.port p with replies := [], notices := .empty, jobs := [], ctxRun := none, ctx := .initial } := by
    rw [e]; exact State.port_modPort_same _ p _
  have hwin (nm : WindowName) : r.baseOf (nm.of p) = s.baseOf (nm.of p) := by
    cases nm with
    | priv k => simp only [State.baseOf, State.windowOf, WindowName.of, hown]
    | shared k => rw [e]; rfl
  have hbases (m : MoveRecord) : r.stopBases p m = s.stopBases p m := by
    simp only [State.stopBases, hwin]
  have hseg : r.segmentOf p = s.segmentOf p := by
    simp only [State.segmentOf, hown]
    rw [e]
    rfl
  rw [hr]
  unfold closeWindows stopMoves State.wiped State.stoppedMover State.stoppedMoves State.disowned
  rw [hseg]
  cases s.segmentOf p with
  | none => rw [e]; simp [State.modPort, State.port, PortState.wiped]
  | some gm => simp only [hbases]; rw [e]; simp [State.modPort, State.port, PortState.wiped]

theorem State.segmentOf_eq_some {s : State} {p : Port} {g : Segment} {m : MoveRecord} : s.segmentOf p = some (g, m)
    ↔ s.mover.segment = some g ∧ g.port = p ∧ (s.port p).moves.get g.record = some m := by
  unfold State.segmentOf
  cases s.mover.segment with
  | none => exact ⟨fun h => (nomatch h), fun h => (nomatch h.1)⟩
  | some k =>
    dsimp only
    by_cases hp : k.port = p
    · rw [if_pos hp, Option.map_eq_some_iff]
      constructor
      · rintro ⟨x, hx, e⟩
        obtain ⟨rfl, rfl⟩ := Prod.mk.inj e
        exact ⟨rfl, hp, hx⟩
      · rintro ⟨e, -, hx⟩
        obtain rfl := Option.some.inj e
        exact ⟨m, hx, rfl⟩
    · rw [if_neg hp]
      exact ⟨fun h => (nomatch h), fun ⟨e, hg, _⟩ => absurd (Option.some.inj e ▸ hg) hp⟩

section
variable {s : State} {p : Port} {g : Segment} {m : MoveRecord}

theorem State.stoppedMover_of_segment (h : s.segmentOf p = some (g, m)) :
    s.stoppedMover p = ⟨some { g with stopped := g.stopped.or (some (s.stopBases p m)) }, s.mover.pointer⟩ := by
  rw [State.stoppedMover, h]

theorem State.stoppedMoves_of_segment (h : s.segmentOf p = some (g, m)) :
    s.stoppedMoves p = vset (Vector.replicate 4 none) g.record (some m) := by
  rw [State.stoppedMoves, h]

theorem State.stoppedMover_of_none (h : s.segmentOf p = none) : s.stoppedMover p = s.mover := by
  rw [State.stoppedMover, h]

/-- The segment of another port goes on as it is. -/
theorem State.stoppedMover_of_other (h : s.mover.segment = some g) (hp : g.port ≠ p) : s.stoppedMover p = s.mover := by
  cases hs : s.segmentOf p with
  | none => exact State.stoppedMover_of_none hs
  | some gm =>
    obtain ⟨e, hg, -⟩ := State.segmentOf_eq_some.mp hs
    exact absurd (Option.some.inj (h.symm.trans e) ▸ hg) hp

/-- The one record that stays is that of the segment in progress. -/
theorem State.stoppedMoves_cases (s : State) (p : Port) (k : Fin 4) : (s.stoppedMoves p).get k = none
    ∨ ∃ g m, s.segmentOf p = some (g, m) ∧ g.record = k := by
  cases hs : s.segmentOf p with
  | none =>
    left
    rw [State.stoppedMoves, hs]
    exact get_replicate _ k
  | some gm =>
    rw [State.stoppedMoves_of_segment hs, vset_get]
    by_cases hk : k = gm.1.record
    · exact .inr ⟨gm.1, gm.2, rfl, hk.symm⟩
    · rw [if_neg hk]
      exact .inl (get_replicate _ k)

/-- Every record that a port reset leaves is stopped. -/
theorem State.stoppedMoves_stopped (s : State) (p : Port) (k : Fin 4) : (s.stoppedMoves p).get k = none
    ∨ (s.stoppedMover p).stoppedRecord p k = true := by
  refine (s.stoppedMoves_cases p k).imp_right ?_
  rintro ⟨g, m, hs, rfl⟩
  obtain ⟨-, hp, -⟩ := State.segmentOf_eq_some.mp hs
  rw [State.stoppedMover_of_segment hs]
  simp [Mover.stoppedRecord, hp]

theorem State.stopBases_target {w : Window} (h : s.windowOf (m.target.of p) = some w) : (s.stopBases p m).target = w.base := by
  simp [State.stopBases, State.baseOf, h]

theorem State.stopBases_source {nm : WindowName} {o : Nat} {w : Window} (hm : m.source = .window nm o)
    (h : s.windowOf (nm.of p) = some w) : (s.stopBases p m).source = w.base := by
  simp [State.stopBases, State.baseOf, hm, h]

end

/-- No job pass of the port is left. -/
theorem discardPass_port {p : Port} {e : Engine} {j : JobPass} (h : (discardPass p e).jobPass = some j) : j.port ≠ p := by
  unfold discardPass at h
  split at h
  · next k hk =>
    split at h
    · split at h <;> cases h
    · next hp =>
      obtain rfl := Option.some.inj (hk.symm.trans h)
      exact hp
  · next hk => rw [hk] at h; cases h

/-- No shared window has the port as its creator. -/
theorem State.disowned_creator {s : State} {p : Port} {k : Fin 16} {v : SharedWindow} (h : (s.disowned p).get k = some v) :
    v.creator ≠ some p := by
  rw [State.disowned, vmap_get] at h
  obtain ⟨w, -, rfl⟩ := Option.map_eq_some_iff.mp h
  split
  · exact fun e => nomatch e
  · next hw => exact hw

end Sys2Proof.Machine

/-! SUPPORT. A port reset gives up memberships, slots and claims (O55). -/

namespace Sys2Proof.Machine

/-! ### Memberships and leads (R26, R110) -/

theorem eraseBit_of_unset {w : Nat} {m : BitVec w} {i : Fin w} (h : m.getLsbD i.val = false) : eraseBit m i.val = m := by
  refine BitVec.eq_of_getLsbD_eq fun j hj => ?_
  by_cases e : j = i.val
  · rw [e, KeepsTable.getLsbD_eraseBit_same, h]
  · have hbit : (1#w <<< i.val).getLsbD j = false := by
      rw [BitVec.getLsbD_shiftLeft, BitVec.getLsbD_one]
      grind
    rw [eraseBit, BitVec.getLsbD_and, BitVec.getLsbD_not, hbit]
    simp [hj]

theorem ProfileTurn.lossOfLeader (m : ProfileId) (s : State) : ProfileTurn m s (lossOfLeader m s) := by
  unfold Machine.lossOfLeader
  split
  · exact endAdaptation m _ s
  · exact endAdaptation m _ s
  · exact endAdaptation m _ s
  · exact endAdaptation m _ s
  · exact modSearch m s _
  · exact .refl m s

/-- A withdrawal from a BOUND profile tells nobody. -/
theorem withdrawProbe_ports {s : State} {n : ProfileId} (hb : (s.profile n).state = .bound) :
    (withdrawProbe n s).ports = s.ports := by
  unfold withdrawProbe
  split
  · rfl
  · dsimp only
    rw [freeTest_of_bound (by rw [State.profile_modProfile_same]; exact hb)]
    rfl

/-- A withdrawal from a BOUND profile writes its probe reference alone, whatever the probe queue holds. -/
theorem withdrawProbe_record {s : State} {n : ProfileId} (hb : (s.profile n).state = .bound) :
    ∃ f, (withdrawProbe n s).profile n = { s.profile n with probeRef := f } := by
  unfold withdrawProbe
  split
  · exact ⟨_, rfl⟩
  · dsimp only
    rw [freeTest_of_bound (by rw [State.profile_modProfile_same]; exact hb), State.profile_modProfile_same]
    exact ⟨false, rfl⟩

theorem endAdaptation_record {s : State} {n : ProfileId} (o : Outcome) (hb : (s.profile n).state = .bound) :
    ∃ f, (endAdaptation n o s).profile n = { s.profile n with
      candidate := (s.profile n).liveSet, lastOutcome := o, adapt := .idle, probeRef := f
      search := { (s.profile n).search with phase := .none, window := none } } := by
  obtain ⟨f, hf⟩ := withdrawProbe_record hb
  unfold endAdaptation
  rw [(onlyNotices_notifyMembers _ n _).profile, State.profile_modProfile_same, hf]
  exact ⟨f, rfl⟩

section
variable {s : State} {n : ProfileId} {p : Port}

/-- The loss of leader tells the followers alone. -/
theorem lossOfLeader_port (hb : (s.profile n).state = .bound) (hl : (s.profile n).leader ≠ some p)
    (hf : (s.profile n).followers.getLsbD p.val = false) : (lossOfLeader n s).port p = s.port p := by
  have ends : (endAdaptation n .aborted s).port p = s.port p := by
    obtain ⟨f, e⟩ := withdrawProbe_record hb
    unfold endAdaptation
    refine (State.port_notifyMembers_not _ ?_ ?_).trans ?_
    · rw [State.profile_modProfile_same, e]; exact hl
    · rw [State.profile_modProfile_same, e]; exact hf
    · rw [State.port_modProfile, State.port, withdrawProbe_ports hb]; rfl
  unfold lossOfLeader
  split
  · exact ends
  · exact ends
  · exact ends
  · exact ends
  · rfl
  · rfl

/-- The adaptation is one that the loss of leader ends (R110). -/
def AdaptState.Ends (a : AdaptState) : Prop := a ∈ [.searchShape, .searchTrim, .searchReshape, .tracking]

theorem AdaptState.ends_or (a : AdaptState) : a.Ends ∨ a = .committing ∨ a = .idle := by
  unfold AdaptState.Ends
  cases a <;> decide

theorem lossOfLeader_ends (h : (s.profile n).adapt.Ends) : lossOfLeader n s = endAdaptation n .aborted s := by
  unfold lossOfLeader
  unfold AdaptState.Ends at h
  split
  · rfl
  · rfl
  · rfl
  · rfl
  · next e => rw [e] at h; exact absurd h (by decide)
  · next e => rw [e] at h; exact absurd h (by decide)

theorem lossOfLeader_committing (h : (s.profile n).adapt = .committing) :
    lossOfLeader n s = s.modSearch n fun q => { q with continueAfter := false } := by
  rw [lossOfLeader, h]

theorem lossOfLeader_idle (h : (s.profile n).adapt = .idle) : lossOfLeader n s = s := by
  rw [lossOfLeader, h]

end

/-- The record that the port has left as a follower. -/
def Profile.left (p : Port) (r : Profile) : Profile := { r with followers := eraseBit r.followers p.val }

/-- The state in which profile n has lost its leader p and its followers know it. -/
def State.unled (s : State) (p : Port) (n : ProfileId) : State :=
  ((s.modProfile n (Profile.left p)).modProfile n fun r => { r with leader := none }).notifySet
    ((s.profile n).left p).followers (.leaderless n)

theorem leaveProfile_of_led {s : State} {p : Port} {n : ProfileId} (hb : (s.profile n).state = .bound)
    (hl : (s.profile n).leader = some p) : leaveProfile p s n = lossOfLeader n (s.unled p n) := by
  have e : (s.modProfile n (Profile.left p)).profile n = (s.profile n).left p := State.profile_modProfile_same _ _ _
  refine (if_pos ?_).trans ?_
  · exact ⟨(congrArg Profile.state e).trans hb, (congrArg Profile.leader e).trans hl⟩
  · exact congrArg (fun r : Profile => lossOfLeader n (State.notifySet _ r.followers _)) e

theorem leaveProfile_of_unled {s : State} {p : Port} {n : ProfileId}
    (h : (s.profile n).state ≠ .bound ∨ (s.profile n).leader ≠ some p) :
    leaveProfile p s n = s.modProfile n (Profile.left p) := by
  have e : (s.modProfile n (Profile.left p)).profile n = (s.profile n).left p := State.profile_modProfile_same _ _ _
  refine if_neg fun ⟨hb, hl⟩ => ?_
  exact h.elim (fun g => g ((congrArg Profile.state e).symm.trans hb)) fun g => g ((congrArg Profile.leader e).symm.trans hl)

theorem State.unled_profile (s : State) (p : Port) (n : ProfileId) :
    (s.unled p n).profile n = { (s.profile n).left p with leader := none } := by
  rw [State.unled, (onlyNotices_notifySet _ _ _).profile, State.profile_modProfile_same, State.profile_modProfile_same]

/-- A port that follows the profile, or none, or leads it: the turn of a port reset for one profile. -/
theorem leaveProfile_cases (s : State) (p : Port) (n : ProfileId) :
    leaveProfile p s n = s.modProfile n (Profile.left p)
    ∨ (s.profile n).state = .bound ∧ (s.profile n).leader = some p ∧ leaveProfile p s n = lossOfLeader n (s.unled p n) := by
  by_cases hb : (s.profile n).state = .bound
  · by_cases hl : (s.profile n).leader = some p
    · exact .inr ⟨hb, hl, leaveProfile_of_led hb hl⟩
    · exact .inl (leaveProfile_of_unled (.inr hl))
  · exact .inl (leaveProfile_of_unled (.inl hb))

/-- t is s but for profiles, the probes, the unit and its suspension request, and notices of other ports than p. -/
structure LeaveOnly (p : Port) (s t : State) : Prop where
  state  : t = { s with profiles := t.profiles, engine := t.engine, ports := t.ports }
  engine : t.engine = { s.engine with
    mac := t.engine.mac, suspendAsked := t.engine.suspendAsked, probes := t.engine.probes }
  port   : ∀ q, t.port q = { s.port q with notices := (t.port q).notices }
  own    : t.port p = s.port p

namespace LeaveOnly

variable {p : Port} {s t u : State}

theorem refl (p : Port) (s : State) : LeaveOnly p s s := ⟨rfl, rfl, fun _ => rfl, rfl⟩

theorem trans (a : LeaveOnly p s t) (b : LeaveOnly p t u) : LeaveOnly p s u := by
  refine ⟨?_, ?_, fun q => ?_, b.own.trans a.own⟩
  · rw [b.state, a.state]
  · rw [b.engine, a.engine]
  · rw [b.port q, a.port q]

theorem of_profileOnly {n : ProfileId} (h : ProfileOnly n s t) (own : t.port p = s.port p) : LeaveOnly p s t :=
  ⟨h.state, h.engine, h.port, own⟩

theorem leaveProfile (p : Port) (s : State) (n : ProfileId) : LeaveOnly p s (leaveProfile p s n) := by
  rcases leaveProfile_cases s p n with e | ⟨hb, hl, e⟩ <;> rw [e]
  · exact of_profileOnly (profileOnly_modProfile n s _) rfl
  · have hunled : ProfileOnly n s (s.unled p n) := ((profileOnly_modProfile n s _).trans (profileOnly_modProfile n _ _)).trans
      ((onlyNotices_notifySet _ _ _).profileOnly n)
    have hbit : ((s.profile n).left p).followers.getLsbD p.val = false := KeepsTable.getLsbD_eraseBit_same _ p
    refine of_profileOnly (hunled.trans (profileOnly_lossOfLeader n _)) ((lossOfLeader_port ?_ ?_ ?_).trans ?_)
    · rw [State.unled_profile]; exact hb
    · rw [State.unled_profile]; exact fun h => nomatch h
    · rw [State.unled_profile]; exact hbit
    · exact State.port_notifySet_not _ hbit

theorem leaveProfiles (p : Port) (s : State) : LeaveOnly p s (leaveProfiles p s) :=
  foldl_relates (P := fun _ => True) (refl p) (fun _ _ _ => trans) (fun _ _ _ _ => trivial) _ allProfiles
    (fun s _ n _ => leaveProfile p s n) s trivial

end LeaveOnly

/-- The turn for another profile. -/
theorem leaveProfile_keeps {p : Port} (s : State) {m n : ProfileId} (h : n ≠ m) : Keeps n Eq s (leaveProfile p s m) := by
  have hleft : Keeps n Eq s (s.modProfile m (Profile.left p)) := (ProfileTurn.modProfile m s _).keeps h
  rcases leaveProfile_cases s p m with e | ⟨-, -, e⟩ <;> rw [e]
  · exact hleft
  · have hset : Keeps n Eq ((s.modProfile m (Profile.left p)).modProfile m fun r => { r with leader := none }) (s.unled p m) := by
      have hn := onlyNotices_notifySet ((s.modProfile m (Profile.left p)).modProfile m fun r => { r with leader := none })
        ((s.profile m).left p).followers (.leaderless m)
      exact ⟨⟨by rw [State.unled, hn.state], by rw [State.unled, hn.engine], .notifySet _ _ trivial⟩, (hn.profile n).symm,
        congrArg (Engine.probesOf · n) hn.engine, fun hd => (congrArg Engine.mac hn.engine).trans hd,
        .notifySet _ _ (fun e => nomatch e)⟩
    exact ((hleft.of_eq_left ((ProfileTurn.modProfile m _ _).keeps h)).of_eq_left hset).of_eq_left
      ((ProfileTurn.lossOfLeader m _).keeps h)

/-- The turns before and after that of profile n keep it. -/
theorem leaveProfiles_split (p : Port) (s : State) (n : ProfileId) :
    ∃ u, Keeps n Eq s u ∧ Keeps n Eq (leaveProfile p u n) (leaveProfiles p s) := by
  obtain ⟨pre, post, hl, hpre, hpost⟩ := split_of_mem nodup_allProfiles (mem_allProfiles n)
  have others (l : List ProfileId) (hn : n ∉ l) (s : State) : Keeps n Eq s (l.foldl (leaveProfile p) s) :=
    .foldl _ l (fun s m hm => leaveProfile_keeps s fun e : n = m => hn (e ▸ hm)) s
  refine ⟨pre.foldl (leaveProfile p) s, others pre hpre s, ?_⟩
  rw [leaveProfiles, hl, List.foldl_append, List.foldl_cons]
  exact others post hpost _

theorem leaveProfiles_of_unled {p : Port} {s : State} {n : ProfileId} (h : (s.profile n).leader ≠ some p) :
    (leaveProfiles p s).profile n = (s.profile n).left p := by
  obtain ⟨u, before, after⟩ := leaveProfiles_split p s n
  have hu := before.profile_eq
  rw [after.profile_eq, leaveProfile_of_unled (.inr (by rw [hu]; exact h)), State.profile_modProfile_same, hu]

/-- What the loss of its leader does to profile n, from record q (R26, R110). -/
structure LeadLost (n : ProfileId) (q : Profile) (t : State) : Prop where
  record     : { t.profile n with
    adapt := q.adapt, search := q.search, candidate := q.candidate, lastOutcome := q.lastOutcome, probeRef := q.probeRef }
      = { q with leader := none }
  told       : ∀ x : Port, q.followers.getLsbD x.val = true → (t.port x).notices.leaderless.getLsbD n.val = true
  committing : q.adapt = .committing →
    t.profile n = { q with leader := none, search := { q.search with continueAfter := false } }
  idle       : q.adapt = .idle → t.profile n = { q with leader := none }

theorem LeadLost.later {n : ProfileId} {q : Profile} {s t : State} (h : LeadLost n q s) (record : t.profile n = s.profile n)
    (told : ∀ x, (s.port x).notices.leaderless.getLsbD n.val = true → (t.port x).notices.leaderless.getLsbD n.val = true) :
    LeadLost n q t :=
  ⟨by rw [record]; exact h.record, fun x hx => told x (h.told x hx), fun ha => record.trans (h.committing ha),
    fun ha => record.trans (h.idle ha)⟩

section
variable {s : State} {p : Port} {n : ProfileId} (hm : (s.profile n).MembersSound) (hl : (s.profile n).leader = some p)
include hm hl

/-- Only a BOUND profile is led. -/
theorem Profile.MembersSound.bound_of_led : (s.profile n).state = .bound := by
  by_contra hb
  have e := (hm.1 hb).1.symm.trans hl
  cases e

theorem State.unled_profile_of_led : (s.unled p n).profile n = { s.profile n with leader := none } := by
  rw [State.unled_profile, Profile.left, eraseBit_of_unset (hm.2 p hl)]

theorem leaveProfile_lost : LeadLost n (s.profile n) (leaveProfile p s n) := by
  have hq := State.unled_profile_of_led hm hl
  have hb := Profile.MembersSound.bound_of_led hm hl
  rw [leaveProfile_of_led hb hl]
  have told (x : Port) (hx : (s.profile n).followers.getLsbD x.val = true) :
      ((lossOfLeader n (s.unled p n)).port x).notices.leaderless.getLsbD n.val = true := by
    refine (ProfileTurn.lossOfLeader n (s.unled p n)).adds.kept (Notices.setBy_leaderless n) ?_
    have hf : ((s.profile n).left p).followers = (s.profile n).followers := eraseBit_of_unset (hm.2 p hl)
    rw [State.unled, hf, State.port_notifySet, if_pos hx]
    exact PortState.noticed_bit (Notices.setBy_leaderless n) _
  have hb' : ((s.unled p n).profile n).state = .bound := by rw [hq]; exact hb
  have ha : ((s.unled p n).profile n).adapt = (s.profile n).adapt := by rw [hq]
  have committing (h : (s.profile n).adapt = .committing) : (lossOfLeader n (s.unled p n)).profile n
      = { s.profile n with leader := none, search := { (s.profile n).search with continueAfter := false } } := by
    rw [lossOfLeader_committing (ha.trans h), State.modSearch, State.profile_modProfile_same, hq]
  have idle (h : (s.profile n).adapt = .idle) : (lossOfLeader n (s.unled p n)).profile n
      = { s.profile n with leader := none } := by
    rw [lossOfLeader_idle (ha.trans h), hq]
  refine ⟨?_, told, committing, idle⟩
  rcases (s.profile n).adapt.ends_or with h | h | h
  · obtain ⟨f, e⟩ := endAdaptation_record .aborted hb'
    rw [lossOfLeader_ends (by rw [ha]; exact h), e, hq]
  · rw [committing h]
  · rw [idle h]

theorem leaveProfile_fails (ha : (s.profile n).adapt.Ends) (hc : s.ProbeCounted n) :
    (leaveProfile p s n).Fails n { s.profile n with leader := none } .aborted := by
  have hq := State.unled_profile_of_led hm hl
  have hb := Profile.MembersSound.bound_of_led hm hl
  have hengine : (s.unled p n).engine = s.engine := (onlyNotices_notifySet _ _ _).engine
  rw [leaveProfile_of_led hb hl, lossOfLeader_ends (by rw [hq]; exact ha), ← hq]
  refine endAdaptation_fails .aborted (by rw [hq]; exact hb) ?_
  rw [State.ProbeCounted, hengine, hq]
  exact hc

theorem leaveProfiles_lost : LeadLost n (s.profile n) (leaveProfiles p s) := by
  obtain ⟨u, before, after⟩ := leaveProfiles_split p s n
  have hu := before.profile_eq
  rw [← hu] at hm hl ⊢
  exact (leaveProfile_lost hm hl).later after.profile_eq fun x => after.adds.kept (Notices.setBy_leaderless n)

theorem leaveProfiles_fails (ha : (s.profile n).adapt.Ends) (hc : s.ProbeCounted n) :
    (leaveProfiles p s).Fails n { s.profile n with leader := none } .aborted := by
  obtain ⟨u, before, after⟩ := leaveProfiles_split p s n
  have hu := before.profile_eq
  have hcu : u.ProbeCounted n := hc.of_eq before.probes hu
  rw [← hu] at hm hl ha ⊢
  exact (leaveProfile_fails hm hl ha hcu).later
    (after.mono fun {p q} (e : p = q) => e ▸ ⟨.refl p, rfl, rfl, rfl, rfl⟩).spares

end

/-! ### Slots and claims (R57, R171, R172) -/

theorem freeSlots_slot (p : Port) (s : State) (i : SlotId) : (freeSlots p s).slot i
    = if (s.slot i).owner = some p then (s.slot i).free else s.slot i := vmap_get _ _ i

theorem freeSlots_owner (p : Port) (s : State) (i : SlotId) : ((freeSlots p s).slot i).owner ≠ some p := by
  rw [freeSlots_slot]
  split
  · exact fun h => nomatch h
  · next h => exact h

/-- The checkers without the claims of the port (R172). -/
def State.checkersReleased (s : State) (p : Port) : Vector Checker 2 :=
  vmap (fun c => if c.claim = some p then c.release else c) s.checkers

theorem State.checkersReleased_claim (s : State) (p : Port) (c : Fin 2) : ((s.checkersReleased p).get c).claim ≠ some p := by
  rw [State.checkersReleased, vmap_get]
  split
  · exact fun h => nomatch h
  · next h => exact h

section
variable {p : Port} {s : State}

theorem releaseClaims_of_other (h : s.gen.claim ≠ some p) : releaseClaims p s = { s with checkers := s.checkersReleased p } := by
  unfold releaseClaims
  rw [if_neg h]
  rfl

theorem releaseClaims_of_holder (h : s.gen.claim = some p) : releaseClaims p s
    = { silenceGeneratorSlots { s with gen := s.gen.release } with checkers := s.checkersReleased p } := by
  have only := silenceGeneratorSlots_only { s with gen := s.gen.release }
  unfold releaseClaims dropGenerator
  rw [if_pos h]
  generalize s.gen.release = g at only ⊢
  have hc := congrArg State.checkers only.state
  unfold State.checkersReleased
  dsimp only
  rw [hc]

end

end Sys2Proof.Machine

/-! SUPPORT. What a port reset leaves (O55). -/

namespace Sys2Proof.Machine

/-! ### The claims given up, slot by slot (R56, R57, R171) -/

/-- From s to t the claims of port p are given up, and the slots on a generator it held fall silent. -/
structure ClaimsReleased (p : Port) (s t : State) : Prop where
  state   : t = { s with slots := t.slots, ports := t.ports, gen := t.gen, checkers := t.checkers }
  adds    : s.Adds (fun k => ∃ i, k = .slotSilenced i) t
  port    : (∀ i, (s.slot i).owner ≠ some p) → t.port p = s.port p
  slot    : ∀ i, t.slot i = if s.gen.claim = some p ∧ (s.slot i).onGenerator = true then
    { s.slot i with pending := some .silent } else s.slot i
  told    : ∀ i o, s.gen.claim = some p → (s.slot i).onGenerator = true → (s.slot i).owner = some o →
    (t.port o).notices.slotSilenced.getLsbD i.val = true
  gen     : t.gen = if s.gen.claim = some p then s.gen.release else s.gen
  checker : ∀ c, (t.checker c).claim ≠ some p

/-- The slots of the generator fall silent, as a state of its own. -/
theorem silenceGeneratorSlots_eq (s : State) : ∃ t, silenceGeneratorSlots s = t ∧ SilenceOnly s t
    ∧ (∀ i, t.slot i = if (s.slot i).onGenerator then { s.slot i with pending := some .silent } else s.slot i)
    ∧ ∀ i o, (s.slot i).onGenerator = true → (s.slot i).owner = some o →
      (t.port o).notices.slotSilenced.getLsbD i.val = true :=
  ⟨_, rfl, silenceGeneratorSlots_only s, silenceGeneratorSlots_slot s, fun _ _ => silenceGeneratorSlots_told⟩

theorem releaseClaims_released (p : Port) (s : State) : ClaimsReleased p s (releaseClaims p s) := by
  by_cases h : s.gen.claim = some p
  · rw [releaseClaims_of_holder h]
    obtain ⟨g, hg⟩ : ∃ g, s.gen.release = g := ⟨_, rfl⟩
    obtain ⟨t, ht, only, slot, told⟩ := silenceGeneratorSlots_eq { s with gen := g }
    rw [hg, ht]
    refine ⟨?_, only.adds, only.port p, fun i => (slot i).trans ?_, fun i o _ => told i o, ?_, s.checkersReleased_claim p⟩
    · rw [only.state]
    · exact if_congr (and_iff_right h).symm rfl rfl
    · rw [if_pos h, hg]
      exact congrArg State.gen only.state
  · rw [releaseClaims_of_other h]
    exact ⟨rfl, .of_ports rfl, fun _ => rfl, fun i => (if_neg fun g => h g.1).symm, fun _ _ g => absurd g h, (if_neg h).symm,
      s.checkersReleased_claim p⟩

/-! ### The whole reset (R185) -/

/-- The state of a port reset before its last step. -/
def State.givenUp (s : State) (p : Port) : State := releaseClaims p (freeSlots p (leaveProfiles p (s.wiped p)))

theorem portReset_eq (p : Port) (s : State) : portReset p s = resetFlags p (s.givenUp p) := by
  rw [portReset, wiped_eq]
  rfl

section
variable (p : Port) (s : State)

theorem State.wiped_port : (s.wiped p).port p = (s.port p).wiped (s.stoppedMoves p) := State.port_modPort_same _ p _

theorem leaveProfiles_wiped : LeaveOnly p (s.wiped p) (leaveProfiles p (s.wiped p)) := .leaveProfiles p _

theorem State.givenUp_released :
    ClaimsReleased p (freeSlots p (leaveProfiles p (s.wiped p))) (s.givenUp p) := releaseClaims_released p _

/-- The slots, the generator and the checkers are given up as s has them. -/
theorem State.givenUp_state : s.givenUp p = { s with
    profiles := (leaveProfiles p (s.wiped p)).profiles, engine := (leaveProfiles p (s.wiped p)).engine
    mover := s.stoppedMover p, shared := s.disowned p, slots := (s.givenUp p).slots, ports := (s.givenUp p).ports
    gen := (s.givenUp p).gen, checkers := (s.givenUp p).checkers } := by
  have left := (leaveProfiles_wiped p s).state
  have released := (s.givenUp_released p).state
  generalize leaveProfiles p (s.wiped p) = t at left released ⊢
  rw [left] at released
  exact released

/-- After the profiles are left, notices are set alone, of silenced slots. -/
theorem State.givenUp_adds : (leaveProfiles p (s.wiped p)).Adds (fun k => ∃ i, k = .slotSilenced i) (s.givenUp p) := by
  have released := (s.givenUp_released p).adds
  generalize leaveProfiles p (s.wiped p) = t at released ⊢
  exact (State.Adds.of_ports (s := t) (t := freeSlots p t) rfl).trans released

theorem State.givenUp_port : (s.givenUp p).port p = (s.port p).wiped (s.stoppedMoves p) := by
  have own := (leaveProfiles_wiped p s).own
  have released := (s.givenUp_released p).port (freeSlots_owner p _)
  generalize leaveProfiles p (s.wiped p) = t at own released
  exact (released.trans own).trans (s.wiped_port p)

theorem State.givenUp_port_ne {q : Port} (h : q ≠ p) :
    (s.givenUp p).port q = { s.port q with notices := ((s.givenUp p).port q).notices } := by
  have hw : (s.wiped p).port q = s.port q := State.port_modPort_ne _ p q _ h
  have hl := (leaveProfiles_wiped p s).port q
  rw [hw] at hl
  rw [(s.givenUp_adds p).port q, hl]

theorem portReset_port : (portReset p s).port p
    = { (s.port p).wiped (s.stoppedMoves p) with keepPeriod := 0, countdown := 0, resetOccurred := true } := by
  rw [portReset_eq, resetFlags, State.port_modPort_same, s.givenUp_port p]

theorem portReset_port_ne {q : Port} (h : q ≠ p) : (portReset p s).port q = (s.givenUp p).port q := by
  rw [portReset_eq, resetFlags, State.port_modPort_ne _ p q _ h]

theorem portReset_state : portReset p s = { s.givenUp p with ports := (portReset p s).ports } := by
  rw [portReset_eq]
  rfl

/-- The last step sets no notice and takes none back. -/
theorem portReset_notices (q : Port) : ((portReset p s).port q).notices = ((s.givenUp p).port q).notices := by
  rw [portReset_eq, resetFlags, State.port_modPort]
  split
  · next e => rw [e]
  · rfl

end

/-- t is s but for the transaction, the replies, the two flags and the countdown of port p. -/
structure TransactionOnly (p : Port) (s t : State) : Prop where
  state : t = { s with ports := t.ports }
  own   : t.port p = { s.port p with
    spi := (t.port p).spi, replies := (t.port p).replies, overrun := (t.port p).overrun
    resetOccurred := (t.port p).resetOccurred, countdown := (t.port p).countdown }
  other : ∀ q, q ≠ p → t.port q = s.port q

namespace TransactionOnly

variable {p : Port} {s t : State}

theorem refl (p : Port) (s : State) : TransactionOnly p s s := ⟨rfl, rfl, fun _ _ => rfl⟩

theorem receive (f : Frame) (s : State) : TransactionOnly f.port s (receive f s) := by
  refine ⟨?_, receive_port f s, fun q h => receive_port_ne f s h⟩
  obtain ⟨g, h⟩ := receive_eq f s
  rw [h]
  rfl

/-- A change of the transaction or the replies of the port. -/
theorem modPort (p : Port) (s : State) {g : PortState → PortState}
    (h : ∀ ps, g ps = { ps with spi := (g ps).spi, replies := (g ps).replies }) : TransactionOnly p s (s.modPort p g) := by
  refine ⟨rfl, ?_, fun q hq => State.port_modPort_ne s p q g hq⟩
  rw [State.port_modPort_same, h]

theorem notices (h : TransactionOnly p s t) (q : Port) : (t.port q).notices = (s.port q).notices := by
  by_cases e : q = p
  · rw [e, h.own]
  · rw [h.other q e]

theorem windowOf (h : TransactionOnly p s t) (id : WindowId) : t.windowOf id = s.windowOf id := by
  cases id with
  | shared k => rw [h.state]; rfl
  | priv q k =>
    simp only [State.windowOf]
    by_cases e : q = p
    · rw [e, h.own]
    · rw [h.other q e]

theorem profile (h : TransactionOnly p s t) (n : ProfileId) : t.profile n = s.profile n := by rw [h.state]; rfl
theorem slot (h : TransactionOnly p s t) (i : SlotId) : t.slot i = s.slot i := by rw [h.state]; rfl
theorem engine (h : TransactionOnly p s t) : t.engine = s.engine := by rw [h.state]
theorem mover (h : TransactionOnly p s t) : t.mover = s.mover := by rw [h.state]

theorem moves (h : TransactionOnly p s t) : (t.port p).moves = (s.port p).moves := by rw [h.own]

end TransactionOnly

end Sys2Proof.Machine

/-! SUPPORT. PORT RESET and the expiry of the keep-alive countdown (O55). -/

namespace Sys2Proof.Machine

/-! ### Slots and profiles after a port reset -/

section
variable (p : Port) (s : State)

theorem freed_slot (i : SlotId) : (freeSlots p (leaveProfiles p (s.wiped p))).slot i
    = if (s.slot i).owner = some p then (s.slot i).free else s.slot i := by
  have left := (leaveProfiles_wiped p s).state
  generalize leaveProfiles p (s.wiped p) = t at left ⊢
  rw [freeSlots_slot, left]
  rfl

theorem freed_gen : (freeSlots p (leaveProfiles p (s.wiped p))).gen = s.gen := by
  have left := (leaveProfiles_wiped p s).state
  generalize leaveProfiles p (s.wiped p) = t at left ⊢
  rw [left]
  rfl

theorem State.givenUp_gen : (s.givenUp p).gen = if s.gen.claim = some p then s.gen.release else s.gen := by
  rw [(s.givenUp_released p).gen, freed_gen]

variable {p s} {i : SlotId}

theorem State.givenUp_slot_owned (h : (s.slot i).owner = some p) : (s.givenUp p).slot i = (s.slot i).free := by
  rw [(s.givenUp_released p).slot, freed_slot, if_pos h]
  split
  · rfl
  · rfl

theorem State.givenUp_slot_other (h : (s.slot i).owner ≠ some p) : (s.givenUp p).slot i
    = if s.gen.claim = some p ∧ (s.slot i).onGenerator = true then { s.slot i with pending := some .silent } else s.slot i := by
  rw [(s.givenUp_released p).slot, freed_slot, if_neg h, freed_gen]

theorem State.givenUp_slot_owner (p : Port) (s : State) (i : SlotId) : ((s.givenUp p).slot i).owner ≠ some p := by
  by_cases h : (s.slot i).owner = some p
  · rw [State.givenUp_slot_owned h]
    exact fun e => nomatch e
  · rw [State.givenUp_slot_other h]
    split
    · exact h
    · exact h

theorem State.givenUp_told {o : Port} (h : (s.slot i).owner ≠ some p) (hc : s.gen.claim = some p)
    (hg : (s.slot i).onGenerator = true) (ho : (s.slot i).owner = some o) :
    ((s.givenUp p).port o).notices.slotSilenced.getLsbD i.val = true := by
  have hs : (freeSlots p (leaveProfiles p (s.wiped p))).slot i = s.slot i := (freed_slot p s i).trans (if_neg h)
  refine (s.givenUp_released p).told i o ?_ ?_ ?_
  · rw [freed_gen]; exact hc
  · rw [hs]; exact hg
  · rw [hs]; exact ho

end

/-- A failure stays when its record, the engine and the notices do. -/
theorem State.Fails.of_kept {t u : State} {n : ProfileId} {q : Profile} {o : Outcome} (h : t.Fails n q o)
    (record : u.profile n = t.profile n) (engine : u.engine = t.engine)
    (told : ∀ x, (t.port x).notices.adaptDone.getLsbD n.val = true → (u.port x).notices.adaptDone.getLsbD n.val = true) :
    u.Fails n q o := by
  obtain ⟨same, probes, done⟩ := h
  exact ⟨by rw [record]; exact same, by rw [engine]; exact probes, fun x hx => told x (done x hx)⟩

/-! ### A port reset between two ends of a transaction -/

namespace TransactionOnly

variable {p : Port} {s t : State} (h : TransactionOnly p s t)
include h

theorem segmentOf : t.segmentOf p = s.segmentOf p := by
  simp only [State.segmentOf, h.mover, h.moves]

theorem stopBases (m : MoveRecord) : t.stopBases p m = s.stopBases p m := by
  simp only [State.stopBases, State.baseOf, h.windowOf]

theorem stoppedMover : t.stoppedMover p = s.stoppedMover p := by
  simp only [State.stoppedMover, h.segmentOf, h.stopBases, h.mover]

theorem stoppedMoves : t.stoppedMoves p = s.stoppedMoves p := by
  simp only [State.stoppedMoves, h.segmentOf]

end TransactionOnly

/-- From s to t port p is reset, between changes of its transaction and its replies. -/
structure ResetsPort (p : Port) (s r t : State) : Prop where
  before   : TransactionOnly p s r
  after    : TransactionOnly p (portReset p r) t
  occurred : (t.port p).resetOccurred = true

namespace ResetsPort

variable {p : Port} {s r t : State} (h : ResetsPort p s r t)
include h

theorem port : t.port p = { (s.port p).wiped (s.stoppedMoves p) with
    keepPeriod := 0, spi := (t.port p).spi, replies := (t.port p).replies, overrun := (t.port p).overrun
    resetOccurred := (t.port p).resetOccurred, countdown := (t.port p).countdown } := by
  rw [h.after.own, portReset_port, h.before.own, h.before.stoppedMoves]
  rfl

theorem port_ne {q : Port} (hq : q ≠ p) : t.port q = { s.port q with notices := (t.port q).notices } := by
  rw [h.after.other q hq, portReset_port_ne p r hq, State.givenUp_port_ne p r hq, h.before.other q hq]

theorem notices (q : Port) : (t.port q).notices = ((r.givenUp p).port q).notices :=
  (h.after.notices q).trans (portReset_notices p r q)

/-- But for the ports, the state is that of the reset. -/
theorem state : t = { r.givenUp p with ports := t.ports } := by
  rw [h.after.state, portReset_state]

theorem frame : t = { s with
    profiles := (leaveProfiles p (r.wiped p)).profiles, engine := (leaveProfiles p (r.wiped p)).engine
    mover := s.stoppedMover p, shared := s.disowned p, slots := (r.givenUp p).slots, ports := t.ports
    gen := (r.givenUp p).gen, checkers := (r.givenUp p).checkers } := by
  have e := h.state
  rw [State.givenUp_state, h.before.stoppedMover] at e
  have shared : r.disowned p = s.disowned p := by rw [h.before.state]; rfl
  rw [e, shared, h.before.state]

theorem profile (n : ProfileId) : t.profile n = (leaveProfiles p (r.wiped p)).profile n := by
  have e := h.frame
  generalize leaveProfiles p (r.wiped p) = w at e ⊢
  rw [e]
  rfl

theorem engine : t.engine = (leaveProfiles p (r.wiped p)).engine := by rw [h.frame]

theorem slot (i : SlotId) : t.slot i = (r.givenUp p).slot i := by
  have e := h.state
  generalize r.givenUp p = v at e ⊢
  rw [e]
  rfl

theorem gen : t.gen = (r.givenUp p).gen := by rw [h.frame]

theorem source_gen : r.gen = s.gen := by rw [h.before.state]

theorem jobPass : t.engine.jobPass = (discardPass p s.engine).jobPass := by
  rw [h.engine, (leaveProfiles_wiped p r).engine, ← h.before.engine]
  rfl

/-- A notice that leaving the profiles has set is there at the end. -/
theorem kept {g : Notices → Bool} {j : Notice} (hg : Notices.SetBy g j) (q : Port)
    (hq : g ((leaveProfiles p (r.wiped p)).port q).notices = true) : g (t.port q).notices = true := by
  rw [h.notices]
  exact (r.givenUp_adds p).kept hg hq

theorem wiped_profile (n : ProfileId) : (r.wiped p).profile n = s.profile n := h.before.profile n

theorem profile_of_unled {n : ProfileId} (hl : (s.profile n).leader ≠ some p) : t.profile n = (s.profile n).left p := by
  rw [h.profile, leaveProfiles_of_unled (by rw [h.wiped_profile]; exact hl), h.wiped_profile]

theorem leadLost {n : ProfileId} (hm : (s.profile n).MembersSound) (hl : (s.profile n).leader = some p) :
    LeadLost n (s.profile n) t := by
  rw [← h.wiped_profile] at hm hl ⊢
  have lost := leaveProfiles_lost hm hl
  have record := h.profile n
  have kept := h.kept (Notices.setBy_leaderless n)
  generalize leaveProfiles p (r.wiped p) = w at lost record kept
  exact lost.later record kept

theorem fails {n : ProfileId} (hm : (s.profile n).MembersSound) (hl : (s.profile n).leader = some p)
    (ha : (s.profile n).adapt.Ends) (hc : s.ProbeCounted n) : t.Fails n { s.profile n with leader := none } .aborted := by
  have hcw : (r.wiped p).ProbeCounted n := hc.of_eq (by
    rw [← h.before.engine]
    exact congrArg (List.filter _) (KeepsTable.discardPass_queues p r.engine).2) (h.wiped_profile n)
  rw [← h.wiped_profile] at hm hl ha ⊢
  have fails := leaveProfiles_fails hm hl ha hcw
  have record := h.profile n
  have engine := h.engine
  have kept := h.kept (Notices.setBy_adaptDone n)
  generalize leaveProfiles p (r.wiped p) = w at fails record engine kept
  exact fails.of_kept record engine kept

/-- The port leads no profile and follows none. -/
theorem membership {n : ProfileId} (hm : (s.profile n).MembersSound) :
    (t.profile n).leader ≠ some p ∧ (t.profile n).followers.getLsbD p.val = false := by
  by_cases hl : (s.profile n).leader = some p
  · have e := (h.leadLost hm hl).record
    generalize t.profile n = u at e ⊢
    have leader : u.leader = none := (congrArg Profile.leader e :)
    have followers : u.followers = (s.profile n).followers := (congrArg Profile.followers e :)
    rw [leader, followers]
    exact ⟨fun g => (nomatch g), hm.2 p hl⟩
  · rw [h.profile_of_unled hl]
    exact ⟨hl, KeepsTable.getLsbD_eraseBit_same _ p⟩

theorem move_cases (k : Fin 4) : (t.port p).moves.get k = none
    ∨ ∃ g, s.mover.segment = some g ∧ g.port = p ∧ g.record = k := by
  rw [h.port]
  refine (s.stoppedMoves_cases p k).imp_right ?_
  rintro ⟨g, m, hs, hk⟩
  obtain ⟨hg, hp, -⟩ := State.segmentOf_eq_some.mp hs
  exact ⟨g, hg, hp, hk⟩

theorem mover : t.mover = s.stoppedMover p := by rw [h.frame]

theorem segment {g : Segment} {m : MoveRecord} (hs : s.segmentOf p = some (g, m)) (hg : g.stopped = none) :
    (t.port p).moves.get g.record = some m
    ∧ t.mover = ⟨some { g with stopped := some (s.stopBases p m) }, s.mover.pointer⟩ := by
  refine ⟨?_, ?_⟩
  · rw [h.port]
    show (s.stoppedMoves p).get g.record = _
    rw [State.stoppedMoves_of_segment hs, vset_get_same]
  · rw [h.mover, State.stoppedMover_of_segment hs, hg]
    rfl

theorem unreferenced (hm : s.MembersSound) (k : Fin 8) : t.referenced (.priv p k) = false := by
  refine State.referenced_priv ?_ (fun j => ?_) (fun n => (h.membership (hm n)).1) k
  · rw [h.port]; rfl
  · rw [h.mover, h.port]
    exact s.stoppedMoves_stopped p j

theorem slot_owner (i : SlotId) : (t.slot i).owner ≠ some p := by
  rw [h.slot]
  exact State.givenUp_slot_owner p r i

theorem slot_owned {i : SlotId} (ho : (s.slot i).owner = some p) : t.slot i = (s.slot i).free := by
  rw [← h.before.slot] at ho ⊢
  exact (h.slot i).trans (State.givenUp_slot_owned ho)

theorem slot_silenced {i : SlotId} (ho : (s.slot i).owner ≠ some p) (hc : s.gen.claim = some p)
    (hg : (s.slot i).source = .generator ∨ (s.slot i).pending = some .generator) :
    t.slot i = { s.slot i with pending := some .silent }
    ∧ ∀ o, (s.slot i).owner = some o → (t.port o).notices.slotSilenced.getLsbD i.val = true := by
  rw [← h.before.slot, ← h.source_gen] at *
  have on := Slot.onGenerator_iff.mpr hg
  refine ⟨(h.slot i).trans ((State.givenUp_slot_other ho).trans (if_pos ⟨hc, on⟩)), fun o e => ?_⟩
  rw [h.notices]
  exact State.givenUp_told ho hc on e

theorem slot_kept {i : SlotId} (ho : (s.slot i).owner ≠ some p)
    (hn : s.gen.claim ≠ some p ∨ (s.slot i).source ≠ .generator ∧ (s.slot i).pending ≠ some .generator) :
    t.slot i = s.slot i := by
  rw [← h.before.slot, ← h.source_gen] at *
  refine (h.slot i).trans ((State.givenUp_slot_other ho).trans (if_neg fun ⟨hc, on⟩ => ?_))
  exact hn.elim (fun g => g hc) fun ⟨hs, hp⟩ => (Slot.onGenerator_iff.mp on).elim hs hp

theorem gen_cases : (s.gen.claim = some p → t.gen = s.gen.release) ∧ (s.gen.claim ≠ some p → t.gen = s.gen) := by
  rw [h.gen, State.givenUp_gen, h.source_gen]
  exact ⟨fun e => if_pos e, fun e => if_neg e⟩

theorem gen_claim : t.gen.claim ≠ some p := by
  by_cases e : s.gen.claim = some p
  · rw [h.gen_cases.1 e]
    exact fun g => nomatch g
  · rw [h.gen_cases.2 e]
    exact e

theorem checker_claim (c : Fin 2) : (t.checker c).claim ≠ some p := by
  have e := h.state
  have given := (r.givenUp_released p).checker c
  generalize r.givenUp p = v at e given
  exact (congrArg (fun x => (State.checker x c).claim ≠ some p) e).mpr given

theorem shared_creator {k : Fin 16} {v : SharedWindow} (hv : t.shared.get k = some v) : v.creator ≠ some p := by
  have e : t.shared = s.disowned p := by rw [h.frame]
  rw [e] at hv
  exact State.disowned_creator hv

end ResetsPort

theorem Generator.release_running (g : Generator) : g.release.running = false := rfl

/-- Settles O55, by the steps of R185 one after another. -/
theorem portResetClearsPort : Obligations.PortResetClearsPort := by
  unfold Obligations.PortResetClearsPort
  intro cleared
  have clears {s r t : State} {p : Port} (h : ResetsPort p s r t) (hm : s.MembersSound) : cleared s t p := by
    have own := h.port
    refine ⟨?_, ?_, ?_, ?_, fun k => ?_, ?_, ?_, h.occurred, fun j hj => ?_, h.move_cases, fun g m hg hp hs hmv => ?_,
      fun g hg hp => ?_, h.unreferenced hm, fun n => h.membership (hm n), fun n hl => h.profile_of_unled hl,
      fun n hl => ?_, fun i => ⟨h.slot_owner i, h.slot_owned, h.slot_silenced, h.slot_kept⟩, h.gen_claim, fun hc => ?_,
      h.checker_claim, fun k v => h.shared_creator, fun q hq => ?_, ?_, ?_⟩
    · rw [own]; rfl
    · rw [own]; rfl
    · rw [own]; rfl
    · rw [own]; rfl
    · rw [own]; exact get_replicate _ k
    · rw [own]; rfl
    · rw [own]
    · exact discardPass_port (h.jobPass.symm.trans hj)
    · have seg := State.segmentOf_eq_some.mpr ⟨hg, hp, hmv⟩
      obtain ⟨moves, mover⟩ := h.segment seg hs
      exact ⟨moves, _, mover, fun w => State.stopBases_target, fun nm o w => State.stopBases_source⟩
    · exact h.mover.trans (State.stoppedMover_of_other hg hp)
    · have lost := h.leadLost (hm n) hl
      exact ⟨lost.record, lost.told, fun ha hc => h.fails (hm n) hl ha (hc.probeCounted n), lost.committing, lost.idle⟩
    · rw [h.gen_cases.1 hc]; exact s.gen.release_running
    · rw [h.port_ne hq]; exact ⟨rfl, rfl, rfl, rfl, rfl⟩
    · rw [h.frame]
    · rw [h.frame]
  refine ⟨fun s f h hm => ?command, fun s p n hk hc hm => ?expiry⟩
  case command =>
    have run : ResetsPort f.port s (receive f s) ((portReset f.port (receive f s)).reply f.port 0x73 f.tag (.ok, [])) := by
      refine ⟨.receive f s, .modPort f.port _ fun _ => rfl, ?_⟩
      rw [State.port_reply, if_pos rfl, portReset_port]
    refine ⟨_, finish_command h rfl rfl rfl, clears run hm, ?_, ?_⟩
    · rw [State.port_reply, if_pos rfl, portReset_port]
      rfl
    · rw [State.port_reply, if_pos rfl, portReset_port]
      rfl
  case expiry =>
    have expired : (s.port p).expired = true := by
      rw [PortState.expired, hc]
      simpa using hk
    have run : ResetsPort p s s ((portReset p s).modPort p fun ps => { ps with spi := ps.spi.map fun t => t.cut n }) := by
      refine ⟨.refl p s, .modPort p _ fun _ => rfl, ?_⟩
      rw [State.port_modPort_same, portReset_port]
    have exec_eq : exec (.keepaliveExpiry p n) s
        = .next ((portReset p s).modPort p fun ps => { ps with spi := ps.spi.map fun t => t.cut n }) := by
      show execKeepaliveExpiry p n s = _
      rw [execKeepaliveExpiry, if_pos expired, finish]
    refine ⟨_, exec_eq, clears run hm, ?_, ?_, fun x hx => ⟨x.cut n, ?_, rfl, rfl, rfl⟩⟩
    · rw [State.port_modPort_same, portReset_port]; rfl
    · rw [State.port_modPort_same, portReset_port]; rfl
    · rw [State.port_modPort_same, portReset_port]
      show Option.map _ (s.port p).spi = _
      rw [hx]
      rfl

end Sys2Proof.Machine

/-! SUPPORT. The slot commands (O32). -/

namespace Sys2Proof.Machine

/-! ### Slot sources (R48) -/

theorem source?_sourceWords (src : Source) (w : Word) :
    source? (arg (w :: sourceWords src) 1) (arg (w :: sourceWords src) 2) = some src := by
  cases src with
  | silent => rfl
  | generator => rfl
  | dry c => exact congrArg (Option.map Source.dry) (fin?_finWord (by decide) c)
  | profile n => exact congrArg (Option.map Source.profile) (fin?_finWord (by decide) n)

theorem source?_none {kind number : Word}
    (h : 3 < kind.toNat ∨ (kind = 1 ∧ 15 < number.toNat) ∨ (kind = 2 ∧ 31 < number.toNat)) : source? kind number = none := by
  rcases h with h | ⟨rfl, h⟩ | ⟨rfl, h⟩
  · have code (c : Word) (hc : c.toNat ≤ 3) : kind ≠ c := fun e => absurd h (by rw [e]; omega)
    rw [source?, if_neg (code 0 (by decide)), if_neg (code 1 (by decide)), if_neg (code 2 (by decide)),
      if_neg (code 3 (by decide))]
  · exact congrArg (Option.map Source.dry) (fin?_none (n := 16) h)
  · exact congrArg (Option.map Source.profile) (fin?_none (n := 32) h)

theorem Profile.member_iff {r : Profile} {p : Port} : r.member p = true ↔ r.leader = some p ∨ r.followers.getLsbD p.val = true := by
  simp [Profile.member]

/-! ### What each slot command answers (R46 to R49, R58) -/

section
variable {s : State} {p : Port} {pl : List Word} {i : SlotId} {t : Slot}

theorem ownerCommand_of_other {k : SlotId → State × Answer} (h : arg pl 0 = finWord i) (ho : (s.slot i).owner ≠ some p) :
    ownerCommand p pl s k = (s, .notOwner, []) := by
  rw [ownerCommand, slotCommand_of_slot h, if_neg ho]
  rfl

theorem claimSlot_of_free (h : arg pl 0 = finWord i) (ho : (s.slot i).owner = none) :
    claimSlot p pl s = (s.modSlot i fun t => { t with owner := some p, lateCount := 0 }, .ok, []) := by
  rw [claimSlot, slotCommand_of_slot h, ho]

theorem claimSlot_of_owned {q : Port} (h : arg pl 0 = finWord i) (ho : (s.slot i).owner = some q) :
    claimSlot p pl s = (s, if q = p then (.ok, []) else refuse .held) := by
  rw [claimSlot, slotCommand_of_slot h, ho]

theorem freeSlot_of_owner (h : arg pl 0 = finWord i) (ho : (s.slot i).owner = some p) :
    freeSlot p pl s = (s.modSlot i Slot.free, .ok, []) := ownerCommand_of_owner h ho

theorem mute_of_owner {b : Bool} (h : arg pl 0 = finWord i) (hb : arg pl 1 = boolWord b) (ho : (s.slot i).owner = some p) :
    mute p pl s = (s.modSlot i fun t => { t with mute := b }, .ok, []) := by
  rw [mute, ownerCommand_of_owner h ho, hb, flag?_boolWord]

theorem readSlot_of_flag {b : Bool} (h : arg pl 0 = finWord i) (hb : arg pl 1 = boolWord b) (ht : s.slot i = t) :
    readSlot p pl s = if b = false then (s, .ok, slotWords t)
      else if t.owner = some p then (s.modSlot i fun t => { t with lateCount := 0 }, .ok, slotWords t)
      else (s, .notOwner, []) := by
  rw [readSlot, slotCommand_of_slot h, hb, flag?_boolWord, ht]
  cases b <;> rfl

theorem route_of_range (h : arg pl 0 = finWord i) (ho : (s.slot i).owner = some p)
    (hs : source? (arg pl 1) (arg pl 2) = none) : route p pl s = (s, .badValue, []) := by
  rw [route, ownerCommand_of_owner h ho, hs]
  rfl

theorem route_of_routed {src : Source} (ho : (s.slot i).owner = some p) (hr : s.routeRefusal p src = none) :
    route p (finWord i :: sourceWords src) s = (s.modSlot i fun t => { t with pending := some src }, .ok, []) := by
  rw [route, ownerCommand_of_owner rfl ho, source?_sourceWords]
  dsimp only
  rw [hr]

theorem route_of_refused {src : Source} {st : Status} (ho : (s.slot i).owner = some p)
    (hr : s.routeRefusal p src = some st) : route p (finWord i :: sourceWords src) s = (s, st, []) := by
  rw [route, ownerCommand_of_owner rfl ho, source?_sourceWords]
  dsimp only
  rw [hr]
  rfl

end

theorem receive_routeRefusal (f : Frame) (s : State) (p : Port) (src : Source) :
    (receive f s).routeRefusal p src = s.routeRefusal p src := by
  cases src <;> simp only [State.routeRefusal, receive_profile, receive_gen]

/-- What a port may route to: a dry channel, its own generator, or a BOUND profile of which it is a member (R48). -/
theorem State.routeRefusal_profile (s : State) (p : Port) (n : ProfileId) : s.routeRefusal p (.profile n)
    = if (s.profile n).state ≠ .bound then some .noSuch
      else if (s.profile n).leader = some p ∨ (s.profile n).followers.getLsbD p.val = true then none
      else some .notLeader := by
  rw [State.routeRefusal]
  exact if_congr Iff.rfl rfl (if_congr Profile.member_iff rfl rfl)

section
variable {s : State} {f : Frame} {i : SlotId} {src : Source} (h : s.Takes f (finWord i :: sourceWords src))
  (ho : (s.slot i).owner = some f.port)
include h ho

/-- ROUTE by the owner to a source that passes the checks. -/
theorem exec_route_routed (hr : s.routeRefusal f.port src = none) : exec (.route f) s = .next
    (((receive f s).modSlot i fun t => { t with pending := some src }).reply f.port 0x22 f.tag (.ok, [])) := by
  refine finish_command h rfl (by cases src <;> rfl) (route_of_routed ?_ ?_)
  · rw [receive_slot]; exact ho
  · rw [receive_routeRefusal]; exact hr

theorem exec_route_refused {st : Status} (hr : s.routeRefusal f.port src = some st) :
    exec (.route f) s = .next ((receive f s).reply f.port 0x22 f.tag (st, [])) := by
  refine finish_command h rfl (by cases src <;> rfl) (route_of_refused ?_ ?_)
  · rw [receive_slot]; exact ho
  · rw [receive_routeRefusal]; exact hr

end

/-- Settles O32, command by command: the owner check, then what the owner's command sets. -/
theorem slotCommandsByOwner : Obligations.SlotCommandsByOwner := by
  unfold Obligations.SlotCommandsByOwner
  refine ⟨fun s f i h => ?claimFree, fun s f i b h => ?muteRead, fun s f i kind number h => ?range, fun s f i src h => ?route⟩
  all_goals have slot : (receive f s).slot i = s.slot i := receive_slot f s i
  case claimFree =>
    refine ⟨fun ho => finish_command h rfl rfl ?_, fun ho => finish_command h rfl rfl ?_,
      fun p ho hp => finish_command h rfl rfl ?_, fun ho => finish_command h rfl rfl ?_,
      fun ho => finish_command h rfl rfl ?_⟩
    · exact claimSlot_of_free rfl (slot ▸ ho)
    · exact (claimSlot_of_owned rfl (slot ▸ ho)).trans (congrArg _ (if_pos rfl))
    · exact (claimSlot_of_owned rfl (slot ▸ ho)).trans (congrArg _ (if_neg hp))
    · exact freeSlot_of_owner rfl (slot ▸ ho)
    · exact ownerCommand_of_other rfl (slot ▸ ho)
  case muteRead =>
    have read := readSlot_of_flag (p := f.port) (pl := [finWord i, boolWord b]) rfl rfl slot
    refine ⟨fun ho => finish_command h rfl rfl ?_, fun ho => finish_command h rfl rfl ?_,
      fun hb => finish_command h rfl rfl (read.trans (if_pos hb)), fun hb ho => finish_command h rfl rfl (read.trans ?_),
      fun hb ho => finish_command h rfl rfl (read.trans ?_)⟩
    · exact mute_of_owner rfl rfl (slot ▸ ho)
    · exact ownerCommand_of_other rfl (slot ▸ ho)
    · rw [if_neg (by rw [hb]; nofun), if_pos ho]
      rfl
    · rw [if_neg (by rw [hb]; nofun), if_neg ho]
  case range =>
    refine ⟨fun ho => finish_command h rfl rfl ?_, fun ho hr => finish_command h rfl rfl ?_⟩
    · exact ownerCommand_of_other rfl (slot ▸ ho)
    · exact route_of_range rfl (slot ▸ ho) (source?_none hr)
  case route =>
    refine ⟨fun ho => finish_command h rfl (by cases src <;> rfl) ?_, fun ho => ?_⟩
    · exact ownerCommand_of_other rfl (slot ▸ ho)
    refine ⟨?_, ?_, ?_, ?_, ?_⟩
    · rintro rfl
      exact exec_route_routed h ho rfl
    · rintro c rfl
      exact exec_route_routed h ho rfl
    · rintro rfl hc
      exact exec_route_routed h ho (if_pos hc)
    · rintro rfl hc
      exact exec_route_refused h ho (if_neg hc)
    · rintro n rfl
      have refusal := s.routeRefusal_profile f.port n
      refine ⟨fun hb => exec_route_refused h ho (refusal.trans (if_pos hb)), fun hb => ?_⟩
      rw [if_neg (not_not.mpr hb)] at refusal
      refine ⟨fun hm => exec_route_routed h ho (refusal.trans (if_pos hm)), fun hl hf => ?_⟩
      refine exec_route_refused h ho (refusal.trans (if_neg ?_))
      exact not_or.mpr ⟨hl, ne_true_of_eq_false hf⟩

end Sys2Proof.Machine

/-! SUPPORT. SET GENERATOR and RELEASE GENERATOR (O46). -/

namespace Sys2Proof.Machine

/-! ### Field lists of optional fields (R189) -/

section
variable {α β : Type} {size : Nat → List Word → Nat} {f : Nat → List Word → α → Option α} {fs : List (Nat × List Word)}

/-- The words of a field list are cut into the fields that gave them. -/
theorem cutFields_flatMap (h : ∀ x ∈ fs, ∀ ws, size x.1 (x.2 ++ ws) = x.2.length) :
    cutFields size (fs.map Prod.fst) (fs.flatMap Prod.snd) = fs := by
  induction fs with
  | nil => rfl
  | cons x fs ih =>
    rw [List.map_cons, List.flatMap_cons, cutFields, h x List.mem_cons_self, List.take_left, List.drop_left,
      ih fun y hy => h y (List.mem_cons_of_mem _ hy)]

theorem applyFields_append (gs : List (Nat × List Word)) : ∀ a,
    applyFields f (fs ++ gs) a = (applyFields f fs a).bind (applyFields f gs) := by
  induction fs with
  | nil => exact fun _ => rfl
  | cons x fs ih =>
    intro a
    simp only [List.cons_append, applyFields, Option.bind_assoc, ih]

/-- A list with a field that no record takes is refused. -/
theorem applyFields_none {x : Nat × List Word} (hx : x ∈ fs) (h : ∀ a, f x.1 x.2 a = none) : ∀ a, applyFields f fs a = none := by
  obtain ⟨pre, post, rfl⟩ := List.append_of_mem hx
  intro a
  simp only [applyFields_append, applyFields, h, Option.bind_none, Option.bind_fun_none]

/-- The field of an optional value: without the value it is not listed, and the record stays. -/
theorem applyFields_optional {i : Nat} {words : β → List Word} {act : Option β → α → α} (h0 : ∀ a, act none a = a)
    (h : ∀ b a, f i (words b) a = some (act (some b) a)) (v : Option β) (a : α) :
    applyFields f (v.toList.map fun b => (i, words b)) a = some (act v a) := by
  cases v with
  | none => exact congrArg some (h0 a).symm
  | some b => simp [applyFields, h]

end

/-! ### The fields of SET GENERATOR (R166) -/

theorem patternKind?_word (k : PatternKind) : patternKind? k.word = some k := by cases k <;> rfl

theorem patternKind?_none {w : Word} (h : 4 < w.toNat) : patternKind? w = none := by
  unfold patternKind?
  split
  case h_6 => rfl
  all_goals omega

theorem pattern?_toList (v : Vector Sample 16) : pattern? v.toList = some v := by
  rw [pattern?, dif_pos v.length_toList]
  rfl

/-- The fields of a SET GENERATOR frame that lists these values. -/
def generatorFields (kind level : Option Word) (pattern : Option (Vector Sample 16)) (inversion run : Option Word) :
    List (Nat × List Word) :=
  (kind.toList.map fun w => (0, [w])) ++ (level.toList.map fun w => (1, [w])) ++ (pattern.toList.map fun v => (2, v.toList))
    ++ (inversion.toList.map fun w => (3, [w])) ++ run.toList.map fun w => (4, [w])

/-- The payload of a SET GENERATOR frame that lists these values. -/
def generatorPayload (kind level : Option Word) (pattern : Option (Vector Sample 16)) (inversion run : Option Word) : List Word :=
  natWord (boolNat kind.isSome + 2 * boolNat level.isSome + 4 * boolNat pattern.isSome + 8 * boolNat inversion.isSome
      + 16 * boolNat run.isSome)
    :: (kind.toList ++ level.toList ++ pattern.toList.flatMap Vector.toList ++ inversion.toList ++ run.toList)

/-- The select word of a payload picks the fields listed. -/
theorem selected_generator : ∀ a b c d e : Bool,
    selected 5 (natWord (boolNat a + 2 * boolNat b + 4 * boolNat c + 8 * boolNat d + 16 * boolNat e)).toNat
      = (if a then [0] else []) ++ (if b then [1] else []) ++ (if c then [2] else []) ++ (if d then [3] else [])
        ++ if e then [4] else [] := by
  decide

theorem map_fst_optional {β : Type} (i : Nat) (words : β → List Word) (v : Option β) :
    (v.toList.map fun b => (i, words b)).map Prod.fst = if v.isSome then [i] else [] := by cases v <;> rfl

theorem flatMap_snd_optional {β : Type} (i : Nat) (words : β → List Word) (v : Option β) :
    (v.toList.map fun b => (i, words b)).flatMap Prod.snd = v.toList.flatMap words := by cases v <;> simp

section
variable (kind level : Option Word) (pattern : Option (Vector Sample 16)) (inversion run : Option Word) (g : Generator)

theorem generatorFields_size : ∀ x ∈ generatorFields kind level pattern inversion run, ∀ ws : List Word,
    generatorFieldSize x.1 (x.2 ++ ws) = x.2.length := by
  intro x hx ws
  simp only [generatorFields, List.mem_append, List.mem_map] at hx
  rcases hx with (((⟨w, -, rfl⟩ | ⟨w, -, rfl⟩) | ⟨v, -, rfl⟩) | ⟨w, -, rfl⟩) | ⟨w, -, rfl⟩
  case inl.inl.inr => exact v.length_toList.symm
  all_goals rfl

/-- A payload is cut into the fields it lists. -/
theorem generatorOf_payload : generatorOf (generatorPayload kind level pattern inversion run) g
    = applyFields generatorField (generatorFields kind level pattern inversion run) (g, none) := by
  have index : selected 5 (arg (generatorPayload kind level pattern inversion run) 0).toNat
      = (generatorFields kind level pattern inversion run).map Prod.fst := by
    simp only [generatorFields, List.map_append, map_fst_optional]
    exact selected_generator _ _ _ _ _
  have values : (generatorPayload kind level pattern inversion run).drop 1
      = (generatorFields kind level pattern inversion run).flatMap Prod.snd := by
    simp only [generatorFields, List.flatMap_append, flatMap_snd_optional, List.flatMap_singleton']
    rfl
  rw [generatorOf, index, values, cutFields_flatMap (generatorFields_size kind level pattern inversion run)]

variable {kind level pattern inversion run}

/-- A value out of its range refuses the whole list. -/
theorem generatorOf_of_range (h : (∃ w ∈ kind, 4 < w.toNat) ∨ (∃ w ∈ level, 15 < w.toNat) ∨ (∃ w ∈ inversion, 1 < w.toNat)
    ∨ (∃ w ∈ run, 1 < w.toNat)) : generatorOf (generatorPayload kind level pattern inversion run) g = none := by
  rw [generatorOf_payload]
  have listed {i : Nat} {w : Word} (hx : (i, [w]) ∈ generatorFields kind level pattern inversion run)
      (hw : ∀ r, generatorField i [w] r = none) := applyFields_none hx hw (g, none)
  rcases h with ⟨w, rfl, h⟩ | ⟨w, rfl, h⟩ | ⟨w, rfl, h⟩ | ⟨w, rfl, h⟩
  · exact listed (i := 0) (w := w) (by simp [generatorFields]) fun r => by simp [generatorField, patternKind?_none h]
  · exact listed (i := 1) (w := w) (by simp [generatorFields]) fun r => by simp [generatorField, fin?_none (n := 16) h]
  · exact listed (i := 3) (w := w) (by simp [generatorFields]) fun r => by simp [generatorField, flag?_none h]
  · exact listed (i := 4) (w := w) (by simp [generatorFields]) fun r => by simp [generatorField, flag?_none h]

end

/-- The settings that a SET GENERATOR frame lists, the others being kept. -/
def Generator.listed (g : Generator) (kind : Option PatternKind) (level : Option (Fin 16)) (pattern : Option (Vector Sample 16))
    (inversion : Option Bool) : Generator := { g with
  kind := kind.getD g.kind, level := level.getD g.level, pattern := pattern.getD g.pattern
  inversion := inversion.getD g.inversion }

/-- Values in range are taken field by field. -/
theorem generatorOf_listed (kind : Option PatternKind) (level : Option (Fin 16)) (pattern : Option (Vector Sample 16))
    (inversion run : Option Bool) (g : Generator) :
    generatorOf (generatorPayload (kind.map PatternKind.word) (level.map finWord) pattern (inversion.map boolWord)
      (run.map fun go => boolWord !go)) g = some (g.listed kind level pattern inversion, run) := by
  have hkind := applyFields_optional (f := generatorField) (i := 0) (words := fun k : PatternKind => [k.word])
    (act := fun v r => ({ r.1 with kind := v.getD r.1.kind }, r.2)) (fun _ => rfl)
    fun k r => by simp [generatorField, patternKind?_word]
  have hlevel := applyFields_optional (f := generatorField) (i := 1) (words := fun x : Fin 16 => [finWord x])
    (act := fun v r => ({ r.1 with level := v.getD r.1.level }, r.2)) (fun _ => rfl)
    fun x r => by simp [generatorField, fin?_finWord (show 16 ≤ 65536 by decide)]
  have hpattern := applyFields_optional (f := generatorField) (i := 2) (words := Vector.toList)
    (act := fun v r => ({ r.1 with pattern := v.getD r.1.pattern }, r.2)) (fun _ => rfl)
    fun v r => by simp [generatorField, pattern?_toList]
  have hinversion := applyFields_optional (f := generatorField) (i := 3) (words := fun b : Bool => [boolWord b])
    (act := fun v r => ({ r.1 with inversion := v.getD r.1.inversion }, r.2)) (fun _ => rfl)
    fun b r => by simp [generatorField, flag?_boolWord]
  have hrun := applyFields_optional (f := generatorField) (i := 4) (words := fun go : Bool => [boolWord !go])
    (act := fun v r => (r.1, v.or r.2)) (fun _ => rfl) fun go r => by simp [generatorField, flag?_boolWord]
  rw [generatorOf_payload]
  simp only [generatorFields, Option.toList_map, List.map_map, Function.comp_def, applyFields_append, hkind, hlevel, hpattern,
    hinversion, hrun, Option.bind_some, Option.or_none]
  rfl

/-! ### What SET GENERATOR makes of the generator (R166, R169) -/

section
variable {g set : Generator}

/-- Seeding by kind (R167, R168); USER keeps the register (log 27). -/
theorem Generator.seed_eq (g : Generator) : g.seed = { g with
    userPosition := 0, oddRepetition := false
    register := match g.kind with
      | .n7 => 0x7F | .n11 => 0x7FF | .n15 => 0x7FFF | .n23 => 0x7FFFFF | .user => g.register } := by
  unfold Generator.seed
  cases g.kind <;> rfl

/-- The settings as they act before the run field: a new kind while RUNNING restarts the sequence (R166). -/
def Generator.restarted (g set : Generator) : Generator := if g.running = true ∧ set.kind ≠ g.kind then set.seed else set

theorem Generator.restarted_running (h : set.running = g.running) : (g.restarted set).running = g.running := by
  unfold Generator.restarted
  split <;> exact h

/-- The run field acts on the settings: RUN while OFF starts, STOP while RUNNING stops (R169). -/
theorem Generator.settle_eq (h : set.running = g.running) (run : Option Bool) : g.settle set run =
    match run with
    | none => g.restarted set
    | some true => if g.running then g.restarted set else (g.restarted set).start
    | some false => if g.running then (g.restarted set).stop else g.restarted set := by
  have hrestarted : (if g.running && set.kind != g.kind then set.seed else set) = g.restarted set :=
    if_congr (by simp) rfl rfl
  unfold Generator.settle
  rw [hrestarted]
  dsimp only
  rw [Generator.restarted_running h]
  rcases run with _ | _ | _ <;> rfl

end

/-! ### What the two commands answer (R56, R166, R171) -/

section
variable {s : State} {p : Port} {pl : List Word}

theorem setGenerator_of_other (h : s.gen.claim ≠ some p) : setGenerator p pl s = (s, .notOwner, []) := if_pos h

theorem setGenerator_of_range (h : s.gen.claim = some p) (hr : generatorOf pl s.gen = none) :
    setGenerator p pl s = (s, .badValue, []) := by
  rw [setGenerator, if_neg (not_not.mpr h), hr]
  rfl

theorem setGenerator_of_fits {set : Generator} {run : Option Bool} (h : s.gen.claim = some p)
    (hr : generatorOf pl s.gen = some (set, run)) : setGenerator p pl s
      = ({ s with gen := s.gen.settle set run }, .ok, generatorWords (s.gen.settle set run)) := by
  rw [setGenerator, if_neg (not_not.mpr h), hr]

/-- RELEASE GENERATOR by the holder: the generator is released and the slots on it fall silent, and nothing else changes. -/
theorem releaseGenerator_of_holder (h : s.gen.claim = some p) (pl : List Word) :
    ∃ t, releaseGenerator p pl s = (t, .ok, []) ∧ SilenceOnly { s with gen := s.gen.release } t
      ∧ (∀ i, t.slot i = if (s.slot i).onGenerator then { s.slot i with pending := some .silent } else s.slot i)
      ∧ ∀ i o, (s.slot i).onGenerator = true → (s.slot i).owner = some o →
        (t.port o).notices.slotSilenced.getLsbD i.val = true := by
  obtain ⟨t, ht, only, slot, told⟩ := silenceGeneratorSlots_eq { s with gen := s.gen.release }
  exact ⟨t, by rw [releaseGenerator, if_pos h, dropGenerator, ht], only, slot, told⟩

end

/-- Settles O46: the fields of the list act one by one, then the run field; the release is a walk over the slots. -/
theorem generatorSetAndReleased : Obligations.GeneratorSetAndReleased := by
  unfold Obligations.GeneratorSetAndReleased
  refine ⟨fun s f pl h hf => ?set, fun s f h => ?release⟩
  all_goals have gen : (receive f s).gen = s.gen := receive_gen f s
  case set =>
    intro r answer seeded
    refine ⟨fun ho => finish_command h rfl hf (setGenerator_of_other (gen ▸ ho)), fun ho => ?_⟩
    have seeded_eq (g : Generator) : seeded g g.kind = g.seed := (Generator.seed_eq g).symm
    have holder : r.gen.claim = some f.port := gen ▸ ho
    refine ⟨?listed, ?range⟩
    case listed =>
      rintro kind level pattern inversion run hpl listed set
      have fields : generatorOf pl r.gen = some (listed, run) := by
        rw [hpl, gen]
        refine Eq.trans ?_ (generatorOf_listed kind level pattern inversion run s.gen)
        simp only [generatorPayload, Option.isSome_map, Option.toList_map]
      have restarted : s.gen.restarted listed = set := if_congr Iff.rfl (seeded_eq listed).symm rfl
      have settled : answer (r.gen.settle listed run) := finish_command h rfl hf (setGenerator_of_fits holder fields)
      refine (congrArg answer ?_).mp settled
      rw [gen, Generator.settle_eq (show listed.running = s.gen.running from rfl), restarted]
      rcases run with _ | _ | _
      · rfl
      · rfl
      · refine if_congr Iff.rfl rfl ?_
        exact congrArg (fun g : Generator => { g with running := true, current := 0 }) (seeded_eq set).symm
    case range =>
      rintro kind level inversion run pattern hpl hr
      refine finish_command h rfl hf (setGenerator_of_range holder ?_)
      rw [hpl]
      exact generatorOf_of_range _ hr
  case release =>
    refine ⟨fun ho => finish_command h rfl rfl (if_neg (gen ▸ ho)), fun ho => ?_⟩
    have holder : (receive f s).gen.claim = some f.port := gen ▸ ho
    obtain ⟨t, ht, only, slot, told⟩ := releaseGenerator_of_holder holder []
    simp only [receive_slot] at slot told
    have state := only.state
    refine ⟨_, finish_command h rfl rfl ht, ?_, ?_, fun i => ⟨fun hg => ⟨?_, fun o ho => ?_⟩, fun hs hp => ?_⟩, ?_, ?_, ?_⟩
    · show t.gen = _
      rw [state, ← gen]
      rfl
    · rw [State.port_reply, if_pos rfl, only.adds.port]
      rfl
    · exact (slot i).trans (if_pos (Slot.onGenerator_iff.mpr hg))
    · rw [State.port_reply]
      have bit := told i o (Slot.onGenerator_iff.mpr hg) ho
      split
      · next e => exact e ▸ bit
      · exact bit
    · exact (slot i).trans (if_neg fun hg => (Slot.onGenerator_iff.mp hg).elim hs hp)
    · show t.profiles = _
      rw [state]
      exact receive_profiles f s
    · show t.engine = _
      rw [state]
      exact receive_engine f s
    · show t.mem = _
      rw [state]
      exact receive_mem f s

end Sys2Proof.Machine

/-! SUPPORT. The slot map at a block event (O7). -/

namespace Sys2Proof.Machine

/-! ### The entry of one block in an output ring, as a block event leaves it (R36, R41) -/

/-- From p to q the entry of block j keeps its generation, and its state but for an expiry. -/
structure EntryAged (j : Block) (p q : Profile) : Prop where
  state      : q.entryState j = p.entryState j ∨ (p.entryState j = .pending ∧ q.entryState j = .expired)
  generation : (q.ring.get (ringIndex j)).generation = (p.ring.get (ringIndex j)).generation

namespace EntryAged

variable {j : Block} {p q r : Profile}

theorem of_entry (h : q.ring.get (ringIndex j) = p.ring.get (ringIndex j)) : EntryAged j p q :=
  ⟨.inl (by rw [Profile.entryState, h]; rfl), by rw [h]⟩

theorem of_ring (h : q.ring = p.ring) : EntryAged j p q := of_entry (by rw [h])

theorem trans (a : EntryAged j p q) (b : EntryAged j q r) : EntryAged j p r := by
  refine ⟨?_, b.generation.trans a.generation⟩
  rcases a.state with ha | ⟨hp, hq⟩ <;> rcases b.state with hb | ⟨hq', hr⟩
  · exact .inl (hb.trans ha)
  · exact .inr ⟨ha ▸ hq', hr⟩
  · exact .inr ⟨hp, hb.trans hq⟩
  · exact absurd (hq.symm.trans hq') (by nofun)

theorem late (h : EntryAged j p q) : (q.entryState j).late = (p.entryState j).late := by
  rcases h.state with h | ⟨hp, hq⟩
  · rw [h]
  · rw [hp, hq]; rfl

theorem eq_of_settled (h : EntryAged j p q) (hp : p.entryState j ≠ .pending) : q.entryState j = p.entryState j :=
  h.state.resolve_right fun hx => hp hx.1

theorem valid (h : EntryAged j p q) : (q.entryState j == .valid) = (p.entryState j == .valid) := by
  rcases h.state with h | ⟨hp, hq⟩
  · rw [h]
  · rw [hp, hq]; rfl

theorem expireBlock (j k : Block) (p : Profile) : EntryAged j p (p.expireBlock k) := by
  by_cases hk : p.entryState k = .pending
  case neg => exact of_ring (Profile.expireBlock_other hk)
  by_cases hi : ringIndex j = ringIndex k
  · have hring : (p.expireBlock k).ring.get (ringIndex j) = { p.ring.get (ringIndex j) with state := .expired } := by
      rw [hi]
      exact Profile.expireBlock_pending hk
    refine ⟨?_, by rw [hring]⟩
    by_cases hj : j = k
    · subst hj
      have hblock : (p.ring.get (ringIndex j)).block = some j := by
        by_contra hn
        rw [Profile.entryState, if_neg hn] at hk
        cases hk
      exact .inr ⟨hk, by rw [Profile.entryState, hring]; exact if_pos hblock⟩
    · have hblock : (p.ring.get (ringIndex j)).block ≠ some j := by
        intro hb
        rw [Profile.entryState, ← hi, hb, if_neg fun e => hj (Option.some.inj e)] at hk
        cases hk
      refine .inl ?_
      rw [Profile.entryState, Profile.entryState, hring]
      exact (if_neg hblock).trans (if_neg hblock).symm
  · refine of_entry ?_
    simp only [Profile.expireBlock]
    split
    · exact vset_get_ne _ _ hi
    · rfl

theorem afterDrop (B : Block) (b : BankId) (h : p.state = .bound) : EntryAged j p (p.afterDrop B b) := by
  have hq : TableOnly B p ((p.setRefs b (p.refs b - 1)).copyIfDue B) := (TableOnly.setRefs B p b _).trans (.copyIfDue B _)
  refine of_ring ?_
  simp only [Profile.afterDrop]
  rw [Profile.retired_of_bound (hq.state.trans h), if_neg Bool.false_ne_true, (Profile.copyIfDue_routes B _).2.1,
    Profile.ring_setRefs]

end EntryAged

/-- A BOUND profile stays so through the expiry stage, and an entry of its ring at most expires. -/
theorem expireRoutes_aged (j k : Block) {s : State} {n : ProfileId} (hb : (s.profile n).state = .bound) :
    EntryAged j (s.profile n) ((expireRoutes k s).profile n) := by
  unfold expireRoutes
  extract_lets due gone e s'
  refine (foldl_relates (P := fun s => (s.profile n).state = .bound)
    (Rel := fun s t => EntryAged j (s.profile n) (t.profile n) ∧ (t.profile n).state = (s.profile n).state)
    (fun _ => ⟨.of_ring rfl, rfl⟩) (fun _ _ _ a b => ⟨a.1.trans b.1, b.2.trans a.2⟩) (fun _ _ a h => a.2.trans h) _ _
    (fun s hb e _ => ?_) s' hb).1
  by_cases he : n = e.profile
  · have hx := (TableOnly.expireBlock s.lane.blockCounter e.block (s.profile n)).state.trans hb
    rw [← he, routeExpired_profile]
    exact ⟨(EntryAged.expireBlock j e.block _).trans (.afterDrop _ _ hx),
      (TableOnly.afterDrop _ _ hx).state.trans (hx.trans hb.symm)⟩
  · rw [(ProfileTurn.routeExpired e.profile e.block e.bank s).only.other n he]
    exact ⟨.of_ring rfl, rfl⟩

/-- The engine's part and what follows it leave a BOUND profile the entry of block k − 2, but for its expiry. -/
theorem eventTail_aged {k : Block} (taken : List SlotId) (flipped : List ProfileId) {s : State} {n : ProfileId}
    (hb : (s.profile n).state = .bound) :
    EntryAged (k - 2) (s.profile n) ((eventTail k taken flipped (engineRest k taken 0 s)).profile n) := by
  have hbu := (Keeps.engineRest k taken rfl hb).record.state.trans hb
  refine (expireRoutes_aged (k - 2) k hb).trans (EntryAged.trans ?_ (.of_ring (eventTail_bound taken flipped hbu).ring))
  rw [(engineRest_queued k taken s).profile]
  split
  · exact .of_entry (Profile.ring_queueBlock_sub_two _ k)
  · exact .of_ring rfl

/-! ### What a slot finds at its turn (R52 to R54) -/

theorem EntryState.late_iff {e : EntryState} : e.late = true ↔ e = .pending ∨ e = .expired := by
  cases e <;> simp [EntryState.late]

section
variable {s t : State} {k : Block} {src : Source}

theorem State.lookAt_of_no_profile (h : ∀ n, src ≠ .profile n) : s.lookAt src k = .none := by
  cases src with
  | profile n => exact absurd rfl (h n)
  | silent | dry _ | generator => rfl

theorem State.playedGeneration_of_no_profile (h : ∀ n, src ≠ .profile n) : s.playedGeneration src k = none := by
  cases src with
  | profile n => exact absurd rfl (h n)
  | silent | dry _ | generator => rfl

/-- What has samples to play: a dry channel from block v on, a profile with a VALID entry, a running generator (R54). -/
theorem State.hasSamples_iff : s.hasSamples src k = true
    ↔ (∃ c, src = .dry c ∧ atOrAfter (k - 2) s.lane.validFrom s.lane.blockCounter = true)
      ∨ (∃ n, src = .profile n ∧ (s.profile n).entryState (k - 2) = .valid) ∨ (src = .generator ∧ s.gen.running = true) := by
  cases src <;> simp [State.hasSamples]

/-- The slot plays samples of its source from block event k on (R54). -/
def State.playsAt (s : State) (k : Block) (u : Slot) : Bool := !u.mute && s.hasSamples u.takePending.source k

theorem State.slotAfter_eq (s : State) (k : Block) (u : Slot) : s.slotAfter k u = { u.takePending with
    foundValid := s.lookAt u.takePending.source k == .valid
    lateCount := if (s.lookAt u.takePending.source k).late then satInc u.lateCount else u.lateCount
    lastBlock := if s.playsAt k u then some (k - 2) else u.lastBlock
    lastGeneration := if s.playsAt k u then (s.playedGeneration u.takePending.source k).or u.lastGeneration
      else u.lastGeneration } := rfl

section
variable (lane : t.lane = s.lane) (gen : t.gen = s.gen)
  (aged : ∀ n, src = .profile n → EntryAged (k - 2) (s.profile n) (t.profile n))
include aged

theorem State.lookAt_late_aged : (t.lookAt src k).late = (s.lookAt src k).late := by
  cases src with
  | profile n => exact (aged n rfl).late
  | silent | dry _ | generator => rfl

theorem State.lookAt_valid_aged : (t.lookAt src k == .valid) = (s.lookAt src k == .valid) := by
  cases src with
  | profile n => exact (aged n rfl).valid
  | silent | dry _ | generator => rfl

theorem State.playedGeneration_aged : t.playedGeneration src k = s.playedGeneration src k := by
  cases src with
  | profile n => exact congrArg some (aged n rfl).generation
  | silent | dry _ | generator => rfl

include lane gen

theorem State.hasSamples_aged : t.hasSamples src k = s.hasSamples src k := by
  cases src with
  | profile n => exact (aged n rfl).valid
  | dry c => simp only [State.hasSamples, lane]
  | generator => simp only [State.hasSamples, gen]
  | silent => rfl

end

/-- A slot finds the same before and after an expiry. -/
theorem State.slotAfter_aged {u : Slot} (lane : t.lane = s.lane) (gen : t.gen = s.gen)
    (aged : ∀ n, u.takePending.source = .profile n → EntryAged (k - 2) (s.profile n) (t.profile n)) :
    t.slotAfter k u = s.slotAfter k u := by
  rw [State.slotAfter_eq, State.slotAfter_eq, State.playsAt, State.playsAt, State.lookAt_late_aged aged,
    State.lookAt_valid_aged aged, State.playedGeneration_aged aged, State.hasSamples_aged lane gen aged]

end

section
variable {t : State} {k : Block} {u : Slot}

theorem State.slotAfter_of_no_profile (h : ∀ n, u.takePending.source ≠ .profile n) :
    (t.slotAfter k u).lateCount = u.lateCount ∧ (t.slotAfter k u).foundValid = false := by
  rw [State.slotAfter_eq, State.lookAt_of_no_profile h]
  exact ⟨rfl, rfl⟩

theorem State.slotAfter_of_profile {n : ProfileId} (h : u.takePending.source = .profile n) :
    (t.slotAfter k u).lateCount = (if ((t.profile n).entryState (k - 2)).late then satInc u.lateCount else u.lateCount)
      ∧ (t.slotAfter k u).foundValid = ((t.profile n).entryState (k - 2) == .valid) := by
  rw [State.slotAfter_eq, h]
  exact ⟨rfl, rfl⟩

/-- What a slot that plays records, and that one that does not records nothing (R54). -/
theorem State.slotAfter_played : (t.slotAfter k u).lastBlock = (if t.playsAt k u then some (k - 2) else u.lastBlock)
    ∧ (t.slotAfter k u).lastGeneration
      = if t.playsAt k u then (t.playedGeneration u.takePending.source k).or u.lastGeneration else u.lastGeneration :=
  ⟨rfl, rfl⟩

theorem State.playsAt_iff : t.playsAt k u = true ↔ u.mute = false ∧ t.hasSamples u.takePending.source k = true := by
  simp [State.playsAt]

end

/-! ### The slot map's turns, slot by slot (R50) -/

theorem Notices.setBy_slotLate (i : SlotId) : Notices.SetBy (fun ns => ns.slotLate.getLsbD i.val) (.slotLate i) := by
  intro ns k
  cases k with
  | slotLate j => simpa [Notices.add] using getLsbD_insertBit ns.slotLate j i
  | _ => simp [Notices.add]

/-- From s to t the slot map has taken block event k for slot i, with the profiles as t has them. -/
structure SlotTaken (k : Block) (i : SlotId) (s t : State) : Prop where
  slot : t.slot i = t.slotAfter k (s.slot i)
  told : (t.lookAt (s.slot i).takePending.source k).late = true → ∀ p, (s.slot i).owner = some p →
    (t.port p).notices.slotLate.getLsbD i.val = true

namespace SlotTaken

variable {k : Block} {i : SlotId} {s u t : State}

theorem earlier (h : SlotTaken k i u t) (slot : u.slot i = s.slot i) : SlotTaken k i s t := by
  obtain ⟨hs, ht⟩ := h
  rw [slot] at hs ht
  exact ⟨hs, ht⟩

/-- What happens after the slot's turn, the entry of its profile expiring at most. -/
theorem later (h : SlotTaken k i s u) (event : EventOnly u t) (slot : t.slot i = u.slot i)
    (aged : ∀ n, (s.slot i).takePending.source = .profile n → EntryAged (k - 2) (u.profile n) (t.profile n)) :
    SlotTaken k i s t := by
  refine ⟨?_, fun hl p hp => event.adds.kept (Notices.setBy_slotLate i) (h.told ?_ p hp)⟩
  · rw [slot, h.slot, State.slotAfter_aged event.lane event.gen aged]
  · rw [← State.lookAt_late_aged aged]; exact hl

theorem slotEvent (k : Block) (i : SlotId) (s : State) : SlotTaken k i s (slotEvent k s i) := by
  have only := SlotsOnly.slotEvent k s i
  have aged (n : ProfileId) (_ : (s.slot i).takePending.source = .profile n) :
      EntryAged (k - 2) (s.profile n) ((Machine.slotEvent k s i).profile n) := .of_ring (by rw [only.profile])
  refine ⟨?_, fun hl p hp => ?_⟩
  · rw [slotEvent_slot, if_pos rfl, State.slotAfter_aged only.eventOnly.lane only.eventOnly.gen aged]
  · rw [State.lookAt_late_aged aged] at hl
    have owner : (s.slotAfter k (s.slot i)).owner = some p := hp
    simp only [Machine.slotEvent]
    rw [if_pos (show (s.lookAt (s.slotAfter k (s.slot i)).source k).late = true from hl), owner]
    show ((State.notify _ p _).port p).notices.slotLate.getLsbD i.val = true
    rw [State.port_notify, if_pos rfl]
    exact PortState.noticed_bit (Notices.setBy_slotLate i) _

/-- The turns of other slots leave slot i. -/
theorem foldl_other {l : List SlotId} (hi : i ∉ l) (s : State) : (l.foldl (Machine.slotEvent k) s).slot i = s.slot i :=
  foldl_relates (P := fun _ => True) (Rel := fun s t => t.slot i = s.slot i) (fun _ => rfl) (fun _ _ _ a b => b.trans a)
    (fun _ _ _ _ => trivial) _ l
    (fun s _ j hj => by rw [slotEvent_slot, if_neg fun e : i = j => hi (e ▸ hj)]) s trivial

/-- The turns of a list of slots, each once. -/
theorem foldl {l : List SlotId} (hl : l.Nodup) (hi : i ∈ l) (s : State) : SlotTaken k i s (l.foldl (Machine.slotEvent k) s) := by
  obtain ⟨pre, post, rfl, hpre, hpost⟩ := split_of_mem hl hi
  rw [List.foldl_append, List.foldl_cons]
  have only := SlotsOnly.foldl_slotEvent k post (Machine.slotEvent k (pre.foldl (Machine.slotEvent k) s) i)
  exact ((slotEvent k i _).earlier (foldl_other hpre s)).later only.eventOnly (foldl_other hpost _)
    fun n _ => .of_ring (by rw [only.profile])

end SlotTaken

theorem engineRest_slots (k : Block) (taken : List SlotId) (s : State) : (engineRest k taken 0 s).slots = s.slots := by
  rw [(engineRest_queued k taken s).state]
  exact expireRoutes_slots k s

/-- The slots that the slot map finds after the controller and the flips. -/
theorem controlled_slots (k : Block) (flipped : List ProfileId) (s : State) :
    (bankFlips k (controllerBlockEvent k [] flipped s)).slots = s.slots :=
  (foldl_turns_routes id (bankFlip k) (ProfileTurn.bankFlip k) allProfiles _).2.trans
    (foldl_turns_routes id (controllerEvent k flipped) (ProfileTurn.controllerEvent k flipped) _
      { s with choices := s.choices + 1 }).2

section
variable (k : Block) {taken : List SlotId} (flipped : List ProfileId) {i : SlotId} (s : State)

/-- A slot not yet taken has its turn after the controller and the flips. -/
theorem eventTail_slot_left (hi : i ∉ taken) : SlotTaken k i s (eventTail k taken flipped s) :=
  (SlotTaken.foldl (nodup_allSlots.filter _) (List.mem_filter.mpr ⟨mem_allSlots i, by simpa using hi⟩) _).earlier
    (congrArg (·.get i) (controlled_slots k flipped s))

/-- A slot not yet taken has its turn after the engine's part too. -/
theorem eventRest_slot_left (hi : i ∉ taken) : SlotTaken k i s (eventTail k taken flipped (engineRest k taken 0 s)) :=
  (eventTail_slot_left k flipped _ hi).earlier (congrArg (·.get i) (engineRest_slots k taken s))

/-- A slot that has had its turn stays as it is. -/
theorem eventRest_slot_taken (hi : i ∈ taken) :
    (eventTail k taken flipped (engineRest k taken 0 s)).slot i = s.slot i := by
  refine (SlotTaken.foldl_other (fun h => ?_) _).trans
    (congrArg (·.get i) ((controlled_slots k flipped _).trans (engineRest_slots k taken s)))
  simp [hi] at h

end

/-! ### The slots in any order (R50) -/

/-- The source that a slot takes is its source or its pending source. -/
theorem Slot.named_of_takePending {u : Slot} {n : ProfileId} (h : u.takePending.source = .profile n) :
    u.source = .profile n ∨ u.pending = some (.profile n) := by
  unfold Slot.takePending at h
  cases hp : u.pending with
  | none => rw [hp] at h; exact .inl h
  | some src => rw [hp] at h; exact .inr (congrArg some h)

theorem blockCompleted_event_adds (s : State) (frame : LaneFrame) : s.Adds (fun _ => True) (s.blockCompleted frame) :=
  (blockCompleted_adds s frame).mono fun _ _ => trivial

theorem blockCompleted_running (s : State) (frame : LaneFrame) : (s.blockCompleted frame).gen.running = s.gen.running := by
  rw [blockCompleted_gen, Generator.frame_running]

/-- With no moment given, or the slots first in any order, every slot takes the event as the profiles are at its end. -/
theorem blockEvent_takes_slots {k : Block} {s : State} {within : List Moment}
    (hw : within = [] ∨ (s.SlotsNameBound ∧ ∃ order : List SlotId, within = order.map .slot ∧ order.Nodup ∧ ∀ i, i ∈ order)) :
    EventOnly s (blockEventTaken k within s) ∧ ∀ i, SlotTaken k i s (blockEventTaken k within s) := by
  rcases hw with rfl | ⟨hbound, order, rfl, hnodup, hall⟩
  · have ht : blockEventTaken k [] s = eventTail k [] [] (engineRest k [] 0 s) := rfl
    rw [ht]
    exact ⟨(EventOnly.engineRest k [] s).trans (eventTail_event k [] [] _), fun i =>
      eventRest_slot_left k [] s List.not_mem_nil⟩
  · have hrun := foldl_take_slot k hnodup ⟨s, 0, [], [], []⟩ fun _ _ => List.not_mem_nil
    obtain ⟨u, hu⟩ : ∃ u, order.foldl (slotEvent k) s = u := ⟨_, rfl⟩
    have only : SlotsOnly s u := hu ▸ .foldl_slotEvent k order s
    have ht : blockEventTaken k (order.map .slot) s
        = eventTail k (order.reverse ++ []) [] (engineRest k (order.reverse ++ []) 0 u) := by
      rw [blockEventTaken, hrun, ← hu]
      rfl
    have event := (EventOnly.engineRest k (order.reverse ++ []) u).trans (eventTail_event k (order.reverse ++ []) [] _)
    rw [ht]
    refine ⟨only.eventOnly.trans event, fun i => SlotTaken.later (hu ▸ .foldl hnodup (hall i) s) event ?_ fun n hn => ?_⟩
    · exact eventRest_slot_taken k [] u (by simpa using hall i)
    · refine eventTail_aged _ _ ?_
      rw [only.profile]
      exact hbound i n (Slot.named_of_takePending hn)

/-! ### A ROUTE that falls within the block event (R51) -/

/-- The transaction that a frame ends delivers the head reply (R176, R178). -/
def State.delivers (s : State) (f : Frame) : Bool :=
  let ps := s.port f.port
  ps.spi.elim (!ps.replies.isEmpty) Transaction.holdsReply
    && decide (ps.spi.elim (s.outbound f.port).length (·.outbound.length) ≤ 1 + f.body.length)

theorem receive_replies {f : Frame} {s : State} (hi : (s.port f.port).ignoring = false) :
    ((receive f s).port f.port).replies
      = if s.delivers f then (s.port f.port).replies.drop 1 else (s.port f.port).replies := by
  unfold receive startTransaction State.delivers
  cases hx : (s.port f.port).spi with
  | none => simp [hi, hx, PortState.finishTransaction]
  | some x => simp [hi, hx, PortState.finishTransaction]

/-- Notices do not hinder a frame from being taken. -/
theorem State.Takes.of_adds {s t : State} {f : Frame} {pl : List Word} {K : Notice → Prop} (h : s.Takes f pl)
    (adds : s.Adds K t) : t.Takes f pl := by
  obtain ⟨hc, hi, hl⟩ := h
  have hp := adds.port f.port
  have ignoring : (t.port f.port).ignoring = (s.port f.port).ignoring := by rw [hp]
  have spi : (t.port f.port).spi = (s.port f.port).spi := by rw [hp]
  have replies : (t.port f.port).replies = (s.port f.port).replies := by rw [hp]
  have outbound : (t.outbound f.port).length = (s.outbound f.port).length := by
    rw [State.outbound, State.outbound, replies]
    rfl
  have delivers : t.delivers f = s.delivers f := by
    rw [State.delivers, spi, replies, outbound]
    rfl
  refine ⟨hc, ignoring.trans hi, ?_⟩
  rw [receive_replies (ignoring.trans hi), delivers, replies, ← receive_replies hi]
  exact hl

/-- ROUTE to a BOUND profile by a member that owns the slot, as what falls within a block event. -/
theorem route_within {x : State} {f : Frame} {i : SlotId} {n : ProfileId}
    (h : x.Takes f (finWord i :: sourceWords (.profile n))) (ho : (x.slot i).owner = some f.port)
    (hb : (x.profile n).state = .bound)
    (hm : (x.profile n).leader = some f.port ∨ (x.profile n).followers.getLsbD f.port.val = true) :
    ∃ y, stateAfter (execInner (.frame 0x22 f) x) x = y ∧ y.engine = x.engine ∧ y.lane = x.lane
      ∧ (∀ m, y.profile m = x.profile m) ∧ y.slot i = { x.slot i with pending := some (.profile n) } := by
  have refusal : x.routeRefusal f.port (.profile n) = none :=
    (x.routeRefusal_profile f.port n).trans ((if_neg (not_not.mpr hb)).trans (if_pos hm))
  have run : execInner (.frame 0x22 f) x = _ := exec_route_routed h ho refusal
  refine ⟨_, congrArg (stateAfter · x) run, receive_engine f x, receive_lane f x, receive_profile f x, ?_⟩
  show ((receive f x).modSlot i fun t => { t with pending := some (.profile n) }).slot i = _
  rw [State.slot_modSlot_same, receive_slot]

/-- The slot that a ROUTE has given its pending source, at its turn. -/
theorem SlotTaken.routed {k : Block} {i : SlotId} {y t : State} {u : Slot} {src : Source} (h : SlotTaken k i y t)
    (hy : y.slot i = { u with pending := some src }) :
    (t.slot i).source = src ∧ (t.slot i).outgoing = some u.source ∧ (t.slot i).pending = none := by
  rw [h.slot, hy]
  exact ⟨rfl, rfl, rfl⟩

/-- The engine's turns, all given before anything else. -/
theorem foldl_take_engine_all (k : Block) (s : State) :
    (List.replicate 33 .engine).foldl (EventRun.take k) ⟨s, 0, [], [], []⟩ = ⟨engineRest k [] 0 s, 33, [], [], []⟩ := by
  have only (n : Nat) : ∀ r : EventRun, ∃ st,
      (List.replicate n .engine).foldl (EventRun.take k) r = { r with state := st, engine := r.engine + n } := by
    induction n with
    | zero => exact fun r => ⟨r.state, rfl⟩
    | succ n ih =>
      intro r
      obtain ⟨st, h⟩ := ih (EventRun.take k r .engine)
      refine ⟨st, ?_⟩
      rw [List.replicate_succ, List.foldl_cons, h]
      simp [EventRun.take, Nat.add_assoc, Nat.add_comm 1]
  obtain ⟨st, h⟩ := only 33 ⟨s, 0, [], [], []⟩
  have rest := (foldl_take_engine k 33 ⟨s, 0, [], [], []⟩).2
  rw [h] at rest ⊢
  exact congrArg (EventRun.mk · 33 [] [] []) rest

theorem BeforeEngine.refl (k : Block) (s : State) : BeforeEngine k [] s s :=
  ⟨.refl s, rfl, s.profileActive_nil, fun _ => .refl k _, fun _ => rfl, fun _ _ => rfl⟩

/-- The states of a block event whose first part is the engine's. -/
theorem EngineEvent.first {k : Block} {s : State} (h : s.lane.blockCounter = k) :
    EngineEvent k [] [] s s (eventTail k [] [] (engineRest k [] 0 s)) := ⟨h, .refl k s, rfl⟩

section
variable {k : Block} {w : State} {f : Frame} {i : SlotId} {n : ProfileId} (hk : w.lane.blockCounter = k)
  (h : w.Takes f (finWord i :: sourceWords (.profile n))) (ho : (w.slot i).owner = some f.port)
  (hb : (w.profile n).state = .bound)
  (hm : (w.profile n).leader = some f.port ∨ (w.profile n).followers.getLsbD f.port.val = true)
include hk h ho hb hm

/-- A ROUTE between the engine's question and the slot map: it acts at this block event, with no route pass for its block. -/
theorem route_after_question (hu : w.profileInUse n = false) :
    ∃ t, blockEventTaken k (List.replicate 33 .engine ++ [.inner (.frame 0x22 f)]) w = t
      ∧ ((t.slot i).source = .profile n ∧ (t.slot i).outgoing = some (w.slot i).source ∧ (t.slot i).pending = none)
      ∧ (∀ e ∈ t.engine.routes, e.profile = n → e ∈ w.engine.routes)
      ∧ ((w.profile n).entryState k = .none → (t.profile n).entryState k = .none) := by
  obtain ⟨x, hx⟩ : ∃ x, engineRest k [] 0 w = x := ⟨_, rfl⟩
  have event : EventOnly w x := hx ▸ .engineRest k [] w
  have keeps : Keeps n (TableOnly k) w x := hx ▸ .engineRest k [] hk hb
  have slot : x.slot i = w.slot i := hx ▸ congrArg (·.get i) (engineRest_slots k [] w)
  have hbx := keeps.record.state.trans hb
  obtain ⟨y, hy, engine, lane, profile, slot_y⟩ := route_within (h.of_adds event.adds) (slot ▸ ho) hbx
    (by rw [keeps.record.record]; exact hm)
  have asked := (EngineEvent.first hk).profile_engineRest n
  rw [hx, if_neg fun e => Bool.false_ne_true (hu.symm.trans e.2)] at asked
  refine ⟨eventTail k [] [] y, ?_, (eventTail_slot_left k [] y List.not_mem_nil).routed (slot ▸ slot_y), fun e he hn => ?_,
    fun h0 => ?_⟩
  · rw [blockEventTaken, List.foldl_append, foldl_take_engine_all, hx, ← hy]
    rfl
  · rw [eventTail_routes, engine, ← hx, ← eventTail_routes k [] [] (engineRest k [] 0 w)] at he
    rcases ((EngineEvent.first hk).mem_routes e).mp he with ⟨h, -⟩ | ⟨m, ⟨-, hin⟩, rfl⟩
    · exact h
    · exact absurd (hu.symm.trans (hn ▸ hin)) Bool.false_ne_true
  · have aged : EntryAged k (w.profile n) ((eventTail k [] [] y).profile n) := by
      refine (expireRoutes_aged k k hb).trans (.of_ring ?_)
      rw [(eventTail_bound [] [] (by rw [profile]; exact hbx)).ring, profile, asked]
    exact (aged.eq_of_settled (by rw [h0]; nofun)).trans h0

/-- A ROUTE before the engine's question: it acts at this block event, with a route pass for its block. -/
theorem route_before_question :
    ∃ t, blockEventTaken k [.inner (.frame 0x22 f)] w = t
      ∧ ((t.slot i).source = .profile n ∧ (t.slot i).outgoing = some (w.slot i).source ∧ (t.slot i).pending = none)
      ∧ (t.profile n).entryState k = .pending ∧ ∃ e ∈ t.engine.routes, e.profile = n ∧ e.block = k := by
  obtain ⟨y, hy, engine, lane, profile, slot⟩ := route_within h ho hb hm
  have inUse : y.profileInUse n = true := State.profileInUse_iff.mpr ⟨i, by rw [slot]; simp [Slot.names]⟩
  have event : EngineEvent k [] [] y y _ := .first (by rw [lane]; exact hk)
  obtain ⟨entry, e, he, hn, hek, -⟩ := event.queues (by rw [profile]; exact hb) inUse
  refine ⟨_, ?_, (eventRest_slot_left k [] y List.not_mem_nil).routed slot, entry, e, he, hn, hek⟩
  rw [← hy]
  rfl

end

/-! ### A route pass that completes between two slots of its profile (R55) -/

/-- The slot treated before the completion counts late; the one treated after it plays. -/
theorem completion_between_slots {k : Block} {w : State} {pre post : List RouteEntry} {e : RouteEntry} {i j : SlotId}
    (hmac : w.engine.mac = .running .route) (hroutes : w.engine.routes = pre ++ e :: post)
    (hpre : ∀ x ∈ pre, x.running = false) (he : e.running = true) (hlast : e.isLast w = true)
    (hb : (w.profile e.profile).state = .bound) (hblock : e.block = k - 2)
    (hpending : (w.profile e.profile).entryState e.block = .pending) (hij : i ≠ j)
    (hi : (w.slot i).takePending.source = .profile e.profile) (hj : (w.slot j).takePending.source = .profile e.profile) :
    ∃ t, blockEventTaken k [.slot i, .inner .routePassComplete] w = t
      ∧ (t.slot i).foundValid = false ∧ (t.slot i).lateCount = satInc (w.slot i).lateCount
      ∧ (t.slot j).foundValid = true ∧ (t.slot j).lateCount = (w.slot j).lateCount
      ∧ (t.profile e.profile).entryState e.block = .valid := by
  obtain ⟨x, hx⟩ : ∃ x, slotEvent k w i = x := ⟨_, rfl⟩
  have only : SlotsOnly w x := hx ▸ .slotEvent k w i
  have hlastx : e.isLast x = true := by
    rw [RouteEntry.isLast, State.routeSet, only.profile]
    exact hlast
  obtain ⟨y, hy, -, -, -, slots, -, -, -, kept⟩ := routePassCompletes x pre post e (by rw [only.engine]; exact hmac)
    (by rw [only.engine]; exact hroutes) hpre he hlastx
  rw [only.profile] at kept
  obtain ⟨-, state, -, complete, -⟩ := kept fun hf => absurd (hb.symm.trans hf.1) (by nofun)
  have valid : (y.profile e.profile).entryState (k - 2) = .valid := by
    rw [← hblock, Profile.entryState, (complete hpending).1]
    exact if_pos rfl
  obtain ⟨t, ht⟩ : ∃ t, eventTail k [i] [] (engineRest k [i] 0 y) = t := ⟨_, rfl⟩
  have entry : (t.profile e.profile).entryState (k - 2) = .valid :=
    ht ▸ ((eventTail_aged [i] [] (state.trans hb)).eq_of_settled (by rw [valid]; nofun)).trans valid
  have slot_y (l : SlotId) : y.slot l = if l = i then w.slotAfter k (w.slot i) else w.slot l := by
    rw [← slotEvent_slot, hx]
    exact congrArg (·.get l) slots
  have slot_i : t.slot i = w.slotAfter k (w.slot i) := by
    rw [← ht, eventRest_slot_taken k [] y (List.mem_singleton.mpr rfl), slot_y, if_pos rfl]
  have slot_j : t.slot j = t.slotAfter k (w.slot j) := by
    have taken : SlotTaken k j y t :=
      ht ▸ eventRest_slot_left k [] y fun h => hij (List.mem_singleton.mp h).symm
    rw [taken.slot, slot_y, if_neg (Ne.symm hij)]
  obtain ⟨late_i, found_i⟩ := State.slotAfter_of_profile (t := w) (k := k) hi
  obtain ⟨late_j, found_j⟩ := State.slotAfter_of_profile (t := t) (k := k) hj
  rw [← hblock, hpending] at late_i found_i
  rw [entry] at late_j found_j
  refine ⟨t, ?_, by rw [slot_i, found_i]; rfl, by rw [slot_i, late_i]; rfl, by rw [slot_j, found_j]; rfl,
    by rw [slot_j, late_j]; rfl, by rw [hblock]; exact entry⟩
  have run : stateAfter (execInner .routePassComplete x) x = y := congrArg (stateAfter · x) hy
  rw [← ht, ← run, ← hx]
  rfl

/-! ### The slot map (R50 to R55) -/

section
variable (s : State) (frame : LaneFrame)

theorem blockCompleted_slot (i : SlotId) : (s.blockCompleted frame).slot i = s.slot i :=
  congrArg (·.get i) (blockCompleted_slots s frame)

theorem blockCompleted_slotsNameBound {s : State} (h : s.SlotsNameBound) : (s.blockCompleted frame).SlotsNameBound := by
  intro i n hn
  rw [blockCompleted_profile]
  rw [blockCompleted_slot] at hn
  exact h i n hn

end

/-- Settles O7: every slot takes the event as the profiles are at its end, whatever the order; a ROUTE counts at the engine's
question just if it comes before it; a completion splits the slots treated before it from those after. -/
theorem slotMapTakesBlockEvent : Obligations.SlotMapTakesBlockEvent := by
  unfold Obligations.SlotMapTakesBlockEvent
  refine ⟨fun s frame within hr ho h31 hw => ?slots, fun s frame f i n hr ho h31 h hown hb hm hu => ?route,
    fun s frame pre post e i j hr ho h31 hmac hroutes hpre he hlast hb hblock hpending hij hi hj => ?completion⟩
  all_goals
    have slots := blockCompleted_slot s frame
    have profiles := blockCompleted_profile s frame
  case slots =>
    intro k
    obtain ⟨event, taken⟩ := blockEvent_takes_slots (k := k) (s := s.blockCompleted frame)
      (hw.imp_right fun ⟨hb, order⟩ => ⟨blockCompleted_slotsNameBound frame hb, order⟩)
    refine ⟨_, exec_frameTaken_last frame within hr ho h31, fun i => ?_⟩
    generalize blockEventTaken k within (s.blockCompleted frame) = t at event taken
    have running : t.gen.running = s.gen.running := by rw [event.gen, blockCompleted_running]
    obtain ⟨slot, told⟩ := taken i
    rw [slots] at slot told
    intro u v late valid plays
    change v = t.slotAfter k u at slot
    have source : v.source = u.takePending.source := by rw [slot]; rfl
    have plays_iff : t.playsAt k u = true ↔ plays := by
      rw [State.playsAt_iff, State.hasSamples_iff, ← source, running]
    obtain ⟨lastBlock, lastGeneration⟩ := State.slotAfter_played (t := t) (k := k) (u := u)
    rw [← slot] at lastBlock lastGeneration
    refine ⟨source, by rw [slot]; rfl, by rw [slot]; rfl, by rw [slot]; rfl, by rw [slot]; rfl, by rw [slot]; rfl,
      fun hn => ?other, fun n hn => ?profile, fun hp => ?plays, fun hp => ?rests⟩
    case other =>
      rw [slot]
      exact State.slotAfter_of_no_profile fun n => source ▸ hn n
    case profile =>
      have hsource := source.symm.trans hn
      obtain ⟨lateCount, foundValid⟩ := State.slotAfter_of_profile (t := t) (k := k) hsource
      rw [← slot] at lateCount foundValid
      rw [hsource] at told
      refine ⟨fun hl => ⟨?_, fun p hp => ?_⟩, fun hl => ?_, fun hv => ?_, fun hv => ?_⟩
      · rw [lateCount, if_pos (EntryState.late_iff.mpr hl)]
      · exact told (EntryState.late_iff.mpr hl) p (by rw [slot] at hp; exact hp)
      · rw [lateCount, if_neg (mt EntryState.late_iff.mp hl)]
      · rw [foundValid]; exact beq_iff_eq.mpr hv
      · rw [foundValid]; exact beq_eq_false_iff_ne.mpr hv
    case plays =>
      rw [if_pos (plays_iff.mpr hp)] at lastBlock lastGeneration
      refine ⟨lastBlock, fun n hn => ?_, fun hn => ?_⟩
      · rw [lastGeneration, source.symm.trans hn]; rfl
      · rw [lastGeneration, State.playedGeneration_of_no_profile fun n => source ▸ hn n]; rfl
    case rests =>
      rw [if_neg (mt plays_iff.mp hp)] at lastBlock lastGeneration
      exact ⟨lastBlock, lastGeneration⟩
  case route =>
    have hk := blockCompleted_blockCounter s frame
    have takes := h.of_adds (blockCompleted_event_adds s frame)
    intro k routed
    rw [← profiles] at hb hm
    rw [← slots] at hown
    obtain ⟨t, ht, after⟩ := route_after_question hk takes hown hb hm (by rw [blockCompleted_profileInUse]; exact hu)
    obtain ⟨v, hv, before⟩ := route_before_question hk takes hown hb hm
    rw [slots, blockCompleted_engine, profiles] at after
    rw [slots] at before
    exact ⟨⟨t, ht ▸ exec_frameTaken_last frame _ hr ho h31, after⟩,
      v, hv ▸ exec_frameTaken_last frame _ hr ho h31, before⟩
  case completion =>
    rw [← blockCompleted_engine s frame] at hmac hroutes
    rw [← profiles] at hb hpending
    rw [← slots] at hi hj
    have last : e.isLast (s.blockCompleted frame) = true := by
      rw [RouteEntry.isLast, State.routeSet, profiles]
      exact hlast
    obtain ⟨t, ht, ends⟩ := completion_between_slots (k := s.lane.blockCounter + 1) hmac hroutes hpre he last hb
      (by rw [hblock]; bv_omega) hpending hij hi hj
    rw [slots, slots] at ends
    exact ⟨t, ht ▸ exec_frameTaken_last frame _ hr ho h31, ends⟩

end Sys2Proof.Machine

/-! SUPPORT. The scores of a probe and its figure of merit (O17). -/

namespace Sys2Proof.Machine

/-! ### Scores and figures of merit (R88, R89) -/

theorem residualScore_le (et ee : Nat) : residualScore et ee ≤ 255 := by
  unfold residualScore
  split
  · exact Nat.zero_le _
  · exact Nat.div_le_of_le_mul (by rw [Nat.mul_comm et]; exact Nat.mul_le_mul_left 255 (Nat.sub_le et ee))

/-- Rounding toward zero brings no quotient further from it. -/
theorem natAbs_tdiv_mul_le (v : Int) (d : Nat) : (v.tdiv d).natAbs * d ≤ v.natAbs := by
  rw [Int.natAbs_tdiv]
  exact Nat.div_mul_le_self v.natAbs d

/-- A score against its reference, both from 0 to 255, weighted by a share of 128ths (R89). -/
theorem natAbs_weighted_le {score reference share : Nat} (hs : score ≤ 255) (hr : reference ≤ 255) :
    (2 * ((score : Int) - reference) * share).natAbs ≤ 510 * share := by
  rw [Int.natAbs_mul]
  exact Nat.mul_le_mul_right share (by omega)

theorem figureOfMerit_range (c : AdaptConfig) (sel : FomSelection) {rs hs : Nat} (wrapped : Bool) (hr : rs ≤ 255)
    (hh : hs ≤ 255) : -510 ≤ figureOfMerit c sel rs hs wrapped ∧ figureOfMerit c sel rs hs wrapped ≤ 510 := by
  unfold figureOfMerit
  split
  · exact ⟨le_refl _, by decide⟩
  · cases sel
    case weighted =>
      obtain ⟨rest, hrest⟩ : ∃ r : Nat, 128 - (c.fomA.val : Int) = r ∧ c.fomA.val + r = 128 :=
        ⟨128 - c.fomA.val, by omega, by omega⟩
      obtain ⟨hrest, shares⟩ := hrest
      have first := (natAbs_tdiv_mul_le _ 128).trans
        (natAbs_weighted_le (share := c.fomA.val) hr (Nat.le_of_lt_succ c.fomB.isLt))
      have second := (natAbs_tdiv_mul_le _ 128).trans
        (natAbs_weighted_le (share := rest) hh (Nat.le_of_lt_succ c.fomC.isLt))
      simp only [hrest]
      push_cast at first second ⊢
      omega
    all_goals simp only; omega

/-- Settles O17, by the bounds of the two scores and of the weighted sum. -/
theorem figureOfMeritOfScores : Obligations.FigureOfMeritOfScores := by
  unfold Obligations.FigureOfMeritOfScores
  refine ⟨fun et ee => ⟨rfl, residualScore_le et ee⟩, fun peak => ⟨rfl, rfl⟩,
    fun c rs hs => ⟨rfl, rfl, rfl, rfl, fun _ => rfl⟩, fun c sel rs hs wrapped hr hh => figureOfMerit_range c sel wrapped hr hh,
    fun p e => ⟨fun hs => ?_, fun hs => ?_⟩⟩
  all_goals simp only [Profile.fomOf, hs]

end Sys2Proof.Machine

/-! SUPPORT. The boundaries of a step, and the steps of a job pass (O13). -/

namespace Sys2Proof.Machine

/-! ### The running pass of each class (R61, R80) -/

theorem updateFirst_of_split {α : Type} {p : α → Bool} (f : α → α) {pre post : List α} {a : α}
    (hpre : ∀ x ∈ pre, p x = false) (ha : p a = true) :
    updateFirst p f (pre ++ a :: post) = pre ++ f a :: post := by
  induction pre with
  | nil => simp [updateFirst, ha]
  | cons b pre ih =>
    obtain ⟨hb, hpre⟩ := List.forall_mem_cons.mp hpre
    simp [updateFirst, hb, ih hpre]

section
variable {s : State}

theorem runningProbe_of_head {e : ProbeEntry} {es : List ProbeEntry} (h : s.engine.probes = e :: es)
    (he : e.condition = .running) : s.engine.runningProbe = some e := by
  simp [Engine.runningProbe, h, ProbeEntry.isRunning, he]

theorem mapRunning_probe {e : ProbeEntry} {es : List ProbeEntry} (h : s.engine.probes = e :: es)
    (he : e.condition = .running) (onRoute : RouteEntry → RouteEntry) (f : ProbeEntry → ProbeEntry)
    (onJob : JobPass → JobPass) :
    s.engine.mapRunning .probe onRoute f onJob = { s.engine with probes := f e :: es } := by
  simp [Engine.mapRunning, h, updateFirst, ProbeEntry.isRunning, he]

theorem mapRunning_route {pre post : List RouteEntry} {e : RouteEntry} (h : s.engine.routes = pre ++ e :: post)
    (hpre : ∀ x ∈ pre, x.running = false) (he : e.running = true) (f : RouteEntry → RouteEntry)
    (onProbe : ProbeEntry → ProbeEntry) (onJob : JobPass → JobPass) :
    s.engine.mapRunning .route f onProbe onJob = { s.engine with routes := pre ++ f e :: post } := by
  rw [Engine.mapRunning, h, updateFirst_of_split (p := RouteEntry.isRunning) f hpre he]

theorem mapRunning_job {j : JobPass} (h : s.engine.jobPass = some j) (onRoute : RouteEntry → RouteEntry)
    (onProbe : ProbeEntry → ProbeEntry) (f : JobPass → JobPass) :
    s.engine.mapRunning .job onRoute onProbe f = { s.engine with jobPass := some (f j) } := by
  rw [Engine.mapRunning, h]
  rfl

/-- The boundary of a step before the pass's last, with no suspension asked for (R61). -/
theorem exec_macStepEnd {cls : PassClass} (hmac : s.engine.mac = .running cls) (hlast : s.atLastStep = false)
    (hask : s.engine.suspendAsked = false) : exec .macStepEnd s = .next (nextStep cls s) := by
  show execMacStepEnd s = _
  simp only [execMacStepEnd, finish, hmac, hlast, hask, Bool.or_false, Bool.false_eq_true, if_false]

/-- The boundary of a step before the pass's last, after a suspension was asked for (R80). -/
theorem exec_passSuspended {cls : PassClass} (hmac : s.engine.mac = .running cls) (hcls : cls = .probe ∨ cls = .job)
    (hlast : s.atLastStep = false) (hask : s.engine.suspendAsked = true) :
    exec .passSuspended s = .next (suspend cls s) := by
  show execPassSuspended s = _
  rcases hcls with rfl | rfl <;>
    simp only [execPassSuspended, finish, hmac, hlast, hask, Bool.not_true, Bool.or_false, Bool.false_eq_true, if_false]

theorem atLastStep_route {pre post : List RouteEntry} {e : RouteEntry} (hmac : s.engine.mac = .running .route)
    (h : s.engine.routes = pre ++ e :: post) (hpre : ∀ x ∈ pre, x.running = false) (he : e.running = true) :
    s.atLastStep = e.isLast s := by
  obtain ⟨hrun, -⟩ := runningRoute_of_split h hpre he
  simp only [State.atLastStep, hmac, hrun]

theorem atLastStep_probe {e : ProbeEntry} {es : List ProbeEntry} (hmac : s.engine.mac = .running .probe)
    (h : s.engine.probes = e :: es) (he : e.condition = .running) : s.atLastStep = e.isLast := by
  simp only [State.atLastStep, hmac, runningProbe_of_head h he]

theorem atLastStep_job {j : JobPass} (hmac : s.engine.mac = .running .job) (h : s.engine.jobPass = some j) :
    s.atLastStep = j.isLast := by
  simp only [State.atLastStep, hmac, h]

end

/-! ### What a job step reads (R132, R133) -/

/-- Both span words are there and are what the step read, or one is not and the step raised ACCESS. -/
theorem readPair_reads {j t : JobPass} {x y : Option Sample} (h : t = { j with read := readPair x y }) :
    (∀ u v, x = some u → y = some v → t = { j with read := .words u v })
      ∧ (x = none ∨ y = none → t = { j with read := .access }) := by
  subst h
  refine ⟨fun u v hx hy => by rw [hx, hy]; rfl, fun h => ?_⟩
  rcases h with rfl | rfl
  · rfl
  · cases x <;> rfl

section
variable {j : JobPass} {a b : Span} {n l : Nat} {acc : Bool} (s : State)

theorem JobPass.beginStep_dot (h : j.job = .dot a b n acc) :
    j.beginStep s = { j with read := readPair (s.spanWord j.port a j.index) (s.spanWord j.port b j.index) } := by
  simp only [JobPass.beginStep, h]

theorem JobPass.beginStep_energy (h : j.job = .energy a n acc) :
    j.beginStep s = { j with read := readPair (s.spanWord j.port a j.index) (s.spanWord j.port a j.index) } := by
  simp only [JobPass.beginStep, h]

theorem JobPass.beginStep_peak (h : j.job = .peak a n) :
    j.beginStep s = { j with read := readPair (s.spanWord j.port a j.index) (some 0) } := by
  simp only [JobPass.beginStep, h]

theorem JobPass.beginStep_sweep (h : j.job = .sweep a b n l) :
    j.beginStep s = { j with read := readPair (s.spanWord j.port a j.index) (s.spanWord j.port b (j.lag + j.index)) } := by
  simp only [JobPass.beginStep, h]

/-- A job without spans reads nothing. -/
theorem JobPass.beginStep_nothing
    (h : (∃ v, j.job = .push v) ∨ j.job = .drop ∨ j.job = .scale ∨ ∃ nm o st w k pop, j.job = .store nm o st w k pop) :
    j.beginStep s = { j with read := .nothing } := by
  rcases h with ⟨v, h⟩ | h | h | ⟨nm, o, st, w, k, pop, h⟩ <;> simp only [JobPass.beginStep, h]

end

/-! ### What a job step adds (R140 to R142) -/

section
variable {j : JobPass} {a b : Span} {n l : Nat} {x y : Sample}

theorem accAdd_fst (acc : Acc) (d : Int) : (accAdd acc d).1 = BitVec.ofInt 48 (acc.toInt + d) := rfl

/-- A step of DOT or ENERGY adds one product (R140). -/
theorem JobPass.endStep_sum (hr : j.read = .words x y)
    (hj : (∃ a b n acc, j.job = .dot a b n acc) ∨ ∃ a n acc, j.job = .energy a n acc) :
    j.endStep = { j with acc := BitVec.ofInt 48 (j.acc.toInt + x.toInt * y.toInt), index := j.index + 1 } := by
  rcases hj with ⟨a, b, n, acc, hj⟩ | ⟨a, n, acc, hj⟩ <;> simp only [JobPass.endStep, hr, hj, accAdd_fst]

/-- A step of PEAK compares one magnitude (R141). -/
theorem JobPass.endStep_peak (hr : j.read = .words x y) (hj : j.job = .peak a n) :
    j.endStep = if j.peak < x.toInt.natAbs then
      { j with peak := x.toInt.natAbs, peakIndex := j.index, index := j.index + 1 } else { j with index := j.index + 1 } := by
  simp only [JobPass.endStep, hr, hj]

/-- A step of SWEEP adds one product, and the last of a lag ends the lag (R142). -/
theorem JobPass.endStep_sweep (hr : j.read = .words x y) (hj : j.job = .sweep a b n l) :
    let added : JobPass :=
      { j with acc := BitVec.ofInt 48 (j.acc.toInt + x.toInt * y.toInt), index := j.index + 1 }
    j.endStep = if n ≤ j.index + 1 then added.endLag else added := by
  simp only [JobPass.endStep, hr, hj, accAdd_fst]

theorem JobPass.endLag_better (h : j.lag = 0 ∨ j.best.toInt < j.acc.toInt) :
    j.endLag = { j with best := j.acc, bestLag := j.lag, lag := j.lag + 1, index := 0, acc := 0 } := by
  simp only [JobPass.endLag, h, if_true]

theorem JobPass.endLag_not_better (hlag : 0 < j.lag) (h : j.acc.toInt ≤ j.best.toInt) :
    j.endLag = { j with lag := j.lag + 1, index := 0, acc := 0 } := by
  have hn : ¬ (j.lag = 0 ∨ j.best.toInt < j.acc.toInt) := by omega
  simp only [JobPass.endLag, hn, if_false]

end

/-- Settles O13: the running pass of each class at a boundary, and the steps of each kind of job. -/
theorem stepBoundaries : Obligations.StepBoundaries := by
  unfold Obligations.StepBoundaries
  refine ⟨fun s hmac => ?drained, fun s pre post e hmac hask hroutes hpre he hlast => ?route,
    fun s e es hmac hprobes he hlast => ?probe, fun s j hmac hj hlast => ?job, fun s j => ?reads, fun j x y hr => ?adds⟩
  case drained =>
    show execStepDrained s = _
    simp only [execStepDrained, hmac, if_true]
    rfl
  case route =>
    rw [exec_macStepEnd hmac ((atLastStep_route hmac hroutes hpre he).trans hlast) hask, nextStep,
      mapRunning_route hroutes hpre he]
  case probe =>
    have last := (atLastStep_probe hmac hprobes he).trans hlast
    refine ⟨fun hask => ?_, fun hask => ?_⟩
    · rw [exec_macStepEnd hmac last hask, nextStep, mapRunning_probe hprobes he]
    · rw [exec_passSuspended hmac (.inl rfl) last hask, suspend, mapRunning_probe hprobes he]
  case job =>
    have last := (atLastStep_job hmac hj).trans hlast
    refine ⟨fun hask => ?_, fun hask => ?_⟩
    · rw [exec_macStepEnd hmac last hask, nextStep, mapRunning_job hj]
    · rw [exec_passSuspended hmac (.inr rfl) last hask, suspend, mapRunning_job hj]
  case reads =>
    intro word reads readsBoth
    have hword : word = s.spanWord j.port := by
      funext sp i
      cases sp <;> rfl
    rw [hword]
    exact ⟨fun _ _ _ _ h => readPair_reads (j.beginStep_dot s h), fun _ _ _ h => readPair_reads (j.beginStep_energy s h),
      fun _ _ h => readPair_reads (j.beginStep_peak s h), fun _ _ _ _ h => readPair_reads (j.beginStep_sweep s h),
      j.beginStep_nothing s⟩
  case adds =>
    refine ⟨JobPass.endStep_sum hr, fun a n hj => ⟨fun hle => ?_, fun hlt => ?_⟩,
      fun a b n l hj => ⟨fun hn => ?_, fun hn hb => ?_, fun hn hlag hb => ?_⟩⟩
    · rw [JobPass.endStep_peak hr hj, if_neg (Nat.not_lt.mpr hle)]
    · rw [JobPass.endStep_peak hr hj, if_pos hlt]
    · rw [JobPass.endStep_sweep hr hj, if_neg (Nat.not_le.mpr hn)]
    · rw [JobPass.endStep_sweep hr hj, if_pos hn]
      exact JobPass.endLag_better hb
    · rw [JobPass.endStep_sweep hr hj, if_pos hn]
      exact JobPass.endLag_not_better hlag hb

end Sys2Proof.Machine

/-! SUPPORT. The arbiter's choice, and the end of a job in its port (O12). -/

namespace Sys2Proof.Machine

/-! ### The choice (R78, R79) -/

section
variable {s : State}

theorem exec_arbiterStart (h : s.engine.mac = .free) : exec .arbiterStart s = .next (arbitrate s) :=
  congrArg Host.Outcome.next (if_pos h)

theorem exec_arbiterStart_of_not_free (h : s.engine.mac ≠ .free) : exec .arbiterStart s = .next s :=
  congrArg Host.Outcome.next (if_neg h)

/-- The oldest WAITING route entry starts (R66, R78). -/
theorem arbitrate_route {pre post : List RouteEntry} {e : RouteEntry} (h : s.engine.routes = pre ++ e :: post)
    (hpre : ∀ x ∈ pre, x.running = true) (he : e.running = false) :
    arbitrate s = { s with engine := { s.engine with mac := .running .route, routes := pre ++ e.start s :: post } } := by
  have waiting : (s.engine.routes.any fun x => !x.running) = true :=
    List.any_eq_true.mpr ⟨e, by simp [h], by simp [he]⟩
  rw [arbitrate, if_pos waiting, startRoute, h,
    updateFirst_of_split _ (fun x hx => by simp [hpre x hx]) (by simp [he])]

theorem not_any_waiting (h : ∀ x ∈ s.engine.routes, x.running = true) :
    ¬ (s.engine.routes.any fun e => !e.running) = true := by
  intro hany
  obtain ⟨x, hx, hw⟩ := List.any_eq_true.mp hany
  simp [h x hx] at hw

/-- With no WAITING route entry the turn marker's class comes first, here the probes (R78). -/
theorem arbitrate_of_probe_turn (h : ∀ x ∈ s.engine.routes, x.running = true) (hturn : s.engine.turn = .probe) :
    arbitrate s = ((serveProbe s).or (serveJob s)).getD s := by
  rw [arbitrate, if_neg (not_any_waiting h), hturn]

/-- With no WAITING route entry the turn marker's class comes first, here the jobs (R78). -/
theorem arbitrate_of_job_turn (h : ∀ x ∈ s.engine.routes, x.running = true) (hturn : s.engine.turn = .job) :
    arbitrate s = ((serveJob s).or (serveProbe s)).getD s := by
  rw [arbitrate, if_neg (not_any_waiting h), hturn]

theorem serveProbe_nil (h : s.engine.probes = []) : serveProbe s = none := by
  simp [serveProbe, Engine.probeRunnable, h]

theorem serveProbe_cons {e : ProbeEntry} {es : List ProbeEntry} (h : s.engine.probes = e :: es) :
    serveProbe s = some (startProbe s) := by
  simp [serveProbe, Engine.probeRunnable, h]

theorem serveJob_eq_none (h : s.jobChoice = none) : serveJob s = none := by simp [serveJob, h]

theorem serveJob_eq_some {c : JobChoice} (h : s.jobChoice = some c) : serveJob s = some (startJob c s) := by
  simp [serveJob, h]

/-- The probe class is served at its turn, and when the jobs have nothing to run. -/
theorem arbitrate_probe {e : ProbeEntry} {es : List ProbeEntry} (hroutes : ∀ x ∈ s.engine.routes, x.running = true)
    (hprobes : s.engine.probes = e :: es) (h : s.engine.turn = .probe ∨ s.jobChoice = none) :
    arbitrate s = startProbe s := by
  have probe := serveProbe_cons hprobes
  cases hturn : s.engine.turn with
  | probe => simp [arbitrate_of_probe_turn hroutes hturn, probe]
  | job =>
    have job := serveJob_eq_none (h.resolve_left (by rw [hturn]; nofun))
    simp [arbitrate_of_job_turn hroutes hturn, probe, job]

/-- The job class is served at its turn, and when no probe waits. -/
theorem arbitrate_job {c : JobChoice} (hroutes : ∀ x ∈ s.engine.routes, x.running = true)
    (hchoice : s.jobChoice = some c) (h : s.engine.turn = .job ∨ s.engine.probes = []) :
    arbitrate s = startJob c s := by
  have job := serveJob_eq_some hchoice
  cases hturn : s.engine.turn with
  | job => simp [arbitrate_of_job_turn hroutes hturn, job]
  | probe =>
    have probe := serveProbe_nil (h.resolve_left (by rw [hturn]; nofun))
    simp [arbitrate_of_probe_turn hroutes hturn, probe, job]

theorem arbitrate_idle (hroutes : ∀ x ∈ s.engine.routes, x.running = true) (hprobes : s.engine.probes = [])
    (hchoice : s.jobChoice = none) : arbitrate s = s := by
  have probe := serveProbe_nil hprobes
  have job := serveJob_eq_none hchoice
  cases hturn : s.engine.turn with
  | probe => simp [arbitrate_of_probe_turn hroutes hturn, probe, job]
  | job => simp [arbitrate_of_job_turn hroutes hturn, probe, job]

/-! ### The choice among the jobs (R74, R78, R79) -/

theorem PortState.runnableJob_eq_none {ps : PortState}
    (h : ps.ctx.errorPending = true ∨ ∀ job rest, ps.jobs ≠ ⟨.job job, .waiting⟩ :: rest) : ps.runnableJob = none := by
  unfold PortState.runnableJob
  split
  · rfl
  · next hpending =>
    split
    · next job rest hjobs => exact absurd hjobs (h.resolve_left hpending job rest)
    · rfl

theorem PortState.runnableJob_eq_some {ps : PortState} {job : Job} {rest : List QueueEntry}
    (hpending : ps.ctx.errorPending = false) (hjobs : ps.jobs = ⟨.job job, .waiting⟩ :: rest) :
    ps.runnableJob = some job := by
  simp [PortState.runnableJob, hpending, hjobs]

/-- The ports in order, up to a port and from it on. -/
theorem allPorts_split (i : Port) :
    allPorts = allPorts.take i.val ++ i :: allPorts.drop (i.val + 1) ∧ ∀ j ∈ allPorts.take i.val, j < i := by
  revert i
  decide

/-- The first runnable head in cyclic order from the pointer is served (R79). -/
theorem nextJob_eq_some {i : Port} {job : Job} (hbefore : ∀ j < i, (s.port (s.engine.pointer + j)).runnableJob = none)
    (hi : (s.port (s.engine.pointer + i)).runnableJob = some job) : s.nextJob = some (s.engine.pointer + i, job) := by
  obtain ⟨split, earlier⟩ := allPorts_split i
  refine List.findSome?_eq_some_iff.mpr ⟨_, i, _, split, by simp [hi], fun j hj => ?_⟩
  simp [hbefore j (earlier j hj)]

theorem nextJob_eq_none (h : ∀ p, (s.port p).runnableJob = none) : s.nextJob = none :=
  List.findSome?_eq_none_iff.mpr fun i _ => by simp [h]

/-- No job pass to resume and no head to start. -/
theorem jobChoice_eq_none (hpass : ∀ j, s.engine.jobPass = some j → (s.port j.port).ctx.errorPending = true)
    (hheads : s.engine.jobPass = none → ∀ p, (s.port p).ctx.errorPending = true
      ∨ ∀ job rest, (s.port p).jobs ≠ ⟨.job job, .waiting⟩ :: rest) : s.jobChoice = none := by
  unfold State.jobChoice
  split
  · next j hj => rw [if_pos (hpass j hj)]
  · next hnone => rw [nextJob_eq_none fun p => PortState.runnableJob_eq_none (hheads hnone p)]; rfl

theorem jobChoice_resume {j : JobPass} (hj : s.engine.jobPass = some j) (hpending : (s.port j.port).ctx.errorPending = false) :
    s.jobChoice = some (.resume j) := by
  simp [State.jobChoice, hj, hpending]

theorem jobChoice_start {p : Port} {job : Job} (hnone : s.engine.jobPass = none) (h : s.nextJob = some (p, job)) :
    s.jobChoice = some (.start p job) := by
  simp [State.jobChoice, hnone, h]

end

/-! ### What a step reads does not depend on the queues -/

theorem State.windowOf_modPort (s : State) (p : Port) {f : PortState → PortState} (hf : ∀ ps, (f ps).windows = ps.windows)
    (id : WindowId) : (s.modPort p f).windowOf id = s.windowOf id := by
  cases id with
  | shared k => rfl
  | priv q k =>
    show ((s.modPort p f).port q).windows.get k = (s.port q).windows.get k
    rw [State.port_modPort]
    split
    · next h => rw [h, hf]
    · rfl

/-- A step reads windows, work memory and rings alone. -/
theorem JobPass.beginStep_congr (j : JobPass) {s t : State} (hw : ∀ id, t.windowOf id = s.windowOf id)
    (hm : t.mem = s.mem) (hl : t.lane = s.lane) : j.beginStep t = j.beginStep s := by
  have word : t.spanWord = s.spanWord := by
    funext p sp i
    cases sp with
    | window => simp only [State.spanWord, State.readWord, State.resolve, hw, hm]
    | ring => simp only [State.spanWord, hl]
  simp only [JobPass.beginStep, word]

/-! ### The end of a job in its port (R131, R139, R147) -/

/-- The head leaves the queue; JOBS_IDLE when that empties it (R131). -/
def PortState.leaves (ps : PortState) : PortState :=
  let left := { ps with jobs := ps.jobs.drop 1 }
  if left.jobs.isEmpty then left.noticed .jobsIdle else left

/-- The context at the end of a job: its condition codes and its last-job record (R136, R147). -/
def JobEnd.recorded (r : JobEnd) (job : Job) : Context :=
  { r.codes with lastKind := job.code, lastWindow := job.place.1, lastOffset := job.place.2 }

/-- A port at the end of a job with that result (R139). -/
def PortState.ends (r : JobEnd) (job : Job) (ps : PortState) : PortState :=
  let left := ({ ps with ctx := r.recorded job } : PortState).leaves
  if r.stopped then ({ left with ctx := { left.ctx with errorPending := true } } : PortState).noticed .jobStopped else left

theorem State.modPort_congr {s : State} {p : Port} {f g : PortState → PortState} (h : f (s.port p) = g (s.port p)) :
    s.modPort p f = s.modPort p g := by
  rw [State.modPort, h]
  rfl

theorem leaveQueue_eq (p : Port) (s : State) : leaveQueue p s = s.modPort p PortState.leaves := by
  unfold leaveQueue
  extract_lets left
  have hport : left.port p = { s.port p with jobs := (s.port p).jobs.drop 1 } := State.port_modPort_same _ _ _
  rw [hport]
  split
  · next h =>
    rw [State.notify_eq, State.modPort_modPort]
    exact State.modPort_congr (by simp only [PortState.leaves, h, if_true])
  · next h => exact State.modPort_congr (by simp only [PortState.leaves, h, Bool.false_eq_true, if_false])

/-- A job's end is its stores, and its result in its port. -/
theorem jobEnded_eq (j : JobPass) (s : State) (h : j.read ≠ .access) :
    jobEnded j s = (jobResult j s).2.modPort j.port (PortState.ends (jobResult j s).1 j.job) := by
  simp only [jobEnded, h, if_false, leaveQueue_eq, State.modPort_modPort]
  split
  · next hstop =>
    rw [State.notify_eq, State.modPort_modPort]
    exact State.modPort_congr (by simp only [PortState.ends, hstop, if_true]; rfl)
  · next hstop => exact State.modPort_congr (by simp only [PortState.ends, hstop, Bool.false_eq_true, if_false]; rfl)

@[simp] theorem PortState.leaves_jobs (ps : PortState) : ps.leaves.jobs = ps.jobs.drop 1 := by
  unfold PortState.leaves
  extract_lets left
  split <;> rfl

@[simp] theorem PortState.leaves_ctx (ps : PortState) : ps.leaves.ctx = ps.ctx := by
  unfold PortState.leaves
  extract_lets left
  split <;> rfl

theorem PortState.leaves_idle {ps : PortState} (h : ps.jobs.drop 1 = []) : ps.leaves.notices.jobsIdle = true := by
  simp [PortState.leaves, h, PortState.noticed, Notices.add]

section
variable (r : JobEnd) (job : Job) (ps : PortState)

@[simp] theorem PortState.ends_jobs : (ps.ends r job).jobs = ps.jobs.drop 1 := by
  unfold PortState.ends
  extract_lets left
  have hleft : left.jobs = ps.jobs.drop 1 := PortState.leaves_jobs _
  split
  · exact hleft
  · exact hleft

theorem PortState.ends_idle {ps : PortState} (h : ps.jobs.drop 1 = []) : (ps.ends r job).notices.jobsIdle = true := by
  unfold PortState.ends
  extract_lets left
  have hleft : left.notices.jobsIdle = true := PortState.leaves_idle h
  split
  · exact hleft
  · exact hleft

theorem PortState.ends_ctx (h : r.stopped = false) : (ps.ends r job).ctx = r.recorded job := by
  simp [PortState.ends, h]

end

/-! ### The results of a job of no step (R140 to R142) -/

/-- One more entry is not EMPTY at most. -/
theorem tagDepth_vset_le (tags : Vector Tag 8) (i : Fin 8) (t : Tag) : tagDepth (vset tags i t) ≤ tagDepth tags + 1 := by
  have hlen : i.val < tags.toList.length := by simp
  have hset : (vset tags i t).toList = tags.toList.set i.val t := Vector.toList_set _
  unfold tagDepth
  rw [← List.countP_eq_length_filter, ← List.countP_eq_length_filter, hset, List.countP_set hlen]
  split <;> split <;> omega

/-- A zero is pushed. -/
def Context.pushZero (c : Context) : Context := c.pushRaw 0 .valid

theorem JobEnd.push_zero {r : JobEnd} (hover : r.over = false) (h : r.ctx.depth ≠ 8) :
    r.push 0 .valid = { r with ctx := r.ctx.pushZero, written := some 0 } := by
  simp only [JobEnd.push, hover, h, Bool.false_eq_true, if_false]
  rfl

theorem JobEnd.push2_zero {c : Context} (h : c.depth < 7) :
    (JobEnd.start c).push2 0 0 = { JobEnd.start c with ctx := c.pushZero.pushZero, written := some 0 } := by
  have first : (JobEnd.start c).push 0 .valid = { JobEnd.start c with ctx := c.pushZero, written := some 0 } :=
    JobEnd.push_zero rfl (show c.depth ≠ 8 by omega)
  have deeper : c.pushZero.depth ≤ c.depth + 1 := tagDepth_vset_le _ _ _
  have room : (decide ((JobEnd.start c).ctx.depth > 6) && !(JobEnd.start c).ctx.masked .stack) = false := by
    have h6 : ¬ (JobEnd.start c).ctx.depth > 6 := by show ¬ c.depth > 6; omega
    simp [h6]
  rw [JobEnd.push2, if_neg (by nofun), room, if_neg (by nofun), first]
  exact JobEnd.push_zero rfl (show c.pushZero.depth ≠ 8 by omega)

/-- A job of no step stores nothing. -/
theorem jobResult_state {j : JobPass} {s : State} (h : j.job.steps = 0) : (jobResult j s).2 = s := by
  unfold jobResult
  extract_lets c
  cases hj : j.job with
  | store => rw [hj] at h; cases h
  | _ => rfl

/-- The context after a job that pushed a zero last. -/
theorem JobEnd.recorded_zero (c d : Context) (job : Job) :
    ({ JobEnd.start c with ctx := d, written := some 0 } : JobEnd).recorded job = { d with
      c0 := false, c1 := false, c3 := true
      lastKind := job.code, lastWindow := job.place.1, lastOffset := job.place.2 } := rfl

section
variable {p : Port} {s : State} {c : Context} (hc : (s.port p).ctx = c) {job : Job} {a b : Span} {l : Nat}
include hc

/-- DOT and ENERGY of no word, with accumulate: nothing is pushed (R140). -/
theorem jobResult_accumulates (h : job = .dot a b 0 true ∨ job = .energy a 0 true) :
    (jobResult (.start p job) s).1 = JobEnd.start c := by
  rcases h with rfl | rfl <;> exact congrArg JobEnd.start hc

/-- DOT and ENERGY of no word push a zero (R140). -/
theorem jobResult_pushes (h : job = .dot a b 0 false ∨ job = .energy a 0 false) (hd : c.depth < 8) :
    (jobResult (.start p job) s).1 = { JobEnd.start c with ctx := c.pushZero, written := some 0 } := by
  subst hc
  have push := JobEnd.push_zero (r := JobEnd.start (s.port p).ctx) rfl (Nat.ne_of_lt hd)
  rcases h with rfl | rfl <;> exact push

/-- PEAK and SWEEP of no word push two zeros (R141, R142). -/
theorem jobResult_pushes_two (h : job = .peak a 0 ∨ job = .sweep a b 0 l) (hd : c.depth < 7) :
    (jobResult (.start p job) s).1 = { JobEnd.start c with ctx := c.pushZero.pushZero, written := some 0 } := by
  subst hc
  have push := JobEnd.push2_zero hd
  rcases h with rfl | rfl <;> exact push

end

/-- A job has no step when its count is 0. -/
theorem Job.count_of_no_step {job : Job} {n : Nat} (h : job.steps = 0) (hn : job.count = n) : n = 0 := by
  subst hn
  cases job with
  | sweep a b n l => exact (Nat.mul_eq_zero.mp h).resolve_left (Nat.succ_ne_zero l)
  | _ => exact h

/-! ### The start of a job (R75, R79) -/

section
variable {s : State} {p : Port} {job : Job} {rest : List QueueEntry}

/-- A port whose head job is IN_PASS. -/
def PortState.headInPass (ps : PortState) : PortState := { ps with jobs := setHead .inPass ps.jobs }

/-- The state with the job's turn taken and its head IN_PASS. -/
def State.turnTaken (s : State) (p : Port) : State :=
  { s.modPort p PortState.headInPass with engine := { s.engine with turn := .probe, pointer := p + 1 } }

theorem State.port_turnTaken (s : State) (p q : Port) :
    (s.turnTaken p).port q = if q = p then (s.port p).headInPass else s.port q :=
  State.port_modPort s p q PortState.headInPass

theorem startJob_pass (h : 0 < job.steps) : startJob (.start p job) s = { s.turnTaken p with engine := { s.engine with
    mac := .running .job, turn := .probe, pointer := p + 1, jobPass := some ((JobPass.start p job).beginStep s) } } := by
  have same : (JobPass.start p job).beginStep (s.turnTaken p) = (JobPass.start p job).beginStep s :=
    JobPass.beginStep_congr _ (s.windowOf_modPort p (f := PortState.headInPass) fun _ => rfl) rfl rfl
  rw [← same]
  exact if_neg (Nat.ne_of_gt h)

/-- A job of no step ends at once (R75). -/
theorem startJob_ends (h : job.steps = 0) : startJob (.start p job) s
    = (s.turnTaken p).modPort p (PortState.ends (jobResult (.start p job) (s.turnTaken p)).1 job) := by
  have atOnce : startJob (.start p job) s = jobEnded (.start p job) (s.turnTaken p) := if_pos h
  rw [atOnce, jobEnded_eq _ _ (by nofun), jobResult_state h]
  rfl

/-- The context after a job of no step with that result. -/
theorem startJob_ctx (h : job.steps = 0) {r : JobEnd} (hr : (jobResult (.start p job) (s.turnTaken p)).1 = r)
    (hstop : r.stopped = false) : ((startJob (.start p job) s).port p).ctx = r.recorded job := by
  rw [startJob_ends h, State.port_modPort_same, hr]
  exact PortState.ends_ctx _ _ _ hstop

end

/-- Settles O12, by the arbiter's choice and the turn that it gives the served job. -/
theorem arbiterServesWork : Obligations.ArbiterServesWork := by
  unfold Obligations.ArbiterServesWork
  intro noJob
  have no_choice {s : State} (h : noJob s) : s.jobChoice = none := jobChoice_eq_none h.1 h.2
  refine ⟨fun s pre post e hmac hroutes hpre he => ?route, fun s e es hmac hroutes hturn hprobes => ?probe,
    fun s j hmac hroutes hturn hj hpending => ?resume,
    fun s i job rest hmac hroutes hturn hnone hbefore hpending hjobs => ?start,
    fun s hmac hroutes hprobes hno => ?idle, fun s hmac => exec_arbiterStart_of_not_free hmac⟩
  case route => rw [exec_arbiterStart hmac, arbitrate_route hroutes hpre he]
  case probe =>
    rw [exec_arbiterStart hmac, arbitrate_probe hroutes hprobes (hturn.imp_right no_choice), startProbe, hprobes]
  case resume =>
    rw [exec_arbiterStart hmac, arbitrate_job hroutes (jobChoice_resume hj hpending) hturn]
    rfl
  case idle => rw [exec_arbiterStart hmac, arbitrate_idle hroutes hprobes (no_choice hno)]
  case start =>
    intro p
    have choice := jobChoice_start hnone (nextJob_eq_some hbefore (PortState.runnableJob_eq_some hpending hjobs))
    have head : ((s.turnTaken p).port p).jobs = ⟨.job job, .inPass⟩ :: rest := by
      rw [State.port_turnTaken, if_pos rfl, PortState.headInPass, hjobs]
      rfl
    have ctx : ((s.turnTaken p).port p).ctx = (s.port p).ctx := by
      rw [State.port_turnTaken, if_pos rfl]
      rfl
    have other {q : Port} (hq : q ≠ p) : (s.turnTaken p).port q = s.port q := by
      rw [State.port_turnTaken, if_neg hq]
    refine ⟨startJob (.start p job) s, by rw [exec_arbiterStart hmac, arbitrate_job hroutes choice hturn], ?_⟩
    rcases Nat.eq_zero_or_pos job.steps with hsteps | hsteps
    case inr =>
      rw [startJob_pass hsteps]
      exact ⟨fun q hq => other hq, rfl, fun _ => ⟨head, rfl⟩, fun h => absurd h (Nat.ne_of_gt hsteps)⟩
    case inl =>
      have context {r : JobEnd} := startJob_ctx (s := s) (p := p) hsteps (r := r)
      rw [startJob_ends hsteps] at context ⊢
      refine ⟨fun q hq => (State.port_modPort_ne _ _ _ _ hq).trans (other hq), rfl,
        fun h => absurd hsteps (Nat.ne_of_gt h), fun _ => ⟨?jobs, fun hrest => ?told, rfl, ?ctx⟩⟩
      case jobs => rw [State.port_modPort_same, PortState.ends_jobs, head]; rfl
      case told =>
        rw [State.port_modPort_same]
        exact PortState.ends_idle _ _ (by rw [head]; exact hrest)
      case ctx =>
        intro c ended zero
        have count {n : Nat} (h : job.count = n) : n = 0 := Job.count_of_no_step hsteps h
        refine ⟨fun a b n hj => ?_, fun a n hj => ?_, fun hd => ⟨fun a b n hj => ?_, fun a n hj => ?_⟩,
          fun hd => ⟨fun a n hj => ?_, fun a b n l hj => ?_⟩⟩
        all_goals obtain rfl := count (congrArg Job.count hj)
        · exact context (jobResult_accumulates ctx (.inl hj)) rfl
        · exact context (jobResult_accumulates ctx (b := a) (.inr hj)) rfl
        · exact (context (jobResult_pushes ctx (.inl hj) hd) rfl).trans (JobEnd.recorded_zero _ _ _)
        · exact (context (jobResult_pushes ctx (b := a) (.inr hj) hd) rfl).trans (JobEnd.recorded_zero _ _ _)
        · exact (context (jobResult_pushes_two ctx (b := a) (l := 0) (.inl hj) hd) rfl).trans (JobEnd.recorded_zero _ _ _)
        · exact (context (jobResult_pushes_two ctx (.inr hj) hd) rfl).trans (JobEnd.recorded_zero _ _ _)

end Sys2Proof.Machine

/-! SUPPORT. What the controller leaves of the record, the engine and the queue when it takes the scores of a probe (O16). -/

namespace Sys2Proof.Machine

/-! ### The record and the queue under the scores of a probe (R73, R93) -/

/-- q is p but for what the controller writes when it takes the scores of a probe, and a commit that it starts. -/
def ScoreOnly (p q : Profile) : Prop :=
  q = { p with
    candidate := q.candidate, adapt := q.adapt, search := q.search, lastOutcome := q.lastOutcome, probeRef := q.probeRef
    stage := q.stage, flipEvent := q.flipEvent, bank0 := q.bank0, bank1 := q.bank1 }

theorem ScoreOnly.trans {p q r : Profile} (a : ScoreOnly p q) (b : ScoreOnly q r) : ScoreOnly p r := by
  rw [ScoreOnly, b, a]

/-- From s to t the controller has gone on with profile n, which has no probe: at most one probe, of that profile and WAITING, is
appended to the queue. -/
structure GoesOn (n : ProfileId) (s t : State) : Prop where
  record : ScoreOnly (s.profile n) (t.profile n)
  engine : ∃ new, t.engine = { s.engine with probes := s.engine.probes ++ new }
    ∧ (∀ x ∈ new, x.profile = n ∧ x.condition = .waiting) ∧ new.length ≤ 1

theorem withdrawProbe_of_nil {n : ProfileId} {s : State} (h : s.engine.probesOf n = []) : withdrawProbe n s = s := by
  have hx : s.engine.probeOf n = none := by rw [Engine.probeOf_eq_head?, h]; rfl
  simp only [withdrawProbe, hx]

/-- A commit starts on the record alone (R33, R101). -/
theorem succeed_eq (n : ProfileId) (o : CommitOrigin) (s : State) : succeed n o s = s.modProfile n fun p =>
    ({ p with adapt := .committing, search := { p.search with origin := o, continueAfter := true }
              stage := .waitingSpare } : Profile).copyIfDue s.lane.blockCounter := by
  unfold succeed startCommit tryCopy
  rw [State.modProfile_modProfile, State.modProfile_modProfile]
  rfl

namespace GoesOn

variable {n : ProfileId} {s t : State}

/-- The controller goes on with the queue as it is. -/
theorem of_engine (record : ScoreOnly (s.profile n) (t.profile n)) (engine : t.engine = s.engine) : GoesOn n s t :=
  ⟨record, [], by rw [engine, List.append_nil], by simp, Nat.zero_le 1⟩

theorem refl (n : ProfileId) (s : State) : GoesOn n s s := of_engine rfl rfl

theorem modProfile (f : Profile → Profile) (h : ScoreOnly (s.profile n) (f (s.profile n))) : GoesOn n s (s.modProfile n f) :=
  of_engine (by rw [State.profile_modProfile_same]; exact h) rfl

/-- The controller goes on from a change of the record. -/
theorem after {f : Profile → Profile} (goesOn : GoesOn n (s.modProfile n f) t)
    (h : ScoreOnly (s.profile n) (f (s.profile n))) : GoesOn n s t := by
  refine ⟨h.trans ?_, goesOn.engine⟩
  rw [← State.profile_modProfile_same s n f]
  exact goesOn.record

theorem succeed (o : CommitOrigin) (s : State) : GoesOn n s (succeed n o s) := by
  rw [succeed_eq]
  refine modProfile _ ?_
  rw [ScoreOnly, Profile.copyIfDue_eq]

/-- Without a probe of the profile an adaptation ends on its record and in notices. -/
theorem endAdaptation (o : Outcome) (h : s.engine.probesOf n = []) : GoesOn n s (endAdaptation n o s) := by
  unfold Machine.endAdaptation
  rw [withdrawProbe_of_nil h]
  refine of_engine ?_ (onlyNotices_notifyMembers _ n _).engine
  rw [(onlyNotices_notifyMembers _ n _).profile, State.profile_modProfile_same]
  rfl

theorem tryQueue (h : s.engine.probesOf n = []) : GoesOn n s (tryQueue n s) := by
  unfold Machine.tryQueue
  extract_lets p w
  split
  · exact refl n s
  · split
    · exact endAdaptation _ h
    · split
      · refine ⟨?_, [p.probeEntry n w], rfl, by simp [Profile.probeEntry], le_refl _⟩
        rw [State.modSearch, State.profile_modProfile_same, queueProbe_profile]
        rfl
      · exact refl n s

theorem endShaping (c : Fin 32) (fom : Int) (h : s.engine.probesOf n = []) : GoesOn n s (endShaping n c fom s) := by
  unfold Machine.endShaping
  extract_lets p s'
  refine after (f := fun p => { p with candidate := { p.candidate with emphasis := Fin.ofNat 16 c.val } }) ?_ rfl
  split
  · exact succeed _ s'
  · split
    · split
      · exact succeed _ s'
      · exact endAdaptation _ h
    · exact after (tryQueue h) rfl

theorem applyShaping (fom : Int) (h : s.engine.probesOf n = []) : GoesOn n s (applyShaping n fom s) := by
  unfold Machine.applyShaping
  extract_lets p q better best bestTrial s'
  refine after (f := fun p => { p with search := { p.search with bestFom := some best, bestTrial := bestTrial } }) ?_ rfl
  split
  · exact endShaping _ _ h
  · split
    · exact after (tryQueue h) rfl
    · exact endShaping _ _ h

theorem endTrimPass (best : Int) (h : s.engine.probesOf n = []) : GoesOn n s (endTrimPass n best s) := by
  unfold Machine.endTrimPass
  extract_lets p
  split
  · split
    · exact after (tryQueue h) rfl
    · exact succeed _ s
  · split
    · exact endAdaptation _ h
    · exact after (tryQueue h) rfl

theorem applyTrim (fom : Int) (h : s.engine.probesOf n = []) : GoesOn n s (applyTrim n fom s) := by
  unfold Machine.applyTrim
  extract_lets p q better best bestTrial run s' s''
  refine after (f := fun p => { p with
    search := { p.search with bestFom := some best, bestTrial := bestTrial, run := run } }) ?_ rfl
  split
  · refine after (f := fun p => { p with
      candidate := { p.candidate with weights := vset p.candidate.weights q.tap bestTrial } }) ?_ rfl
    split
    · exact after (tryQueue h) rfl
    · exact endTrimPass _ h
  · exact after (tryQueue h) rfl

theorem decideRound (s : State) : GoesOn n s (decideRound n s) := by
  unfold Machine.decideRound
  extract_lets p
  split
  · exact after (succeed _ _) rfl
  · exact modProfile _ rfl

theorem advanceRound (left : Nat) (h : s.engine.probesOf n = []) : GoesOn n s (advanceRound n left s) := by
  unfold Machine.advanceRound
  split
  · exact after (tryQueue h) rfl
  · exact decideRound s

theorem applyRound (fom : Int) (h : s.engine.probesOf n = []) : GoesOn n s (applyRound n fom s) := by
  unfold Machine.applyRound
  extract_lets p q own better best bestTrial s'
  split
  · exact after (advanceRound _ h) rfl
  · refine after (f := fun p => { p with search := { p.search with bestFom := some best, bestTrial := bestTrial } }) ?_ rfl
    split
    · exact after (tryQueue h) rfl
    · exact after (advanceRound _ h) rfl

theorem applyFom (fom : Int) (h : s.engine.probesOf n = []) : GoesOn n s (applyFom n fom s) := by
  unfold Machine.applyFom
  split
  · exact applyShaping fom h
  · exact applyShaping fom h
  · exact applyTrim fom h
  · exact applyRound fom h
  · exact refl n s
  · exact refl n s

end GoesOn

end Sys2Proof.Machine

/-! SUPPORT. Where an adaptation goes on from the figure of merit of a probe (O16): attempts, successes and failures. -/

namespace Sys2Proof.Machine

/-! ### A BOUND profile without a probe (R68, R69) -/

/-- Profile n is BOUND with record q, and no probe of it is queued or running. -/
structure State.Unprobed (s : State) (n : ProfileId) (q : Profile) : Prop where
  record    : s.profile n = q
  bound     : q.state = .bound
  probes    : s.engine.probesOf n = []
  reference : q.probeRef = false
  window    : q.search.window = none

/-- The record has an evaluation in hand (R92). -/
def Profile.Evaluates (q : Profile) : Prop :=
  q.adapt = .searchShape ∨ q.adapt = .searchTrim ∨ q.adapt = .searchReshape
    ∨ (q.adapt = .tracking ∧ q.search.phase = .round)

theorem Profile.Evaluates.wantsProbe {q : Profile} (h : q.Evaluates) (hf : q.probeRef = false) : q.wantsProbe = true := by
  rcases h with h | h | h | ⟨h, hp⟩
  · simp [Profile.wantsProbe, hf, h]
  · simp [Profile.wantsProbe, hf, h]
  · simp [Profile.wantsProbe, hf, h]
  · simp [Profile.wantsProbe, hf, h, hp]

namespace State.Unprobed

variable {s : State} {n : ProfileId} {q : Profile}

theorem probeCounted (h : s.Unprobed n q) : s.ProbeCounted n := by
  rw [State.ProbeCounted, h.probes, h.record, h.reference, h.window]
  exact ⟨rfl, rfl⟩

/-- A change of the record that leaves it BOUND and without a probe. -/
theorem modProfile (h : s.Unprobed n q) (f : Profile → Profile) (state : (f q).state = q.state)
    (reference : (f q).probeRef = q.probeRef) (window : (f q).search.window = q.search.window) :
    (s.modProfile n f).Unprobed n (f q) := by
  refine ⟨?_, state.trans h.bound, h.probes, reference.trans h.reference, window.trans h.window⟩
  rw [State.profile_modProfile_same, h.record]

theorem modSearch (h : s.Unprobed n q) (f : SearchPosition → SearchPosition) (window : (f q.search).window = q.search.window) :
    (s.modSearch n f).Unprobed n { q with search := f q.search } :=
  h.modProfile (fun p => { p with search := f p.search }) rfl rfl window

theorem attempts (h : s.Unprobed n q) (hq : q.Evaluates) : (tryQueue n s).Attempts n q := by
  have hrecord := h.record
  subst hrecord
  exact tryQueue_attempts h.bound h.probeCounted (hq.wantsProbe h.reference)

theorem fails (h : s.Unprobed n q) (o : Outcome) : (endAdaptation n o s).Fails n q o := by
  have hrecord := h.record
  subst hrecord
  exact endAdaptation_fails o h.bound h.probeCounted

/-- A commit of the candidate, which copies at once when nothing references the spare (R33, R101). -/
theorem succeeds (h : s.Unprobed n q) (o : CommitOrigin) : (succeed n o s).Succeeds n q o := by
  obtain ⟨started, hstarted⟩ : ∃ r : Profile, r = { q with
      adapt := .committing, search := { q.search with origin := o, continueAfter := true }
      stage := .waitingSpare } := ⟨_, rfl⟩
  have refs (b : BankId) : started.refs b = q.refs b := by rw [hstarted]; cases b <;> rfl
  have bank (b : BankId) : started.bank b = q.bank b := by rw [hstarted]; cases b <;> rfl
  have spare : started.spare = q.spare := by rw [hstarted]; rfl
  have hstage : started.stage = .waitingSpare := by rw [hstarted]
  have hrecord : (succeed n o s).profile n = started.copyIfDue s.lane.blockCounter := by
    rw [succeed_eq, State.profile_modProfile_same, h.record, hstarted]
  have hlane : (succeed n o s).lane = s.lane := by rw [succeed_eq]; rfl
  unfold State.Succeeds
  rw [hrecord, hlane]
  refine ⟨?same, Engine.probesOf_eq_nil.mp ?probes, ?live, fun hr => ?waits, fun hr => ?copies⟩
  case same =>
    rw [Profile.copyIfDue_eq, hstarted]
    exact ⟨rfl, rfl, rfl, rfl, rfl, rfl, rfl⟩
  case probes =>
    rw [succeed_eq]
    exact h.probes
  case live =>
    have hlive : started.live = q.live := by rw [hstarted]
    rw [← hlive, Profile.bank_live_copyIfDue, bank]
  case waits =>
    rw [Profile.copyIfDue_referenced (by rw [spare, refs]; exact hr), bank]
    exact ⟨hstage, rfl⟩
  case copies =>
    obtain ⟨stage, event, copied⟩ := Profile.copyIfDue_due (B := s.lane.blockCounter) hstage (by rw [spare, refs]; exact hr)
    rw [spare] at copied
    exact ⟨stage, event, copied.trans (by rw [hstarted])⟩

end State.Unprobed

/-- An attempt keeps the search position but for its phase, when it fails, and its window. -/
theorem State.Attempts.search {t : State} {n : ProfileId} {p : Profile} (h : t.Attempts n p) :
    ∃ phase window, (t.profile n).search = { p.search with phase := phase, window := window } := by
  obtain ⟨trial, sel, -, hfails, hwaits, hqueues⟩ := h
  by_cases able : (∀ lag, p.config.target ≠ .generator lag) ∨ t.gen.running = true
  · by_cases allowed : t.lane.state = .running
        ∧ atOrAfter (p.windowTo t.lane.blockCounter).oldest t.lane.validFrom t.lane.blockCounter = true
    · obtain ⟨⟨-, hsearch, -⟩, -⟩ := hqueues able allowed
      exact ⟨_, _, hsearch⟩
    · obtain ⟨⟨-, hsearch, -⟩, -⟩ := hwaits able allowed
      exact ⟨_, _, hsearch⟩
  · obtain ⟨⟨-, hsearch, -⟩, -⟩ := hfails able
    exact ⟨_, _, hsearch⟩

/-! ### The best figure of merit so far (R97, R99, R105) -/

/-- The best FoM so far and its trial, after a trial that does better than the best or not. -/
def SearchPosition.bestAfter (q : SearchPosition) (better : Bool) (fom : Int) : Int × Fin 32 :=
  (if better then fom else q.bestFom.getD fom, if better then q.trial else q.bestTrial)

theorem SearchPosition.bestAfter_eq {q : SearchPosition} {better : Bool} {fom best : Int} {chosen : Fin 32}
    (hbetter : better = true → best = fom ∧ chosen = q.trial)
    (hworse : better = false → ∃ b, q.bestFom = some b ∧ best = b ∧ chosen = q.bestTrial) :
    q.bestAfter better fom = (best, chosen) := by
  cases better with
  | true =>
    obtain ⟨rfl, rfl⟩ := hbetter rfl
    rfl
  | false =>
    obtain ⟨b, hb, rfl, rfl⟩ := hworse rfl
    simp [SearchPosition.bestAfter, hb]

theorem beats_iff {fom : Int} {o : Option Int} : beats fom o = true ↔ ∀ b, o = some b → b < fom := by
  cases o <;> simp [beats]

theorem beats_eq_false_iff {fom : Int} {o : Option Int} : beats fom o = false ↔ ∃ b, o = some b ∧ fom ≤ b := by
  cases o <;> simp [beats]

/-- The best of a search: of equal FoMs the first (R97, R99). -/
theorem SearchPosition.bestAfter_beats {q : SearchPosition} {fom best : Int} {chosen : Fin 32}
    (hbetter : (∀ b, q.bestFom = some b → b < fom) → best = fom ∧ chosen = q.trial)
    (hworse : ∀ b, q.bestFom = some b → fom ≤ b → best = b ∧ chosen = q.bestTrial) :
    q.bestAfter (beats fom q.bestFom) fom = (best, chosen) := by
  refine bestAfter_eq (fun h => hbetter (beats_iff.mp h)) fun h => ?_
  obtain ⟨b, hb, hle⟩ := beats_eq_false_iff.mp h
  exact ⟨b, hb, hworse b hb hle⟩

/-- A trial that does better is the best. -/
theorem SearchPosition.bestAfter_of_beats {q : SearchPosition} {fom best : Int} {chosen : Fin 32}
    (h : q.bestAfter (beats fom q.bestFom) fom = (best, chosen)) (hb : ∀ b, q.bestFom = some b → b < fom) :
    best = fom ∧ chosen = q.trial := by
  rw [beats_iff.mpr hb] at h
  obtain ⟨rfl, rfl⟩ := Prod.mk.inj h
  exact ⟨rfl, rfl⟩

/-- A trial that does no better leaves the best. -/
theorem SearchPosition.bestAfter_of_not_beats {q : SearchPosition} {fom best b : Int} {chosen : Fin 32}
    (h : q.bestAfter (beats fom q.bestFom) fom = (best, chosen)) (hq : q.bestFom = some b) (hle : fom ≤ b) :
    best = b ∧ chosen = q.bestTrial := by
  rw [beats_eq_false_iff.mpr ⟨b, hq, hle⟩, SearchPosition.bestAfter, hq] at h
  obtain ⟨rfl, rfl⟩ := Prod.mk.inj h
  exact ⟨rfl, rfl⟩

/-! ### Shaping (R97, R98) -/

section
variable {s : State} {n : ProfileId} {q : Profile} (h : s.Unprobed n q)
include h

/-- Shaping ends with a chosen emphasis and its FoM (R98). -/
theorem endShaping_spec (chosen : Fin 32) (fom : Int) :
    let shaped : Profile := { q with candidate := { q.candidate with emphasis := Fin.ofNat 16 chosen.val } }
    let t := endShaping n chosen fom s
    (q.adapt = .searchReshape → t.Succeeds n shaped .search)
      ∧ (q.adapt = .searchShape → q.config.mode = 1 →
        (q.config.acceptance ≤ fom → t.Succeeds n shaped .search)
        ∧ (fom < q.config.acceptance → t.Fails n shaped .lowMerit))
      ∧ (q.adapt = .searchShape → q.config.mode ≠ 1 →
        t.Attempts n { shaped with adapt := .searchTrim, search := q.search.trimFrom false }) := by
  intro shaped t
  have hu := h.modProfile (fun p => { p with candidate := { p.candidate with emphasis := Fin.ofNat 16 chosen.val } })
    rfl rfl rfl
  generalize hs : s.modProfile n _ = u at hu
  have ht : t = if q.adapt = .searchReshape then succeed n .search u
      else if q.config.mode = 1 then
        if q.config.acceptance ≤ fom then succeed n .search u else endAdaptation n .lowMerit u
      else tryQueue n (u.modProfile n fun p => { p with adapt := .searchTrim, search := p.search.trimFrom false }) := by
    rw [← hs, ← h.record]
    rfl
  rw [ht]
  refine ⟨fun ha => ?_, fun ha hm => ⟨fun hf => ?_, fun hf => ?_⟩, fun ha hm => ?_⟩
  · rw [if_pos ha]
    exact hu.succeeds .search
  · rw [if_neg (by rw [ha]; nofun), if_pos hm, if_pos hf]
    exact hu.succeeds .search
  · rw [if_neg (by rw [ha]; nofun), if_pos hm, if_neg (Int.not_le.mpr hf)]
    exact hu.fails .lowMerit
  · rw [if_neg (by rw [ha]; nofun), if_neg hm]
    exact (hu.modProfile _ rfl rfl rfl).attempts (.inr (.inl rfl))

variable {fom best : Int} {chosen : Fin 32} (hbest : q.search.bestAfter (beats fom q.search.bestFom) fom = (best, chosen))
include hbest

/-- A shaping trial's FoM (R97). -/
theorem applyShaping_eq :
    let found := s.modSearch n fun x => { x with bestFom := some best, bestTrial := chosen }
    applyShaping n fom s =
      if q.adapt = .searchShape ∧ q.config.mode = 3 ∧ q.config.shapingMinimum ≤ fom then
        endShaping n q.search.trial fom found
      else if q.search.trial.val < 15 then tryQueue n (found.modSearch n fun x => { x with trial := x.trial + 1 })
      else endShaping n chosen best found := by
  obtain ⟨rfl, rfl⟩ := Prod.mk.inj hbest
  rw [← h.record]
  rfl

/-- Shaping after a trial: the next emphasis, or its end with the best one, or with this one at the shaping minimum (R97, R98). -/
theorem applyShaping_spec (ha : q.adapt = .searchShape ∨ q.adapt = .searchReshape) :
    let found : SearchPosition := { q.search with bestFom := some best, bestTrial := chosen }
    let stops : Prop := q.adapt = .searchShape ∧ q.config.mode = 3 ∧ q.config.shapingMinimum ≤ fom
    let t := applyShaping n fom s
    (¬ stops → q.search.trial.val < 15 → t.Attempts n { q with search := { found with trial := q.search.trial + 1 } })
      ∧ ∀ at_ : Fin 32, (stops → at_ = q.search.trial) → (¬ stops → at_ = chosen) → (stops ∨ 15 ≤ q.search.trial.val) →
        let shaped : Profile := { q with
          candidate := { q.candidate with emphasis := Fin.ofNat 16 at_.val }, search := found }
        (q.adapt = .searchReshape → t.Succeeds n shaped .search)
        ∧ (q.adapt = .searchShape → q.config.mode = 1 →
          (q.config.acceptance ≤ best → t.Succeeds n shaped .search)
          ∧ (best < q.config.acceptance → t.Fails n shaped .lowMerit))
        ∧ (q.adapt = .searchShape → q.config.mode ≠ 1 → t.Attempts n { shaped with
            adapt := .searchTrim, search := found.trimFrom false }) := by
  intro found stops t
  have ht : t = _ := applyShaping_eq h hbest
  have hfound := h.modSearch (fun x => { x with bestFom := some best, bestTrial := chosen }) rfl
  refine ⟨fun hstops htrial => ?_, fun at_ hat hat' hends => ?_⟩
  · rw [ht, if_neg hstops, if_pos htrial]
    exact (hfound.modSearch _ rfl).attempts (ha.imp_right fun hr => .inr (.inl hr))
  · by_cases hstops : stops
    · obtain ⟨-, hmode, -⟩ := id hstops
      obtain ⟨reshaped, -, trims⟩ := endShaping_spec hfound q.search.trial fom
      rw [ht, if_pos hstops, hat hstops]
      exact ⟨reshaped, fun _ hm => absurd (hmode.symm.trans hm) (by decide), trims⟩
    · rw [ht, if_neg hstops, if_neg (Nat.not_lt.mpr (hends.resolve_left hstops)), hat' hstops]
      exact endShaping_spec hfound chosen best

/-- Shaping that goes on notes the better figure of merit and its trial (R97). -/
theorem applyShaping_notes (ha : q.adapt = .searchShape) (hm : q.config.mode ≠ 3) (htrial : q.search.trial.val < 15) :
    let found := ((applyShaping n fom s).profile n).search
    found.trial = q.search.trial + 1 ∧ found.bestFom = some best ∧ found.bestTrial = chosen := by
  obtain ⟨next, -⟩ := applyShaping_spec h hbest (.inl ha)
  obtain ⟨phase, window, hsearch⟩ := (next (fun ⟨_, h3, _⟩ => hm h3) htrial).search
  rw [hsearch]
  exact ⟨rfl, rfl, rfl⟩

end

/-! ### Trim search (R99, R100) -/

section
variable {s : State} {n : ProfileId} {q : Profile} (h : s.Unprobed n q)
include h

/-- Tap 5 has ended with its best FoM (R100). -/
theorem endTrimPass_spec (best : Int) (ha : q.adapt = .searchTrim) :
    let t := endTrimPass n best s
    (q.config.acceptance ≤ best →
        (q.config.mode ≠ 3 → t.Succeeds n q .search)
        ∧ (q.config.mode = 3 → t.Attempts n { q with
            adapt := .searchReshape, search := { q.search with phase := .reshape, trial := 0, bestFom := none } }))
      ∧ (best < q.config.acceptance →
        (q.search.secondPass = false → t.Attempts n { q with
            candidate := { q.candidate with
              weights := Vector.replicate 5 0, polarities := vmap (fun b => !b) q.candidate.polarities }
            search := q.search.trimFrom true })
        ∧ (q.search.secondPass = true → t.Fails n q .lowMerit)) := by
  intro t
  have ht : t = endTrimPass n best s := rfl
  rw [ht]
  unfold endTrimPass
  rw [h.record]
  dsimp only
  refine ⟨fun hf => ⟨fun hm => ?_, fun hm => ?_⟩, fun hf => ⟨fun hp => ?_, fun hp => ?_⟩⟩
  · rw [if_pos hf, if_neg hm]
    exact h.succeeds .search
  · rw [if_pos hf, if_pos hm]
    exact (h.modProfile _ rfl rfl rfl).attempts (.inr (.inr (.inl rfl)))
  · rw [if_neg (Int.not_le.mpr hf), if_neg (by rw [hp]; nofun)]
    exact (h.modProfile (fun p => { p with
      candidate := { p.candidate with weights := Vector.replicate 5 0, polarities := vmap (fun b => !b) p.candidate.polarities }
      search := p.search.trimFrom true }) rfl rfl rfl).attempts (.inr (.inl ha))
  · rw [if_neg (Int.not_le.mpr hf), if_pos hp]
    exact h.fails .lowMerit

end

/-- The run of trials that did worse than the best, after one more (R99). -/
def SearchPosition.runAfter (q : SearchPosition) (fom : Int) : Fin 3 :=
  if beats fom q.bestFom || fom == (q.bestAfter (beats fom q.bestFom) fom).1 then 0 else q.run + 1

theorem SearchPosition.runAfter_eq {q : SearchPosition} {fom : Int} {run : Fin 3}
    (hreset : (∀ b, q.bestFom = some b → b ≤ fom) → run = 0)
    (hworse : ∀ b, q.bestFom = some b → fom < b → run = q.run + 1) : q.runAfter fom = run := by
  unfold SearchPosition.runAfter SearchPosition.bestAfter
  cases hb : q.bestFom with
  | none => simp [beats, hreset (by simp [hb])]
  | some b =>
    rcases Int.lt_or_le fom b with hlt | hle
    · have hne : fom ≠ b := Int.ne_of_lt hlt
      simp [beats, Int.not_lt.mpr (Int.le_of_lt hlt), hne, hworse b hb hlt]
    · have hrun := hreset fun c hc => by rw [hb] at hc; obtain rfl := Option.some.inj hc; exact hle
      rcases Int.lt_or_eq_of_le hle with hlt | rfl
      · simp [beats, hlt, hrun]
      · simp [beats, hrun]

section
variable {s : State} {n : ProfileId} {q : Profile} (h : s.Unprobed n q) {fom best : Int} {chosen : Fin 32} {run : Fin 3}
  (hbest : q.search.bestAfter (beats fom q.search.bestFom) fom = (best, chosen)) (hrun : q.search.runAfter fom = run)
include h hbest hrun

/-- A trim trial's FoM (R99). -/
theorem applyTrim_eq :
    let found := s.modSearch n fun x => { x with bestFom := some best, bestTrial := chosen, run := run }
    let ended := found.modProfile n fun p => { p with
      candidate := { p.candidate with weights := vset p.candidate.weights q.search.tap chosen } }
    applyTrim n fom s =
      if run = 2 ∨ q.search.trial = q.config.trimCeiling then
        if q.search.tap.val < 4 then
          tryQueue n (ended.modSearch n fun x => { x with tap := x.tap + 1, trial := 0, bestFom := none, run := 0 })
        else endTrimPass n best ended
      else tryQueue n (found.modSearch n fun x => { x with trial := x.trial + 1 }) := by
  obtain ⟨rfl, rfl⟩ := Prod.mk.inj hbest
  subst hrun
  rw [← h.record]
  rfl

/-- The trim search after a trial: the next trial of the tap, the next tap, or the end of the pass (R99, R100). -/
theorem applyTrim_spec (ha : q.adapt = .searchTrim) :
    let found : SearchPosition := { q.search with bestFom := some best, bestTrial := chosen, run := run }
    let ended : Profile := { q with
      candidate := { q.candidate with weights := vset q.candidate.weights q.search.tap chosen }, search := found }
    let ends : Prop := run = 2 ∨ q.search.trial = q.config.trimCeiling
    let t := applyTrim n fom s
    (¬ ends → t.Attempts n { q with search := { found with trial := q.search.trial + 1 } })
      ∧ (ends → q.search.tap.val < 4 → t.Attempts n { ended with
          search := { found with tap := q.search.tap + 1, trial := 0, bestFom := none, run := 0 } })
      ∧ (ends → q.search.tap = 4 → ∃ u : State, u.Unprobed n ended ∧ t = endTrimPass n best u) := by
  intro found ended ends t
  have ht := applyTrim_eq h hbest hrun
  have hfound : (s.modSearch n fun x => { x with bestFom := some best, bestTrial := chosen, run := run }).Unprobed n
      { q with search := found } := h.modSearch _ rfl
  have hended := hfound.modProfile (fun p => { p with
    candidate := { p.candidate with weights := vset p.candidate.weights q.search.tap chosen } }) rfl rfl rfl
  refine ⟨fun hn => ?_, fun he htap => ?_, fun he htap => ⟨_, hended, ?_⟩⟩
  · rw [show t = _ from ht, if_neg hn]
    exact (hfound.modSearch _ rfl).attempts (.inr (.inl ha))
  · rw [show t = _ from ht, if_pos he, if_pos htap]
    exact (hended.modSearch _ rfl).attempts (.inr (.inl ha))
  · rw [show t = _ from ht, if_pos he, if_neg (by rw [htap]; decide)]

end

end Sys2Proof.Machine

/-! SUPPORT. Tracking rounds, and the last step of a probe (O16). -/

namespace Sys2Proof.Machine

/-! ### Tracking rounds (R105, R106) -/

/-- The range of a tap is empty (R105). -/
def Profile.tapEmpty (q : Profile) (j : Fin 5) : Prop := (q.tapRange j).2 < (q.tapRange j).1

/-- The search position at the lowest weight of a tap's range (R105). -/
def Profile.atTap (q : Profile) (j : Fin 5) : SearchPosition := { q.search with
  tap := j, trial := Fin.ofNat 32 (q.tapRange j).1, bestFom := none, rangeTop := Fin.ofNat 32 (q.tapRange j).2 }

/-- The first of the taps left whose range is not empty is the next one; with none such there is no next tap. -/
theorem Profile.nextTap_spec (q : Profile) {left : Nat} (hleft : left ≤ 5) :
    (∀ j : Fin 5, 5 - left ≤ j.val → (∀ i : Fin 5, 5 - left ≤ i.val → i < j → q.tapEmpty i) → ¬ q.tapEmpty j →
      q.nextTap left = some (q.atTap j))
    ∧ ((∀ j : Fin 5, 5 - left ≤ j.val → q.tapEmpty j) → q.nextTap left = none) := by
  induction left with
  | zero => exact ⟨fun j hj => absurd j.isLt (Nat.not_lt.mpr hj), fun _ => rfl⟩
  | succ left ih =>
    obtain ⟨first, hfirst⟩ : ∃ first : Fin 5, first = Fin.ofNat 5 (4 - left) := ⟨_, rfl⟩
    have hval : first.val = 5 - (left + 1) := by rw [hfirst, Fin.val_ofNat]; omega
    obtain ⟨next, none_left⟩ := ih (by omega)
    by_cases hempty : q.tapEmpty first
    · have skip : q.nextTap (left + 1) = q.nextTap left := by
        rw [hfirst] at hempty
        exact if_neg (Nat.not_le.mpr hempty)
      rw [skip]
      refine ⟨fun j hj hbefore hnot => next j ?_ (fun i hi => hbefore i (by omega)) hnot,
        fun hall => none_left fun j hj => hall j (by omega)⟩
      have hne : j.val ≠ first.val := fun e => hnot (Fin.ext e ▸ hempty)
      omega
    · have found : q.nextTap (left + 1) = some (q.atTap first) := by
        rw [hfirst] at hempty ⊢
        exact if_pos (Nat.not_lt.mp hempty)
      refine ⟨fun j hj hbefore _ => ?_, fun hall => absurd (hall first (by omega)) hempty⟩
      have heq : j = first := by
        rcases lt_trichotomy j first with h | h | h
        · exact absurd h (Fin.not_lt.mpr (Fin.le_def.mpr (by omega)))
        · exact h
        · exact absurd (hbefore first (by omega) h) hempty
      rw [heq, found]

/-- The round's decision (R106). -/
theorem Profile.roundCommits_iff {q : Profile} : q.roundCommits = true ↔
    q.search.roundWeights ≠ q.candidate.weights ∧ ∃ l c, q.search.lastFom = some l ∧ q.search.currentFom = some c
      ∧ (q.config.hysteresis.val : Int) ≤ l - c := by
  unfold Profile.roundCommits
  cases q.search.lastFom <;> cases q.search.currentFom <;> simp

section
variable {s : State} {n : ProfileId} {q : Profile} (h : s.Unprobed n q)
include h

/-- A round that gained enough commits its weights (R106). -/
theorem decideRound_commits (hc : q.roundCommits = true) :
    (decideRound n s).Succeeds n { q with candidate := { q.candidate with weights := q.search.roundWeights } } .round := by
  unfold decideRound
  rw [h.record]
  dsimp only
  rw [if_pos hc]
  exact (h.modProfile (fun p => { p with candidate := { p.candidate with weights := p.search.roundWeights } })
    rfl rfl rfl).succeeds .round

/-- A round that did not gain enough ends, and the next one is counted down to when tracking is continuous (R106, R107). -/
theorem decideRound_rests (hc : ¬ q.roundCommits = true) :
    let t := decideRound n s
    (∀ x ∈ t.engine.probes, x.profile ≠ n) ∧ (t.profile n).SameAdaptation { q with
      adapt := if q.config.continuous = true then .tracking else .idle
      search := { q.search with phase := .none, countdown := q.config.trackInterval } } := by
  intro t
  have ht : t = s.modProfile n fun p => { p with
      adapt := if p.config.continuous then .tracking else .idle
      search := { p.search with phase := .none, countdown := p.config.trackInterval } } := by
    rw [← h.record] at hc
    exact if_neg hc
  rw [ht, State.profile_modProfile_same, h.record]
  exact ⟨Engine.probesOf_eq_nil.mp h.probes, .refl _⟩

/-- The round goes on at the first tap left whose range is not empty, or decides (R105, R106). -/
theorem advanceRound_goesOn (ha : q.adapt = .tracking) (hp : q.search.phase = .round) {left : Nat} (hleft : left ≤ 5) :
    (advanceRound n left s).RoundGoesOn n q (5 - left) := by
  obtain ⟨next, decides⟩ := q.nextTap_spec hleft
  refine ⟨fun j hj hbefore hrange => ?_, fun hall => ?_⟩
  · have hnext := next j hj hbefore (Nat.not_lt.mpr hrange)
    rw [advanceRound, h.record, hnext]
    exact (h.modSearch (fun _ => q.atTap j) rfl).attempts (.inr (.inr (.inr ⟨ha, hp⟩)))
  · have ht : advanceRound n left s = decideRound n s := by rw [advanceRound, h.record, decides hall]
    rw [ht]
    exact ⟨fun hc => decideRound_commits h (Profile.roundCommits_iff.mpr hc),
      fun hc => decideRound_rests h (mt Profile.roundCommits_iff.mp hc)⟩

/-- The first FoM of a round is that of the current set (R105). -/
theorem applyRound_current (fom : Int) (ha : q.adapt = .tracking) (hp : q.search.phase = .round)
    (hc : q.search.currentFom = none) :
    (applyRound n fom s).RoundGoesOn n { q with search := { q.search with currentFom := some fom } } 0 := by
  unfold applyRound
  simp only [h.record, hc]
  exact advanceRound_goesOn (h.modSearch _ rfl) ha hp (le_refl 5)

variable {fom best : Int} {chosen : Fin 32} (hc : q.search.currentFom ≠ none)
  (hbest : q.search.bestAfter (beats fom q.search.bestFom
    || (q.search.bestFom == some fom && q.search.trial == q.candidate.weights.get q.search.tap)) fom = (best, chosen))
include hc hbest

/-- A round trial's FoM (R105). -/
theorem applyRound_eq :
    let found := s.modSearch n fun x => { x with bestFom := some best, bestTrial := chosen }
    applyRound n fom s =
      if q.search.trial.val < q.search.rangeTop.val then tryQueue n (found.modSearch n fun x => { x with trial := x.trial + 1 })
      else advanceRound n (4 - q.search.tap.val) (found.modSearch n fun x => { x with
        roundWeights := vset x.roundWeights x.tap chosen, lastFom := some best }) := by
  obtain ⟨current, hcurrent⟩ := Option.ne_none_iff_exists'.mp hc
  obtain ⟨rfl, rfl⟩ := Prod.mk.inj hbest
  unfold applyRound
  simp only [h.record, hcurrent]

/-- The round after a trial: the next weight of the tap, or the next tap (R105). -/
theorem applyRound_spec (ha : q.adapt = .tracking) (hp : q.search.phase = .round) :
    let found : SearchPosition := { q.search with bestFom := some best, bestTrial := chosen }
    let t := applyRound n fom s
    (q.search.trial.val < q.search.rangeTop.val →
        t.Attempts n { q with search := { found with trial := q.search.trial + 1 } })
      ∧ (q.search.rangeTop.val ≤ q.search.trial.val → t.RoundGoesOn n { q with search := { found with
          roundWeights := vset q.search.roundWeights q.search.tap chosen, lastFom := some best } } (q.search.tap.val + 1)) := by
  intro found t
  have ht : t = _ := applyRound_eq h hc hbest
  have hfound := h.modSearch (fun x => { x with bestFom := some best, bestTrial := chosen }) rfl
  refine ⟨fun hlt => ?_, fun hle => ?_⟩
  · rw [ht, if_pos hlt]
    exact (hfound.modSearch _ rfl).attempts (.inr (.inr (.inr ⟨ha, hp⟩)))
  · have hfirst : q.search.tap.val + 1 = 5 - (4 - q.search.tap.val) := by omega
    rw [ht, if_neg (Nat.not_lt.mpr hle), hfirst]
    exact advanceRound_goesOn (hfound.modSearch _ rfl) ha hp (by omega)

end

/-- The best of a tap in a round: of equal FoMs the candidate's own weight, then the first (R105). -/
theorem SearchPosition.bestAfter_own {q : SearchPosition} {fom best : Int} {chosen weight : Fin 32}
    (hbetter : (∀ b, q.bestFom = some b → b < fom ∨ (b = fom ∧ q.trial = weight)) → best = fom ∧ chosen = q.trial)
    (hworse : ∀ b, q.bestFom = some b → fom < b ∨ (b = fom ∧ ¬ q.trial = weight) → best = b ∧ chosen = q.bestTrial) :
    q.bestAfter (beats fom q.bestFom || (q.bestFom == some fom && q.trial == weight)) fom = (best, chosen) := by
  refine bestAfter_eq (fun hb => hbetter fun b hq => ?_) fun hw => ?_
  · simpa [hq, beats] using hb
  · cases hq : q.bestFom with
    | none => simp [hq, beats] at hw
    | some b =>
      simp only [hq, beats, Bool.or_eq_false_iff, decide_eq_false_iff_not, Bool.and_eq_false_imp, beq_iff_eq,
        Option.some.injEq, beq_eq_false_iff_ne] at hw
      obtain ⟨hle, hown⟩ := hw
      refine ⟨b, rfl, hworse b hq ?_⟩
      rcases Int.lt_or_eq_of_le (Int.not_lt.mp hle) with hlt | heq
      · exact .inl hlt
      · exact .inr ⟨heq.symm, hown heq.symm⟩

/-! ### The last step of a probe (R73, R93) -/

section
variable {s : State} {n : ProfileId} {q : Profile} (h : s.Unprobed n q) (fom : Int)
include h

/-- A shaping evaluation takes the FoM (R93). -/
theorem applyFom_shaping (ha : q.adapt = .searchShape ∨ q.adapt = .searchReshape) :
    applyFom n fom s = applyShaping n fom s := by
  rcases ha with ha | ha <;> rw [applyFom, h.record, ha]

/-- A trim evaluation takes the FoM (R93). -/
theorem applyFom_trim (ha : q.adapt = .searchTrim) : applyFom n fom s = applyTrim n fom s := by
  rw [applyFom, h.record, ha]

/-- A tracking round takes the FoM (R93). -/
theorem applyFom_round (ha : q.adapt = .tracking) : applyFom n fom s = applyRound n fom s := by
  rw [applyFom, h.record, ha]

end

/-- A record whose probe has left the queue and the unit (R73). -/
def Profile.probeDone (p : Profile) : Profile :=
  { p with probeRef := false, restartRun := 0, search := { p.search with window := none } }

/-- A probe has run to its end with scores that count (R93). -/
def Profile.probeCounted (p : Profile) : Profile := { p.probeDone with probesRun := satInc p.probesRun }

/-- The state with the probe at the head of the queue gone, the unit FREE and the record r (R73). -/
def State.probeTaken (s : State) (n : ProfileId) (es : List ProbeEntry) (r : Profile) : State :=
  ({ s with engine := { s.engine with mac := .free, suspendAsked := false, probes := es } } : State).modProfile n fun _ => r

section
variable {s : State} {e : ProbeEntry} {es : List ProbeEntry} {w : ProbeWindow} (hmac : s.engine.mac = .running .probe)
  (hprobes : s.engine.probes = e :: es) (he : e.condition = .running) (hlast : e.isLast = true)
  (hb : (s.profile e.profile).state = .bound) (hw : (s.profile e.profile).search.window = some w)
include hmac hprobes he hlast hb hw

/-- The last step of a probe: the scores of a window that precedes v are discarded, others go to the evaluation (R73, R93). -/
theorem exec_probePassComplete :
    let n := e.profile
    let p := s.profile n
    let current := atOrAfter w.oldest s.lane.validFrom s.lane.blockCounter
    ∃ t, exec .probePassComplete s = .next t
      ∧ (current = true → t = applyFom n (p.fomOf (e.endStep s)) (s.probeTaken n es p.probeCounted))
      ∧ (current = false → t = tryQueue n (s.probeTaken n es p.probeDone)) := by
  intro n p current
  have hd : (e.endStep s).profile = n := KeepsTable.endStep_profile e s
  have herase : s.engine.probes.eraseP ProbeEntry.isRunning = es := by
    rw [hprobes, List.eraseP_cons_of_pos (by simp [ProbeEntry.isRunning, he])]
  obtain ⟨gone, hgone⟩ : ∃ g : State, g = s.probeTaken n es { p with probeRef := false } := ⟨_, rfl⟩
  have hrecord : gone.profile n = { p with probeRef := false } := by
    rw [hgone]
    exact State.profile_modProfile_same _ _ _
  have hexec : exec .probePassComplete s = .next (probeScored n (p.fomOf (e.endStep s)) gone) := by
    have hfree : freeTest n gone = gone := freeTest_of_bound (by rw [hrecord]; exact hb)
    show execProbePassComplete s = _
    simp only [execProbePassComplete, hmac, runningProbe_of_head hprobes he, hlast, if_true, herase, hd]
    rw [← hfree, hgone]
    rfl
  have hdone : gone.modProfile n (fun p => { p with restartRun := 0, search := { p.search with window := none } })
      = s.probeTaken n es p.probeDone := by
    rw [hgone, State.probeTaken, State.modProfile_modProfile]
    rfl
  have hcounted : (s.probeTaken n es p.probeDone).modProfile n (fun p => { p with probesRun := satInc p.probesRun })
      = s.probeTaken n es p.probeCounted := by
    rw [State.probeTaken, State.modProfile_modProfile]
    rfl
  have hwindow : (gone.profile n).search.window = some w := by rw [hrecord]; exact hw
  have hlane : gone.lane = s.lane := by rw [hgone]; rfl
  refine ⟨_, hexec, fun hcurrent => ?_, fun hcurrent => ?_⟩
  all_goals simp only [probeScored, hwindow, hlane, show atOrAfter _ _ _ = _ from hcurrent, hdone]
  · rw [hcounted]
    rfl
  · rfl

end

/-- The profile is BOUND and has no probe once its only one has gone (R73). -/
theorem State.unprobed_probeTaken {s : State} {n : ProfileId} {es : List ProbeEntry} {r : Profile}
    (hes : ∀ x ∈ es, x.profile ≠ n) (bound : r.state = .bound) (reference : r.probeRef = false)
    (window : r.search.window = none) : (s.probeTaken n es r).Unprobed n r :=
  ⟨State.profile_modProfile_same _ _ _, bound, Engine.probesOf_eq_nil.mpr hes, reference, window⟩

/-- What the end of a probe leaves of the rest of the part, when the controller goes on from the record r (R73, R93). -/
theorem probeTaken_frame {s t : State} {n : ProfileId} {es : List ProbeEntry} {r : Profile}
    (only : ProfileOnly n (s.probeTaken n es r) t) (goesOn : GoesOn n (s.probeTaken n es r) t) :
    ProfileOnly n s t ∧ t.engine.mac = .free ∧ ScoreOnly r (t.profile n)
      ∧ ∃ new, t.engine.probes = es ++ new ∧ (∀ x ∈ new, x.profile = n ∧ x.condition = .waiting) ∧ new.length ≤ 1 := by
  have before : ProfileOnly n s (s.probeTaken n es r) :=
    (profileOnly_probes n s _ rfl).trans (profileOnly_modProfile n _ _)
  obtain ⟨record, new, engine, waiting, length⟩ := goesOn
  have hr : (s.probeTaken n es r).profile n = r := State.profile_modProfile_same _ _ _
  rw [hr] at record
  exact ⟨before.trans only, by rw [engine]; rfl, record, new, by rw [engine]; rfl, waiting, length⟩

theorem mode_ne_one {m : Fin 4} (h : m = 2 ∨ m = 3) : m ≠ 1 := by
  rcases h with rfl | rfl <;> decide

theorem vmap_eq_map {α β : Type} {n : Nat} (f : α → β) (v : Vector α n) : vmap f v = v.map f :=
  vector_ext_get fun i => (vmap_get f v i).trans (by simp [Vector.get])

theorem Profile.Needs.evaluates {p : Profile} {trial : CoeffSet} {sel : SelectionKind} (h : p.Needs trial sel) :
    p.Evaluates := by
  rcases h with ⟨ha | ha, -⟩ | ⟨ha, -⟩ | ⟨ha, hphase, -⟩
  · exact .inl ha
  · exact .inr (.inr (.inl ha))
  · exact .inr (.inl ha)
  · exact .inr (.inr (.inr ⟨ha, hphase⟩))

/-- Settles O16: the probe's end, the discarded scores, and the evaluation of each kind from its best figure of merit. -/
theorem probePassCompletes : Obligations.ProbePassCompletes := by
  unfold Obligations.ProbePassCompletes
  intro s e es w hmac hprobes he hlast hes hb hw n p q fom current counted
  obtain ⟨t, hexec, hcounts, hstale⟩ := exec_probePassComplete hmac hprobes he hlast hb hw
  have unprobed : (s.probeTaken n es counted).Unprobed n counted := State.unprobed_probeTaken hes hb rfl rfl
  have discarded : (s.probeTaken n es p.probeDone).Unprobed n p.probeDone := State.unprobed_probeTaken hes hb rfl rfl
  obtain ⟨only, mac, record, new, probes, waiting, length⟩ : ProfileOnly n s t ∧ t.engine.mac = .free
      ∧ ScoreOnly { counted with probesRun := if current then satInc p.probesRun else p.probesRun } (t.profile n)
      ∧ ∃ new, t.engine.probes = es ++ new ∧ (∀ x ∈ new, x.profile = n ∧ x.condition = .waiting) ∧ new.length ≤ 1 := by
    cases hcur : current with
    | true =>
      rw [hcounts hcur]
      exact probeTaken_frame (profileOnly_applyFom n fom _) (.applyFom fom unprobed.probes)
    | false =>
      rw [hstale hcur]
      exact probeTaken_frame (profileOnly_tryQueue n _) (.tryQueue discarded.probes)
  have shaping (hcur : current = true) (ha : p.adapt = .searchShape ∨ p.adapt = .searchReshape) :
      t = applyShaping n fom (s.probeTaken n es counted) := (hcounts hcur).trans (applyFom_shaping unprobed fom ha)
  have trim (hcur : current = true) (ha : p.adapt = .searchTrim) : t = applyTrim n fom (s.probeTaken n es counted) :=
    (hcounts hcur).trans (applyFom_trim unprobed fom ha)
  have round (hcur : current = true) (ha : p.adapt = .tracking) : t = applyRound n fom (s.probeTaken n es counted) :=
    (hcounts hcur).trans (applyFom_round unprobed fom ha)
  refine ⟨t, new, hexec, only.other, ?lane, ?slots, ?mem, ?gen, ?routes, ?jobPass, fun p => ?ports, mac, probes, waiting,
    length, ?restartRun, ?probesRun, ?frame, fun hcur ⟨_, _, hneeds⟩ => ?stale, fun hcur ha hm htrial => ?noted,
    fun hcur best chosen hbetter hworse => ?searches, fun hcur ha hphase =>
      ⟨fun hc => ?current, fun hc best chosen => ?trial⟩⟩
  case lane | slots | mem | gen => rw [only.state]
  case routes | jobPass => rw [only.engine]
  case ports => rw [only.port p]
  case restartRun | probesRun => rw [show t.profile n = _ from record]
  case frame =>
    intro r
    rw [show r = _ from record]
  case stale =>
    rw [hstale hcur]
    exact discarded.attempts hneeds.evaluates
  case noted =>
    obtain ⟨best, chosen, hbest⟩ : ∃ best chosen, q.bestAfter (beats fom q.bestFom) fom = (best, chosen) := ⟨_, _, rfl⟩
    obtain ⟨trial, bestFom, bestTrial⟩ := applyShaping_notes unprobed hbest ha hm htrial
    rw [← shaping hcur (.inl ha)] at trial bestFom bestTrial
    refine ⟨trial, fun hbeats => ?_, fun b hq hle => ?_⟩
    · obtain ⟨rfl, rfl⟩ := SearchPosition.bestAfter_of_beats hbest hbeats
      exact ⟨bestFom, bestTrial⟩
    · obtain ⟨rfl, rfl⟩ := SearchPosition.bestAfter_of_not_beats hbest hq hle
      exact ⟨bestFom, bestTrial⟩
  case searches =>
    have hbest := SearchPosition.bestAfter_beats hbetter hworse
    intro found
    refine ⟨fun ha => ?_, fun ha run hreset hrun => ?_⟩
    · obtain ⟨next, ends⟩ := applyShaping_spec unprobed hbest ha
      rw [← shaping hcur ha] at next ends
      refine ⟨next, fun at_ hstops hbeaten hends => ?_⟩
      obtain ⟨reshaped, first, trims⟩ := ends at_ hstops hbeaten hends
      exact ⟨reshaped, first, fun hs hm => trims hs (mode_ne_one hm)⟩
    · obtain ⟨next, tap, pass⟩ := applyTrim_spec unprobed hbest (SearchPosition.runAfter_eq hreset hrun) ha
      rw [← trim hcur ha] at next tap pass
      refine ⟨next, tap, fun hends htap hmerit => ?_, fun hends htap hlow => ?_⟩
      all_goals
        obtain ⟨u, hu, ht⟩ := pass hends htap
        obtain ⟨accepted, rejected⟩ := endTrimPass_spec hu best ha
        rw [← ht] at accepted rejected
      · obtain ⟨succeeds, reshapes⟩ := accepted hmerit
        exact ⟨fun hm => succeeds (by rw [show p.config.mode = 2 from hm]; decide), reshapes⟩
      · rw [vmap_eq_map] at rejected
        exact rejected hlow
  case current =>
    rw [round hcur ha]
    exact applyRound_current unprobed fom ha hphase hc
  case trial =>
    intro own hbetter hworse found
    rw [round hcur ha]
    exact applyRound_spec unprobed hc (SearchPosition.bestAfter_own hbetter hworse) ha hphase

end Sys2Proof.Machine

/-! SUPPORT. ADAPT, ABORT ADAPT and FREEZE (O30, O31). -/

namespace Sys2Proof.Machine

/-! ### A command that is a turn for one profile (R178) -/

/-- What is left as it was before the frame when a command does nothing but a turn for profile n, and the reply it gets. -/
theorem ProfileOnly.replied {n : ProfileId} {s u : State} {f : Frame} (only : ProfileOnly n (receive f s) u) (code : Byte)
    (a : Answer) :
    let t := u.reply f.port code f.tag a
    (∀ m, m ≠ n → t.profile m = s.profile m) ∧ t.slots = s.slots ∧ t.mem = s.mem ∧ t.lane = s.lane
      ∧ t.engine.routes = s.engine.routes ∧ t.engine.jobPass = s.engine.jobPass ∧ t.gen = s.gen
      ∧ (t.port f.port).replies = ((receive f s).port f.port).replies ++ [⟨code, f.tag, a.1, a.2⟩] := by
  intro t
  have engine := only.engine
  rw [receive_engine] at engine
  refine ⟨fun m hm => (only.other m hm).trans (receive_profile f s m), only.slots.trans (receive_slots f s),
    (congrArg State.mem only.state).trans (receive_mem f s), (congrArg State.lane only.state).trans (receive_lane f s),
    (congrArg Engine.routes engine :), (congrArg Engine.jobPass engine :),
    (congrArg State.gen only.state).trans (receive_gen f s), ?_⟩
  rw [State.port_reply, if_pos rfl, only.port]

/-! ### ADAPT (R92, R96) -/

theorem adapt_of_leader {s : State} {p : Port} {n : ProfileId} {q : Profile} (hq : s.profile n = q) (hb : q.state = .bound)
    (hl : q.leader = some p) : adapt p [finWord n] s = if q.config.mode = 0 ∨ q.adapt ≠ .idle then (s, refuse .wrongState)
      else if q.stage ≠ .none then (s, refuse .busy)
      else if !s.clockPresent then (s, refuse .noClock)
      else if !s.targetReady p q.config then (s, refuse .noTarget)
      else (tryQueue n (s.modProfile n Profile.startSearch), .accepted, []) := by
  rw [adapt, leaderCommand_of_leader rfl hq hb hl, hq]

/-- The target of R96 step 4: the generator is RUNNING, or the window is open and holds offset plus W words. -/
theorem State.targetReady_iff {s : State} {p : Port} {c : AdaptConfig} : s.targetReady p c = true ↔
    (∀ lag, c.target = .generator lag → s.gen.running = true)
      ∧ ∀ nm off, c.target = .window nm off →
        ∃ w, s.windowOf (nm.of p) = some w ∧ off.val + c.probeLength.samples ≤ w.length := by
  unfold State.targetReady
  cases c.target with
  | generator lag => simp
  | window nm off => cases hw : s.windowOf (nm.of p) <;> simp [hw]

/-- A target that is ready is not a generator that is OFF. -/
theorem State.targetReady_able {s : State} {p : Port} {c : AdaptConfig} (h : s.targetReady p c = true) :
    (c.target.isGenerator && !s.gen.running) = false := by
  unfold State.targetReady at h
  cases hc : c.target with
  | generator lag => rw [hc] at h; simp [show s.gen.running = true from h]
  | window nm off => rfl

/-- The attempt that waits, since the blocks its probe needs begin before v (R92). -/
theorem tryQueue_waits {s : State} {n : ProfileId}
    (hg : ((s.profile n).config.target.isGenerator && !s.gen.running) = false)
    (ho : atOrAfter ((s.profile n).windowTo s.lane.blockCounter).oldest s.lane.validFrom s.lane.blockCounter = false) :
    tryQueue n s = s := by
  simp only [tryQueue, hg, Profile.windowAt_eq_windowTo, ho, Bool.and_false, Bool.false_eq_true, if_false, ite_self]

theorem Profile.wantsProbe_startSearch {p : Profile} (h : p.probeRef = false) : p.startSearch.wantsProbe = true := by
  simp [Profile.wantsProbe, Profile.startSearch, h]

/-- The first trial set has the live set's taps. -/
theorem Profile.tapCount_startSearch (p : Profile) : p.startSearch.candidate.tapCount = p.liveSet.tapCount := by
  unfold Profile.startSearch
  dsimp only
  split <;> rfl

theorem Profile.windowTo_startSearch (p : Profile) (b : Block) : p.startSearch.windowTo b
    = ⟨b, b - BitVec.ofNat 32 ((p.config.probeLength.samples + max p.liveSet.tapCount.val 1 + 31) / 32) + 1⟩ := by
  rw [Profile.windowTo, Profile.tapCount_startSearch]
  rfl

/-- The first trial is that of emphasis 0 (R97). -/
theorem Profile.trialSet_startSearch (p : Profile) :
    p.startSearch.trialSet = { p.startSearch.candidate with emphasis := 0 } := rfl

section
variable {s : State} {n : ProfileId} {p : Port} {q : Profile} (hq : s.profile n = q) (hf : q.probeRef = false)
  (hready : s.targetReady p q.config = true)
include hq hready

/-- The first attempt of a search that waits. -/
theorem startSearch_waits (ho : atOrAfter (q.startSearch.windowTo s.lane.blockCounter).oldest s.lane.validFrom
      s.lane.blockCounter = false) :
    tryQueue n (s.modProfile n Profile.startSearch) = s.modProfile n Profile.startSearch := by
  have hp : (s.modProfile n Profile.startSearch).profile n = q.startSearch := by rw [State.profile_modProfile_same, hq]
  exact tryQueue_waits (by rw [hp]; exact State.targetReady_able hready) (by rw [hp]; exact ho)

include hf in
/-- The first attempt of a search that queues its probe. -/
theorem startSearch_queues (hr : s.lane.state = .running) {w : ProbeWindow}
    (hw : q.startSearch.windowTo s.lane.blockCounter = w)
    (ho : atOrAfter w.oldest s.lane.validFrom s.lane.blockCounter = true) :
    let t := tryQueue n (s.modProfile n Profile.startSearch)
    t.engine.probes = s.engine.probes ++ [q.startSearch.probeEntry n w]
      ∧ t.profile n = { q.startSearch with probeRef := true, search := { q.startSearch.search with window := some w } } := by
  intro t
  subst hw
  have hp : (s.modProfile n Profile.startSearch).profile n = q.startSearch := by rw [State.profile_modProfile_same, hq]
  have ht : t = _ := tryQueue_queues (n := n) (s := s.modProfile n Profile.startSearch)
    (by rw [hp]; exact Profile.wantsProbe_startSearch hf) (by rw [hp]; exact State.targetReady_able hready) hr
    (by rw [hp]; exact ho)
  rw [ht, hp]
  refine ⟨rfl, ?_⟩
  rw [State.modSearch, State.profile_modProfile_same, queueProbe_profile, hp]
  rfl

end

/-- Settles O30, by the checks of ADAPT in their order and the attempt at the first trial. -/
theorem adaptStartsShapingSearch : Obligations.AdaptStartsShapingSearch := by
  unfold Obligations.AdaptStartsShapingSearch
  intro s f n h hb hl hf q refused c oldest ready
  have hq : (receive f s).profile n = q := receive_profile f s n
  have run := adapt_of_leader hq hb hl
  have refuses {st : Status} (e : adapt f.port [finWord n] (receive f s) = (receive f s, st, [])) : refused st :=
    finish_command h rfl rfl e
  have hclock : (receive f s).clockPresent = true ↔ s.lane.state = .running := by
    rw [State.clockPresent, receive_lane, beq_iff_eq]
  have hready : (receive f s).targetReady f.port q.config = true ↔ ready := by
    rw [State.targetReady_iff, receive_gen]
    simp only [receive_windowOf, ready]
  refine ⟨fun hw => refuses (run.trans (if_pos hw)), fun hm ha => ?_⟩
  rw [if_neg (not_or.mpr ⟨hm, not_not.mpr ha⟩)] at run
  refine ⟨fun hs => refuses (run.trans (if_pos hs)), fun hs => ?_⟩
  rw [if_neg (not_not.mpr hs)] at run
  refine ⟨fun hr => refuses (run.trans (if_pos (by simpa using mt hclock.mp hr))), fun hr => ?_⟩
  rw [if_neg (by simpa using hclock.mpr hr)] at run
  refine ⟨fun hn => refuses (run.trans (if_pos (by simpa using mt hready.mp hn))), fun htarget => ?_⟩
  have there := hready.mpr htarget
  rw [if_neg (by simpa using there)] at run
  generalize hu : tryQueue n ((receive f s).modProfile n Profile.startSearch) = u at run
  obtain ⟨other, slots, mem, lane, routes, jobPass, gen, replies⟩ := ProfileOnly.replied
    (hu ▸ (profileOnly_modProfile n (receive f s) _).trans (profileOnly_tryQueue n _)) 0x1A (.accepted, [])
  have window : q.startSearch.windowTo s.lane.blockCounter = ⟨s.lane.blockCounter, oldest⟩ := q.windowTo_startSearch _
  have waits (ho : atOrAfter oldest s.lane.validFrom s.lane.blockCounter = false) :
      u = (receive f s).modProfile n Profile.startSearch := by
    rw [← hu]
    exact startSearch_waits hq there (by rw [receive_lane, window]; exact ho)
  have queues (ho : atOrAfter oldest s.lane.validFrom s.lane.blockCounter = true) :
      u.engine.probes = s.engine.probes ++ [q.startSearch.probeEntry n ⟨s.lane.blockCounter, oldest⟩]
        ∧ u.profile n = { q.startSearch with
            probeRef := true, search := { q.startSearch.search with window := some ⟨s.lane.blockCounter, oldest⟩ } } := by
    rw [← hu, ← receive_engine f s]
    exact startSearch_queues hq hf there (by rw [receive_lane]; exact hr) (by rw [receive_lane]; exact window)
      (by rw [receive_lane]; exact ho)
  obtain ⟨b, w, record⟩ : ∃ b w, u.profile n
      = { q.startSearch with probeRef := b, search := { q.startSearch.search with window := w } } := by
    cases ho : atOrAfter oldest s.lane.validFrom s.lane.blockCounter with
    | true => exact ⟨_, _, (queues ho).2⟩
    | false => exact ⟨_, _, by rw [waits ho, State.profile_modProfile_same, hq]⟩
  have profile : (u.reply f.port 0x1A f.tag (.accepted, [])).profile n = u.profile n := rfl
  refine ⟨_, finish_command h rfl rfl run, replies, other, slots, mem, lane, routes, jobPass, gen, ?adapt, ?phase, ?trial,
    ?best, ?restarts, ?probes, ?outcome, fun h1 => ?live, fun h1 => ?cleared, fun ho => ?queued, fun ho => ?waiting⟩
  case adapt | phase | trial | best | restarts | probes | outcome => rw [profile, record]; rfl
  case live => rw [profile, record]; exact if_pos h1
  case cleared => rw [profile, record]; exact if_neg h1
  case queued =>
    obtain ⟨probes, queued⟩ := queues ho
    refine ⟨_, probes, rfl, rfl, rfl, rfl, ?_, ?_⟩
    · rw [profile, queued]; rfl
    · rw [profile, queued]
  case waiting =>
    have e := waits ho
    refine ⟨?_, ?_⟩
    · rw [State.reply, State.engine_modPort, e, State.engine_modProfile, receive_engine]
    · rw [profile, e, State.profile_modProfile_same, hq]; exact hf

/-! ### ABORT ADAPT and FREEZE (R108, R109) -/

section
variable {s : State} {p : Port} {n : ProfileId} {q : Profile} (hq : s.profile n = q) (hb : q.state = .bound)
  (hl : q.leader = some p)
include hq hb hl

theorem abortAdapt_of_ends (h : q.adapt.Ends) : abortAdapt p [finWord n] s = (endAdaptation n .aborted s, .ok, []) := by
  have ends : q.adapt = .searchShape ∨ q.adapt = .searchTrim ∨ q.adapt = .searchReshape ∨ q.adapt = .tracking := by
    simpa [AdaptState.Ends] using h
  rcases ends with ha | ha | ha | ha
  all_goals rw [abortAdapt, leaderCommand_of_leader rfl hq hb hl, hq, ha]

theorem abortAdapt_of_committing (h : q.adapt = .committing) : abortAdapt p [finWord n] s = (s, .busy, []) := by
  rw [abortAdapt, leaderCommand_of_leader rfl hq hb hl, hq, h]
  rfl

theorem abortAdapt_of_idle (h : q.adapt = .idle) : abortAdapt p [finWord n] s = (s, .ok, []) := by
  rw [abortAdapt, leaderCommand_of_leader rfl hq hb hl, hq, h]

theorem freeze_of_leader : freeze p [finWord n] s = if q.adapt = .tracking then
    ((withdrawProbe n s).modProfile n fun r => { r with
      adapt := .idle, search := { r.search with phase := .none, window := none } }, .ok, [])
    else (s, .wrongState, []) := by
  rw [freeze, leaderCommand_of_leader rfl hq hb hl, hq]
  rfl

end

/-- The record of a BOUND profile whose adaptation ends without a commit (R103, R108). -/
theorem endAdaptation_profile {s : State} {n : ProfileId} (o : Outcome) (hb : (s.profile n).state = .bound)
    (hc : s.ProbeCounted n) : (endAdaptation n o s).profile n = { s.profile n with
      candidate := (s.profile n).liveSet, lastOutcome := o, adapt := .idle, probeRef := false
      search := { (s.profile n).search with phase := .none, window := none } } := by
  unfold endAdaptation
  rw [(onlyNotices_notifyMembers _ n _).profile, State.profile_modProfile_same, (withdrawProbe_bound hb hc).2]
  rfl

/-- Settles O31, by the end of an adaptation for the abort, and by the withdrawal of its probe for the freeze. -/
theorem abortAndFreezeEndAdaptation : Obligations.AbortAndFreezeEndAdaptation := by
  unfold Obligations.AbortAndFreezeEndAdaptation
  intro s f n h hb hl hcount q r
  have hq : r.profile n = q := receive_profile f s n
  have hc : r.ProbeCounted n := (hcount.probeCounted n).of_eq (by rw [receive_engine]) hq
  have hb' : (r.profile n).state = .bound := by rw [hq]; exact hb
  refine ⟨fun ha => ?abort, fun ha => ?busy, fun ha => ?idle, fun ha => ?freeze, fun ha => ?wrongState⟩
  case abort =>
    obtain ⟨-, probes, told⟩ := endAdaptation_fails .aborted hb' hc
    have record := endAdaptation_profile .aborted hb' hc
    rw [hq] at record told
    obtain ⟨other, slots, mem, lane, routes, jobPass, -, replies⟩ :=
      (profileOnly_endAdaptation n .aborted r).replied 0x1B (.ok, [])
    refine ⟨_, finish_command h rfl rfl (abortAdapt_of_ends hq hb hl ha), other, slots, mem, lane, routes, jobPass, record,
      probes, ?_, fun p hp => ?_, replies⟩
    · rw [State.port_reply_notices]
      exact told _ (.inl hl)
    · rw [State.port_reply_notices]
      exact told p (.inr hp)
  case busy => exact finish_command h rfl rfl (abortAdapt_of_committing hq hb hl ha)
  case idle => exact finish_command h rfl rfl (abortAdapt_of_idle hq hb hl ha)
  case freeze =>
    have run := (freeze_of_leader hq hb hl).trans (if_pos ha)
    obtain ⟨other, slots, mem, lane, routes, jobPass, -, -⟩ :=
      ((profileOnly_withdrawProbe n r).trans (profileOnly_modProfile n _ _)).replied 0x1C (.ok, [])
    obtain ⟨gone, record⟩ := withdrawProbe_bound hb' hc
    refine ⟨_, finish_command h rfl rfl run, other, slots, mem, lane, routes, jobPass, ?_, Engine.probesOf_eq_nil.mp gone, ?_⟩
    · rw [State.reply, State.profile_modPort, State.profile_modProfile_same, record, hq]
    · rw [State.reply, State.reply, State.modPort, State.modPort, State.ports_modProfile, State.port_modProfile, State.port,
        withdrawProbe_ports hb']
      rfl
  case wrongState => exact finish_command h rfl rfl ((freeze_of_leader hq hb hl).trans (if_neg ha))

end Sys2Proof.Machine

/-! SUPPORT. What the operations of a job's end do to the context, and SCALE (O20). -/

namespace Sys2Proof.Machine

/-! ### Right shifts (R144) -/

theorem shiftRight_zero (m : Rounding) (v : Int) : shiftRight m v 0 = v := if_pos rfl

theorem shiftRight_pos {k : Nat} (m : Rounding) (v : Int) (h : 0 < k) : shiftRight m v k = match m with
    | .nearest => (v + 2 ^ (k - 1)) / 2 ^ k
    | .towardZero => v.tdiv (2 ^ k)
    | .down => v / 2 ^ k := if_neg (Nat.ne_of_gt h)

/-- Zero stays zero: half of the divisor rounds down. -/
theorem shiftRight_of_zero (m : Rounding) (k : Nat) : shiftRight m 0 k = 0 := by
  rcases Nat.eq_zero_or_pos k with rfl | hk
  · exact shiftRight_zero m 0
  rw [shiftRight_pos m 0 hk]
  cases m with
  | nearest =>
    have half : (2 : Int) ^ (k - 1) < 2 ^ k := pow_lt_pow_right₀ (by decide) (by omega)
    rw [zero_add]
    exact Int.ediv_eq_zero_of_lt (by positivity) half
  | towardZero => exact Int.zero_tdiv _
  | down => exact Int.zero_ediv _

/-! ### Exceptions (R137, R138) -/

/-- The context with the flag of an exception set. -/
def Context.flag (c : Context) (e : Exn) : Context := { c with flags := insertBit c.flags e.bit }

/-- The context with the value and the tag of its top entry replaced. -/
def Context.setTop (c : Context) (v : Acc) (t : Tag) : Context :=
  { c with stack := vset c.stack c.top v, tags := vset c.tags c.top t }

/-- The top entry written again as it is. -/
theorem Context.setTop_self (c : Context) : c.setTop (c.stack.get c.top) (c.tags.get c.top) = c := by
  rw [Context.setTop, vset_get_self, vset_get_self]

namespace JobEnd

variable {r : JobEnd} {c : Context} {e : Exn} {v : Acc} {t : Tag}

theorem raise_masked (h : r.ctx.masked e = true) : r.raise e = { r with ctx := r.ctx.flag e } := by
  simp only [raise, h, Bool.not_true, Bool.or_false, Context.flag]

theorem raise_unmasked (h : r.ctx.masked e = false) : r.raise e = { r with ctx := r.ctx.flag e, stopped := true } := by
  simp only [raise, h, Bool.not_false, Bool.or_true, Context.flag]

/-- No operand is missing. -/
@[simp] theorem underflowIf_false (r : JobEnd) : r.underflowIf false = r := by simp [underflowIf]

theorem underflow_masked (h : c.masked .stack = true) :
    (start c).underflowIf true = { start (c.flag .stack) with underflow := true } := by
  rw [show (start c).underflowIf true = { (start c).raise .stack with underflow := true } from rfl, raise_masked h]
  rfl

theorem underflow_unmasked (h : c.masked .stack = false) :
    (start c).underflowIf true = { start (c.flag .stack) with stopped := true, underflow := true } := by
  rw [show (start c).underflowIf true = { (start c).raise .stack with underflow := true } from rfl, raise_unmasked h]
  rfl

/-! ### Pushes, pops and writes of the top (R134, R135) -/

theorem push_room (hr : r.over = false) (hd : r.ctx.depth ≠ 8) :
    r.push v t = { r with ctx := r.ctx.pushRaw v t, written := some v } := by
  simp only [push, hr, hd, Bool.false_eq_true, if_false]

theorem push_full_masked (hr : r.over = false) (hd : r.ctx.depth = 8) (hm : r.ctx.masked .stack = true) :
    r.push v t = { r with ctx := (r.ctx.flag .stack).pushRaw v t, overflow := true, written := some v } := by
  have go : ({ r with ctx := r.ctx.flag .stack, overflow := true } : JobEnd).over = false := hr
  simp only [push, hr, hd, raise_masked hm, go, Bool.false_eq_true, if_false, if_true]

theorem push_full_unmasked (hr : r.over = false) (hd : r.ctx.depth = 8) (hm : r.ctx.masked .stack = false) :
    r.push v t = { r with ctx := r.ctx.flag .stack, stopped := true, overflow := true } := by
  have halted : ({ r with ctx := r.ctx.flag .stack, stopped := true, overflow := true } : JobEnd).over = true := rfl
  simp only [push, hr, hd, raise_unmasked hm, halted, Bool.false_eq_true, if_false, if_true]

/-- A job that has stopped or ended early writes nothing. -/
theorem writeTop_over (hr : r.over = true) : r.writeTop v t = r := if_pos hr

theorem writeTop_of_depth (hr : r.over = false) (hd : r.ctx.depth ≠ 0) :
    r.writeTop v t = { r with ctx := r.ctx.setTop v t, written := some v } := by
  simp only [writeTop, hr, hd, Bool.false_eq_true, if_false, Context.setTop]

theorem writeTop_of_empty (hr : r.over = false) (hd : r.ctx.depth = 0) :
    r.writeTop v t = { r with ctx := r.ctx.pushRaw v t, written := some v } := by
  have push : r.push v t = _ := push_room hr (by rw [hd]; decide)
  simp only [writeTop, hr, hd, push, Bool.false_eq_true, if_false, if_true]

theorem pop_over (hr : r.over = true) : r.pop = r := by simp only [pop, hr, Bool.true_or, if_true]

theorem pop_of_empty (hd : r.ctx.depth = 0) : r.pop = r := by simp [pop, hd]

theorem pop_of_depth (hr : r.over = false) (hd : r.ctx.depth ≠ 0) : r.pop = { r with
    ctx := { r.ctx with tags := vset r.ctx.tags r.ctx.top .empty, top := r.ctx.top + 1 } } := by
  simp [pop, hr, hd]

end JobEnd

/-! ### Operands (R135) -/

section
variable {c : Context}

theorem Context.topValue_of_depth (h : c.depth ≠ 0) : c.topValue = c.stack.get c.top := if_neg h

theorem Context.topTag_of_depth (h : c.depth ≠ 0) : c.topTag = c.tags.get c.top := if_neg h

theorem Context.topValue_of_empty (h : c.depth = 0) : c.topValue = 0 := if_pos h

theorem Context.topTag_of_empty (h : c.depth = 0) : c.topTag = .valid := if_pos h

theorem Context.secondValue_of_depth (h : 2 ≤ c.depth) : c.secondValue = c.stack.get (c.top + 1) :=
  if_neg (Nat.not_le.mpr h)

end

/-! ### SCALE (R145) -/

section
variable {c : Context} {r : JobEnd} (hr : (JobEnd.start c).underflowIf (decide (c.depth ≤ 1)) = r)
include hr

/-- A missing operand stops SCALE when it is unmasked. -/
theorem scaleEnd_over (hover : r.over = true) : scaleEnd c = r := by
  simp only [scaleEnd, hr, hover, if_true]

variable (hover : r.over = false) {k v : Int} (hk : c.secondValue.toInt = k) (hv : c.topValue.toInt = v)
include hover hk

/-- A count out of −47 to 47. -/
theorem scaleEnd_range (h : k < -47 ∨ 47 < k) : scaleEnd c = { r.raise .range with c2 := some true } := by
  simp only [scaleEnd, hr, hover, hk, h, Bool.false_eq_true, if_false, if_true]

include hv

/-- A right shift, or none. -/
theorem scaleEnd_right (h : -47 ≤ k) (h0 : k ≤ 0) : scaleEnd c =
    { r.writeTop (BitVec.ofInt 48 (shiftRight c.rounding v (-k).toNat)) c.topTag with c2 := some false } := by
  have inRange : ¬ (k < -47 ∨ 47 < k) := by omega
  simp only [scaleEnd, hr, hover, hk, hv, inRange, h0, Bool.false_eq_true, if_false, if_true]

variable (h0 : 0 < k) (h : k ≤ 47)
include h0 h

/-- A left shift whose value fits. -/
theorem scaleEnd_left (hf : fits48 (v * 2 ^ k.toNat) = true) :
    scaleEnd c = { r.writeTop (BitVec.ofInt 48 (v * 2 ^ k.toNat)) c.topTag with c2 := some false } := by
  have inRange : ¬ (k < -47 ∨ 47 < k) := by omega
  simp only [scaleEnd, hr, hover, hk, hv, inRange, Int.not_le.mpr h0, accSet, hf, Bool.not_true, Bool.false_eq_true,
    if_false]

/-- A left shift whose value does not fit raises WRAP, and goes on when it is masked. -/
theorem scaleEnd_wrap (hf : (!fits48 (v * 2 ^ k.toNat)) = true) : scaleEnd c =
    if (r.raise .wrap).over then r.raise .wrap
    else { (r.raise .wrap).writeTop (BitVec.ofInt 48 (v * 2 ^ k.toNat)) .wrapped with c2 := some false } := by
  have inRange : ¬ (k < -47 ∨ 47 < k) := by omega
  simp only [scaleEnd, hr, hover, hk, hv, inRange, Int.not_le.mpr h0, accSet, hf, Bool.false_eq_true, if_false, if_true]

end

/-! SCALE on two values or more. -/

section
variable {c : Context} {k v : Int} (hd : 2 ≤ c.depth) (hk : (c.stack.get (c.top + 1)).toInt = k)
  (hv : (c.stack.get c.top).toInt = v)
include hd

theorem underflowIf_of_two : (JobEnd.start c).underflowIf (decide (c.depth ≤ 1)) = JobEnd.start c := by
  rw [decide_eq_false (Nat.not_le.mpr hd), JobEnd.underflowIf_false]

/-- The top of the stack written by SCALE. -/
theorem writeTop_of_two (x : Acc) (t : Tag) :
    (JobEnd.start c).writeTop x t = { JobEnd.start (c.setTop x t) with written := some x } :=
  JobEnd.writeTop_of_depth rfl (show c.depth ≠ 0 by omega)

include hk

theorem secondValue_toInt : c.secondValue.toInt = k := (congrArg BitVec.toInt (Context.secondValue_of_depth hd)).trans hk

theorem scale_range (h : k < -47 ∨ 47 < k) (hm : c.masked .range = true) :
    scaleEnd c = { JobEnd.start (c.flag .range) with c2 := some true } := by
  rw [scaleEnd_range (underflowIf_of_two hd) rfl (secondValue_toInt hd hk) h, JobEnd.raise_masked (r := JobEnd.start c) hm]
  rfl

theorem scale_range_stops (h : k < -47 ∨ 47 < k) (hm : c.masked .range = false) :
    scaleEnd c = { JobEnd.start (c.flag .range) with stopped := true, c2 := some true } := by
  rw [scaleEnd_range (underflowIf_of_two hd) rfl (secondValue_toInt hd hk) h, JobEnd.raise_unmasked (r := JobEnd.start c) hm]
  rfl

include hv

theorem scale_right (h : -47 ≤ k) (h0 : k ≤ 0) :
    let x : Acc := BitVec.ofInt 48 (shiftRight c.rounding v (-k).toNat)
    scaleEnd c = { JobEnd.start (c.setTop x (c.tags.get c.top)) with written := some x, c2 := some false } := by
  have depth : c.depth ≠ 0 := by omega
  have top := (congrArg BitVec.toInt (Context.topValue_of_depth depth)).trans hv
  rw [scaleEnd_right (underflowIf_of_two hd) rfl (secondValue_toInt hd hk) top h h0, writeTop_of_two hd,
    Context.topTag_of_depth depth]

variable (h0 : 0 < k) (h : k ≤ 47)
include h0 h

theorem scale_left (hf : fits48 (v * 2 ^ k.toNat) = true) :
    let x : Acc := BitVec.ofInt 48 (v * 2 ^ k.toNat)
    scaleEnd c = { JobEnd.start (c.setTop x (c.tags.get c.top)) with written := some x, c2 := some false } := by
  have depth : c.depth ≠ 0 := by omega
  have top := (congrArg BitVec.toInt (Context.topValue_of_depth depth)).trans hv
  rw [scaleEnd_left (underflowIf_of_two hd) rfl (secondValue_toInt hd hk) top h0 h hf, writeTop_of_two hd,
    Context.topTag_of_depth depth]

variable (hf : (!fits48 (v * 2 ^ k.toNat)) = true)
include hf

theorem scale_wraps (hm : c.masked .wrap = true) :
    let x : Acc := BitVec.ofInt 48 (v * 2 ^ k.toNat)
    scaleEnd c = { JobEnd.start ((c.flag .wrap).setTop x .wrapped) with written := some x, c2 := some false } := by
  have top := (congrArg BitVec.toInt (Context.topValue_of_depth (c := c) (by omega))).trans hv
  have raised : (JobEnd.start c).raise .wrap = JobEnd.start (c.flag .wrap) := JobEnd.raise_masked hm
  rw [scaleEnd_wrap (underflowIf_of_two hd) rfl (secondValue_toInt hd hk) top h0 h hf, raised, if_neg (by nofun),
    writeTop_of_two (c := c.flag .wrap) hd]

theorem scale_wrap_stops (hm : c.masked .wrap = false) :
    scaleEnd c = { JobEnd.start (c.flag .wrap) with stopped := true } := by
  have top := (congrArg BitVec.toInt (Context.topValue_of_depth (c := c) (by omega))).trans hv
  have raised : (JobEnd.start c).raise .wrap = { JobEnd.start (c.flag .wrap) with stopped := true } :=
    JobEnd.raise_unmasked hm
  rw [scaleEnd_wrap (underflowIf_of_two hd) rfl (secondValue_toInt hd hk) top h0 h hf, raised]
  exact if_pos rfl

end

/-- Settles O20: the shift by its mode, and SCALE by the ranges of its count. -/
theorem scaleShiftsTop : Obligations.ScaleShiftsTop := by
  unfold Obligations.ScaleShiftsTop
  refine ⟨shiftRight_zero, fun v k hk => ⟨shiftRight_pos _ v hk, shiftRight_pos _ v hk, shiftRight_pos _ v hk⟩, by decide,
    fun c hd hmasks => ?_⟩
  intro k v r
  have masked (e : Exn) : c.masked e = true := by rw [Context.masked, hmasks]; cases e <;> rfl
  have ownTag (x : Acc) : c.setTop x (c.tags.get c.top) = { c with stack := vset c.stack c.top x } := by
    rw [Context.setTop, vset_get_self]
  have range (h : k < -47 ∨ 47 < k) : r = _ := scale_range hd rfl h (masked .range)
  have right (h : -47 ≤ k) (h0 : k ≤ 0) : r = _ := scale_right hd rfl rfl h h0
  have left (h0 : 0 < k) (h : k ≤ 47) (hf : fits48 (v * 2 ^ k.toNat) = true) : r = _ := scale_left hd rfl rfl h0 h hf
  have wraps (h0 : 0 < k) (h : k ≤ 47) (hf : (!fits48 (v * 2 ^ k.toNat)) = true) : r = _ :=
    scale_wraps hd rfl rfl h0 h hf (masked .wrap)
  refine ⟨fun h => ?_, fun h h0 => ?_, fun h0 h => ⟨?_, fun hf => ?_, fun hf => ?_⟩, ?_⟩
  · rw [range h]; exact ⟨rfl, rfl, rfl⟩
  · rw [right h h0]; exact ⟨rfl, ownTag _⟩
  · cases hf : fits48 (v * 2 ^ k.toNat)
    · rw [wraps h0 h (by rw [hf]; rfl)]
    · rw [left h0 h hf]
  · rw [left h0 h ((fits48_iff _).mpr hf)]; exact ownTag _
  · rw [wraps h0 h ((not_fits48_iff _).mpr hf)]; rfl
  · by_cases h : k < -47 ∨ 47 < k
    · rw [range h]; rfl
    by_cases h0 : k ≤ 0
    · rw [right (by omega) h0]; rfl
    cases hf : fits48 (v * 2 ^ k.toNat)
    · rw [wraps (by omega) (by omega) (by rw [hf]; rfl)]; rfl
    · rw [left (by omega) (by omega) hf]; rfl

end Sys2Proof.Machine

/-! SUPPORT. The end of a job pass in its port, its queue and the memory (O18). -/

namespace Sys2Proof.Machine

/-! ### What a step's end leaves of its pass -/

section
variable (j : JobPass)

/-- The end of a step changes the sums and the position of the pass alone. -/
theorem JobPass.endStep_keeps : j.endStep.port = j.port ∧ j.endStep.job = j.job ∧ j.endStep.read = j.read := by
  unfold JobPass.endStep
  dsimp only
  repeat' split
  all_goals exact ⟨rfl, rfl, rfl⟩

@[simp] theorem JobPass.endStep_port : j.endStep.port = j.port := j.endStep_keeps.1
@[simp] theorem JobPass.endStep_job : j.endStep.job = j.job := j.endStep_keeps.2.1
@[simp] theorem JobPass.endStep_read : j.endStep.read = j.read := j.endStep_keeps.2.2

end

/-! ### The result of a pass -/

/-- What a pass leaves in its port and in the memory: its job's result, or that of a step that raised ACCESS (R76, R139). -/
def JobPass.result (j : JobPass) (s : State) : JobEnd × State :=
  if j.read = .access then ((JobEnd.start (s.port j.port).ctx).raiseAccess, s) else jobResult j s

section
variable {j : JobPass} {s : State}

theorem JobPass.result_access (h : j.read = .access) :
    j.result s = ((JobEnd.start (s.port j.port).ctx).raiseAccess, s) := if_pos h

theorem JobPass.result_of_read (h : j.read ≠ .access) : j.result s = jobResult j s := if_neg h

/-- The end of a pass is its stores, and its result in its port. -/
theorem jobEnded_result (j : JobPass) (s : State) :
    jobEnded j s = (j.result s).2.modPort j.port (PortState.ends (j.result s).1 j.job) := by
  show (if (j.result s).1.stopped then _ else _) = _
  simp only [leaveQueue_eq, State.modPort_modPort]
  split
  · next hstop =>
    rw [State.notify_eq, State.modPort_modPort]
    exact State.modPort_congr (by simp only [PortState.ends, hstop, if_true]; rfl)
  · next hstop => exact State.modPort_congr (by simp only [PortState.ends, hstop, Bool.false_eq_true, if_false]; rfl)

/-- Words written in a row change the memory alone. -/
theorem foldl_writeWord_eq (id : WindowId) (ws : List (Nat × Word)) (s : State) :
    ∃ m, ws.foldl (fun s ow => s.writeWord id ow.1 ow.2) s = { s with mem := m } := by
  induction ws generalizing s with
  | nil => exact ⟨s.mem, rfl⟩
  | cons w ws ih =>
    obtain ⟨m, h⟩ := ih (s.writeWord id w.1 w.2)
    refine ⟨m, ?_⟩
    rw [List.foldl_cons, h, State.writeWord_eq]

/-- No job but a STORE changes the memory. -/
theorem jobResult_of_no_store (h : ∀ nm off stride width k pop, j.job ≠ .store nm off stride width k pop) :
    (jobResult j s).2 = s := by
  unfold jobResult
  cases hj : j.job with
  | store nm off stride width k pop => exact absurd hj (h nm off stride width k pop)
  | _ => rfl

/-- A job changes the memory alone outside its port. -/
theorem jobResult_mem (j : JobPass) (s : State) : ∃ m, (jobResult j s).2 = { s with mem := m } := by
  by_cases h : ∀ nm off stride width k pop, j.job ≠ .store nm off stride width k pop
  · exact ⟨s.mem, jobResult_of_no_store h⟩
  · push Not at h
    obtain ⟨nm, off, stride, width, k, pop, hj⟩ := h
    simp only [jobResult, hj]
    split
    · exact ⟨s.mem, rfl⟩
    · exact foldl_writeWord_eq _ _ s

theorem JobPass.result_mem (j : JobPass) (s : State) : ∃ m, (j.result s).2 = { s with mem := m } := by
  unfold JobPass.result
  split
  · exact ⟨s.mem, rfl⟩
  · exact jobResult_mem j s

end

/-! ### The port at the end of a job (R131, R139, R147) -/

section
variable (r : JobEnd) (job : Job) (ps : PortState)

theorem PortState.leaves_eq : ps.leaves = { ps with jobs := ps.jobs.drop 1, notices := ps.leaves.notices } := by
  unfold PortState.leaves
  extract_lets left
  split <;> rfl

/-- The end of a job changes the queue, the context and the notice sets of its port. -/
theorem PortState.ends_eq : ps.ends r job
    = { ps with jobs := ps.jobs.drop 1, ctx := (ps.ends r job).ctx, notices := (ps.ends r job).notices } := by
  unfold PortState.ends
  rw [PortState.leaves_eq]
  extract_lets left
  split <;> rfl

/-- An unmasked exception also sets error-pending, and JOB_STOPPED tells it (R138). -/
theorem PortState.ends_stopped (h : r.stopped = true) :
    (ps.ends r job).ctx = { r.recorded job with errorPending := true } ∧ (ps.ends r job).notices.jobStopped = true := by
  simp [PortState.ends, h, PortState.noticed, Notices.add]

theorem PortState.ends_record : (ps.ends r job).ctx.lastKind = job.code
    ∧ (ps.ends r job).ctx.lastWindow = job.place.1 ∧ (ps.ends r job).ctx.lastOffset = job.place.2 := by
  cases h : r.stopped with
  | false => rw [PortState.ends_ctx _ _ _ h]; exact ⟨rfl, rfl, rfl⟩
  | true => rw [(PortState.ends_stopped r job ps h).1]; exact ⟨rfl, rfl, rfl⟩

end

/-! ### The row -/

/-- The state with the unit FREE and no job pass. -/
def State.unitFreed (s : State) : State :=
  { s with engine := { s.engine with mac := .free, suspendAsked := false, jobPass := none } }

/-- JOB_PASS_END of a pass in its last step: what the step adds, and then the end of the job. -/
theorem exec_jobPassEnd {s : State} {j : JobPass} (hmac : s.engine.mac = .running .job) (hj : s.engine.jobPass = some j)
    (hlast : j.isLast = true) : exec .jobPassEnd s = .next ((j.endStep.result s.unitFreed).2.modPort j.port
      (PortState.ends (j.endStep.result s.unitFreed).1 j.job)) := by
  have ended := jobEnded_result j.endStep s.unitFreed
  rw [JobPass.endStep_port, JobPass.endStep_job] at ended
  show execJobPassEnd s = _
  simp only [execJobPassEnd, finish, hmac, hj, hlast, if_true]
  exact congrArg Host.Outcome.next ended

/-! ### A step that raised ACCESS (R137, R138) -/

section
variable {r : JobEnd}

/-- A masked ACCESS ends the job early. -/
theorem raiseAccess_masked (hr : r.stopped = false) (h : r.ctx.masked .access = true) :
    r.raiseAccess = { r with ctx := r.ctx.flag .access, early := true } := by
  rw [JobEnd.raiseAccess, JobEnd.raise_masked h, hr]
  rfl

theorem raiseAccess_unmasked (h : r.ctx.masked .access = false) :
    r.raiseAccess = { r with ctx := r.ctx.flag .access, stopped := true, early := false } := by
  rw [JobEnd.raiseAccess, JobEnd.raise_unmasked h]
  rfl

end

/-- After an ACCESS the job does nothing more. -/
theorem raiseAccess_over (r : JobEnd) : r.raiseAccess.over = true := by
  simp only [JobEnd.over, JobEnd.raiseAccess, Bool.or_not_self]

/-- Settles O18: the result of the pass goes to its port, and but for a STORE to nothing else. -/
theorem jobPassEnds : Obligations.JobPassEnds := by
  unfold Obligations.JobPassEnds
  intro s j h rest hmac hj hlast hjobs c
  refine ⟨_, exec_jobPassEnd hmac hj hlast, ?_⟩
  obtain ⟨m, hm⟩ := JobPass.result_mem j.endStep s.unitFreed
  generalize hres : j.endStep.result s.unitFreed = res at hm ⊢
  obtain ⟨r, u⟩ := res
  obtain rfl : u = { s.unitFreed with mem := m } := hm
  have left : (s.port j.port).jobs.drop 1 = rest := by rw [hjobs]; rfl
  have port : (({ s.unitFreed with mem := m } : State).modPort j.port (PortState.ends r j.job)).port j.port
      = (s.port j.port).ends r j.job := State.port_modPort_same _ _ _
  have access (hread : j.read = .access) : (JobEnd.start c).raiseAccess = r ∧ s.mem = m := by
    have raised := JobPass.result_access (s := s.unitFreed) (j.endStep_read.trans hread)
    rw [hres, JobPass.endStep_port] at raised
    exact ⟨(congrArg Prod.fst raised).symm, (congrArg (fun x => x.2.mem) raised).symm⟩
  rw [port]
  refine ⟨rfl, (PortState.ends_jobs _ _ _).trans left, fun hrest => PortState.ends_idle _ _ (left.trans hrest),
    (PortState.ends_record _ _ _).1, (PortState.ends_record _ _ _).2.1, (PortState.ends_record _ _ _).2.2,
    by rw [PortState.ends_eq], by rw [PortState.ends_eq], by rw [PortState.ends_eq],
    fun q hq => State.port_modPort_ne _ _ _ _ hq, rfl, rfl, rfl, rfl, rfl, rfl, rfl, fun h => ?memory,
    fun hread hm => ?masked, fun hread hm => ?unmasked⟩
  case memory =>
    show m = s.mem
    by_cases hread : j.read = .access
    · exact (access hread).2.symm
    · have kept := jobResult_of_no_store (j := j.endStep) (s := s.unitFreed) (by simpa using h)
      rw [← JobPass.result_of_read (by simpa using hread), hres] at kept
      exact congrArg State.mem kept
  case masked =>
    obtain ⟨raised, mem⟩ := access hread
    rw [raiseAccess_masked (r := JobEnd.start c) rfl hm] at raised
    subst raised
    exact ⟨PortState.ends_ctx _ _ _ rfl, mem.symm⟩
  case unmasked =>
    obtain ⟨raised, mem⟩ := access hread
    rw [raiseAccess_unmasked (r := JobEnd.start c) hm] at raised
    subst raised
    let stopped : JobEnd := { JobEnd.start (c.flag .access) with stopped := true }
    obtain ⟨ctx, told⟩ := PortState.ends_stopped stopped j.job (s.port j.port) rfl
    exact ⟨ctx, told, mem.symm⟩

end Sys2Proof.Machine

/-! SUPPORT. What each job leaves on the result stack, in the flags and in the memory (O19). -/

namespace Sys2Proof.Machine

/-! ### The depth of the stack (R134) -/

/-- An entry replaced counts by its tags alone. -/
theorem tagDepth_vset (tags : Vector Tag 8) (i : Fin 8) (t : Tag) :
    tagDepth (vset tags i t) + (if tags.get i = .empty then 0 else 1) = tagDepth tags + (if t = .empty then 0 else 1) := by
  have hlen : i.val < tags.toList.length := by simp
  have hset : (vset tags i t).toList = tags.toList.set i.val t := Vector.toList_set _
  have hget : tags.toList[i.val] = tags.get i := by simp [Vector.get]
  have hpos : tags.get i ≠ .empty → 0 < tags.toList.countP (· != .empty) := fun h =>
    List.countP_pos_iff.mpr ⟨tags.get i, hget ▸ List.getElem_mem hlen, by simpa using h⟩
  unfold tagDepth
  rw [← List.countP_eq_length_filter, ← List.countP_eq_length_filter, hset, List.countP_set hlen, hget]
  generalize tags.toList.countP (· != .empty) = n at hpos ⊢
  by_cases h : tags.get i = .empty
  · by_cases ht : t = .empty <;> simp [h, ht]
  · have := hpos h
    by_cases ht : t = .empty <;> simp [h, ht] <;> omega

theorem tagDepth_le (tags : Vector Tag 8) : tagDepth tags ≤ 8 := by
  have h := List.length_filter_le (· != Tag.empty) tags.toList
  rwa [Vector.length_toList] at h

/-- A full stack has no EMPTY entry. -/
theorem get_ne_empty_of_full {tags : Vector Tag 8} (h : tagDepth tags = 8) (i : Fin 8) : tags.get i ≠ .empty := by
  intro he
  have hset := tagDepth_vset tags i .valid
  rw [h, if_pos he, if_neg (by nofun)] at hset
  have := tagDepth_le (vset tags i .valid)
  omega

/-- The place above a run of seven is EMPTY. -/
theorem get_eq_empty_of_seven {tags : Vector Tag 8} {top : Fin 8} (hc : tagsContiguous tags top = true)
    (h : tagDepth tags = 7) : tags.get (top - 1) = .empty := by
  have last := List.all_eq_true.mp hc 7 (by decide)
  have place : ∀ t : Fin 8, t + Fin.ofNat 8 7 = t - 1 := by decide
  rw [h, place] at last
  simpa using last

/-- A push onto seven values or more fills the stack. -/
theorem tagDepth_push_of_seven {tags : Vector Tag 8} {top : Fin 8} (hc : tagsContiguous tags top = true)
    (h : 7 ≤ tagDepth tags) : tagDepth (vset tags (top - 1) .valid) = 8 := by
  have hset := tagDepth_vset tags (top - 1) .valid
  rw [if_neg (show Tag.valid ≠ .empty by nofun)] at hset
  rcases Nat.eq_or_lt_of_le h with h7 | h8
  · rw [if_pos (get_eq_empty_of_seven hc h7.symm)] at hset
    omega
  · have full : tagDepth tags = 8 := Nat.le_antisymm (tagDepth_le tags) h8
    rw [if_neg (get_ne_empty_of_full full _)] at hset
    omega

/-! ### The context at the end of a job (R136) -/

/-- The context with the condition codes C0 and C3 of a value written last. -/
def Context.wrote (c : Context) (v : Acc) : Context := { c with c0 := decide (v.toInt < 0), c3 := decide (v = 0) }

/-- The context after a push of a VALID value, with its condition codes. -/
def Context.onto (c : Context) (v : Acc) : Context := (c.pushRaw v .valid).wrote v

@[simp] theorem Context.flag_flag (c : Context) (e : Exn) : (c.flag e).flag e = c.flag e := by
  simp only [Context.flag, insertBit, BitVec.or_assoc, BitVec.or_self]

namespace JobEnd

/-- The job has gone on to its end, which leaves this context but for the last-job record. -/
def Leaves (r : JobEnd) (d : Context) : Prop := r.stopped = false ∧ r.codes = d

/-- An unmasked exception has stopped the job, which leaves this context but for error-pending and the last-job record. -/
def Stops (r : JobEnd) (d : Context) : Prop := r.stopped = true ∧ r.codes = d

end JobEnd

section
variable {c : Context} {v u : Acc}

/-! ### Pushes (R135) -/

theorem push_leaves (hd : c.depth < 8) : ((JobEnd.start c).push v .valid).Leaves { c.onto v with c1 := false } := by
  rw [JobEnd.push_room (r := JobEnd.start c) rfl (Nat.ne_of_lt hd)]
  exact ⟨rfl, rfl⟩

theorem push_overflows (hd : c.depth = 8) (hm : c.masked .stack = true) :
    ((JobEnd.start c).push v .valid).Leaves { (c.flag .stack).onto v with c1 := true } := by
  rw [JobEnd.push_full_masked (r := JobEnd.start c) rfl hd hm]
  exact ⟨rfl, rfl⟩

theorem push_stops (hd : c.depth = 8) (hm : c.masked .stack = false) :
    ((JobEnd.start c).push v .valid).Stops { c.flag .stack with c1 := true } := by
  rw [JobEnd.push_full_unmasked (r := JobEnd.start c) rfl hd hm]
  exact ⟨rfl, rfl⟩

/-- Two pushes that are not refused together. -/
theorem push2_eq (h : c.depth < 7 ∨ c.masked .stack = true) :
    (JobEnd.start c).push2 v u = ((JobEnd.start c).push v .valid).push u .valid := by
  have room : (decide ((JobEnd.start c).ctx.depth > 6) && !(JobEnd.start c).ctx.masked .stack) = false := by
    show (decide (c.depth > 6) && !c.masked .stack) = false
    rcases h with h | h
    · rw [decide_eq_false (by omega), Bool.false_and]
    · rw [h, Bool.not_true, Bool.and_false]
  rw [JobEnd.push2, if_neg (by nofun), room, if_neg (by nofun)]

theorem push2_leaves (hd : c.depth < 7) :
    ((JobEnd.start c).push2 v u).Leaves { (c.onto v).onto u with c1 := false } := by
  have deeper : (c.pushRaw v .valid).depth ≤ c.depth + 1 := tagDepth_vset_le _ _ _
  rw [push2_eq (.inl hd), JobEnd.push_room (r := JobEnd.start c) rfl (show c.depth ≠ 8 by omega),
    JobEnd.push_room rfl (show (c.pushRaw v .valid).depth ≠ 8 by omega)]
  exact ⟨rfl, rfl⟩

theorem push2_overflows (hd : 7 ≤ c.depth) (hm : c.masked .stack = true) (hc : tagsContiguous c.tags c.top = true) :
    ((JobEnd.start c).push2 v u).Leaves { ((c.flag .stack).onto v).onto u with c1 := true } := by
  have full : (c.pushRaw v .valid).depth = 8 := tagDepth_push_of_seven hc hd
  rw [push2_eq (.inr hm)]
  rcases Nat.lt_or_ge c.depth 8 with h7 | h8
  · rw [JobEnd.push_room (r := JobEnd.start c) rfl (Nat.ne_of_lt h7), JobEnd.push_full_masked rfl full hm]
    exact ⟨rfl, rfl⟩
  · rw [JobEnd.push_full_masked (r := JobEnd.start c) rfl (Nat.le_antisymm (tagDepth_le _) h8) hm,
      JobEnd.push_full_masked rfl full hm]
    have twice : ((c.flag .stack).pushRaw v .valid).flag .stack = (c.flag .stack).pushRaw v .valid :=
      congrArg (fun d : Context => d.pushRaw v .valid) (c.flag_flag .stack)
    rw [show (JobEnd.start c).ctx = c from rfl, twice]
    exact ⟨rfl, rfl⟩

theorem push2_stops (hd : 7 ≤ c.depth) (hm : c.masked .stack = false) :
    ((JobEnd.start c).push2 v u).Stops { c.flag .stack with c1 := true } := by
  have refused : (decide ((JobEnd.start c).ctx.depth > 6) && !(JobEnd.start c).ctx.masked .stack) = true := by
    show (decide (c.depth > 6) && !c.masked .stack) = true
    rw [hm, decide_eq_true (by omega), Bool.not_false, Bool.and_true]
  rw [JobEnd.push2, if_neg (by nofun), refused, if_pos rfl, JobEnd.raise_unmasked (r := JobEnd.start c) hm]
  exact ⟨rfl, rfl⟩

/-! ### A missing operand of a job that needs one (R135) -/

theorem depth_beq_of_pos (h : 0 < c.depth) : (c.depth == 0) = false := beq_false_of_ne (Nat.ne_of_gt h)

theorem depth_beq_of_zero (h : c.depth = 0) : (c.depth == 0) = true := beq_iff_eq.mpr h

/-! ### DOT and ENERGY with accumulate (R140) -/

section
variable {n : Nat} (hn : 0 < n) {sum : Int} (hsum : c.topValue.toInt + v.toInt = sum)
include hn hsum

/-- The sum written into the top, after the exceptions that it raises. -/
theorem sumEnd_accumulate : sumEnd c v n true =
    let r := (JobEnd.start c).underflowIf (c.depth == 0)
    let wraps := !fits48 sum
    (if wraps && !r.over then r.raise .wrap else r).writeTop (BitVec.ofInt 48 sum)
      (if wraps || c.topTag == .wrapped then .wrapped else .valid) := by
  simp only [sumEnd, Nat.ne_of_gt hn, Bool.not_true, Bool.false_eq_true, if_false, accAdd, accSet, hsum]

variable (hd : 0 < c.depth)
include hd

/-- A sum that fits is written with the tag of the top. -/
theorem sumEnd_adds (hf : fits48 sum = true) (ht : c.tags.get c.top ≠ .empty) : (sumEnd c v n true).Leaves
    { (c.setTop (BitVec.ofInt 48 sum) (c.tags.get c.top)).wrote (BitVec.ofInt 48 sum) with c1 := false } := by
  have tag : (if c.topTag == .wrapped then Tag.wrapped else .valid) = c.tags.get c.top := by
    rw [Context.topTag_of_depth (Nat.ne_of_gt hd)]
    generalize c.tags.get c.top = t at ht ⊢
    cases t with
    | empty => exact absurd rfl ht
    | _ => rfl
  rw [sumEnd_accumulate hn hsum, depth_beq_of_pos hd, JobEnd.underflowIf_false]
  simp only [hf, Bool.not_true, Bool.false_and, Bool.false_or, Bool.false_eq_true, if_false, tag]
  rw [JobEnd.writeTop_of_depth (r := JobEnd.start c) rfl (Nat.ne_of_gt hd)]
  exact ⟨rfl, rfl⟩

variable (hf : (!fits48 sum) = true)
include hf

theorem sumEnd_wraps (hm : c.masked .wrap = true) : (sumEnd c v n true).Leaves
    { ((c.flag .wrap).setTop (BitVec.ofInt 48 sum) .wrapped).wrote (BitVec.ofInt 48 sum) with c1 := false } := by
  have raised : (JobEnd.start c).raise .wrap = JobEnd.start (c.flag .wrap) := JobEnd.raise_masked hm
  have go : (!(JobEnd.start c).over) = true := rfl
  rw [sumEnd_accumulate hn hsum, depth_beq_of_pos hd, JobEnd.underflowIf_false]
  simp only [hf, go, Bool.and_true, Bool.true_or, if_true, raised]
  rw [JobEnd.writeTop_of_depth (r := JobEnd.start (c.flag .wrap)) rfl (show c.depth ≠ 0 from Nat.ne_of_gt hd)]
  exact ⟨rfl, rfl⟩

theorem sumEnd_wrap_stops (hm : c.masked .wrap = false) : (sumEnd c v n true).Stops { c.flag .wrap with c1 := false } := by
  have raised : (JobEnd.start c).raise .wrap = { JobEnd.start (c.flag .wrap) with stopped := true } :=
    JobEnd.raise_unmasked hm
  have go : (!(JobEnd.start c).over) = true := rfl
  rw [sumEnd_accumulate hn hsum, depth_beq_of_pos hd, JobEnd.underflowIf_false]
  simp only [hf, go, Bool.and_true, Bool.true_or, if_true, raised]
  rw [JobEnd.writeTop_over rfl]
  exact ⟨rfl, rfl⟩

end

section
variable {n : Nat} (hn : 0 < n) (hd : c.depth = 0)
include hn hd

/-- With no top the sum is the value itself, and it is pushed. -/
theorem sumEnd_of_empty : sumEnd c v n true = ((JobEnd.start c).underflowIf true).writeTop v .valid := by
  have zero : c.topValue.toInt + v.toInt = v.toInt := by rw [Context.topValue_of_empty hd]; exact Int.zero_add _
  have fits : fits48 v.toInt = true := (fits48_iff _).mpr ⟨BitVec.le_toInt v, BitVec.toInt_lt⟩
  rw [sumEnd_accumulate hn zero, depth_beq_of_zero hd, Context.topTag_of_empty hd]
  simp only [fits, BitVec.ofInt_toInt, Bool.not_true, Bool.false_and, Bool.false_or, Bool.false_eq_true, if_false]
  rfl

theorem sumEnd_underflows (hm : c.masked .stack = true) :
    (sumEnd c v n true).Leaves { (c.flag .stack).onto v with c1 := false } := by
  rw [sumEnd_of_empty hn hd, JobEnd.underflow_masked hm, JobEnd.writeTop_of_empty rfl (show c.depth = 0 from hd)]
  exact ⟨rfl, rfl⟩

theorem sumEnd_underflow_stops (hm : c.masked .stack = false) :
    (sumEnd c v n true).Stops { c.flag .stack with c1 := false } := by
  rw [sumEnd_of_empty hn hd, JobEnd.underflow_unmasked hm, JobEnd.writeTop_over rfl]
  exact ⟨rfl, rfl⟩

end

/-! ### DROP (R143) -/

/-- The result of DROP. -/
def dropEnd (c : Context) : JobEnd := ((JobEnd.start c).underflowIf (c.depth == 0)).pop

theorem dropEnd_leaves (hd : 0 < c.depth) :
    (dropEnd c).Leaves { c with tags := vset c.tags c.top .empty, top := c.top + 1, c1 := false } := by
  rw [dropEnd, depth_beq_of_pos hd, JobEnd.underflowIf_false,
    JobEnd.pop_of_depth (r := JobEnd.start c) rfl (Nat.ne_of_gt hd)]
  exact ⟨rfl, rfl⟩

theorem dropEnd_underflows (hd : c.depth = 0) (hm : c.masked .stack = true) :
    (dropEnd c).Leaves { c.flag .stack with c1 := false } := by
  rw [dropEnd, depth_beq_of_zero hd, JobEnd.underflow_masked hm, JobEnd.pop_of_empty (show c.depth = 0 from hd)]
  exact ⟨rfl, rfl⟩

theorem dropEnd_stops (hd : c.depth = 0) (hm : c.masked .stack = false) :
    (dropEnd c).Stops { c.flag .stack with c1 := false } := by
  rw [dropEnd, depth_beq_of_zero hd, JobEnd.underflow_unmasked hm, JobEnd.pop_over rfl]
  exact ⟨rfl, rfl⟩

/-! ### SCALE with a missing operand (R135, R145) -/

/-- An unmasked underflow stops SCALE. -/
theorem scale_underflow_stops (hd : c.depth ≤ 1) (hm : c.masked .stack = false) :
    (scaleEnd c).Stops { c.flag .stack with c1 := false } := by
  have start := (congrArg _ (decide_eq_true hd)).trans (JobEnd.underflow_unmasked hm)
  rw [scaleEnd_over start rfl]
  exact ⟨rfl, rfl⟩

/-- With a missing operand the count is 0, and the top is written as it is. -/
theorem scale_underflow (hd : c.depth ≤ 1) (hm : c.masked .stack = true) : scaleEnd c =
    { ({ JobEnd.start (c.flag .stack) with underflow := true } : JobEnd).writeTop c.topValue c.topTag with
      c2 := some false } := by
  have start := (congrArg _ (decide_eq_true hd)).trans (JobEnd.underflow_masked hm)
  have count : c.secondValue.toInt = 0 := by rw [Context.secondValue, if_pos hd]; rfl
  rw [scaleEnd_right start rfl count rfl (by decide) (by decide), Int.neg_zero, Int.toNat_zero, shiftRight_zero,
    BitVec.ofInt_toInt]

theorem scale_of_one (hd : c.depth = 1) (hm : c.masked .stack = true) :
    (scaleEnd c).Leaves { (c.flag .stack).wrote (c.stack.get c.top) with c1 := false, c2 := false } := by
  have depth : c.depth ≠ 0 := by omega
  have same : (c.flag .stack).setTop (c.stack.get c.top) (c.tags.get c.top) = c.flag .stack := Context.setTop_self _
  rw [scale_underflow (Nat.le_of_eq hd) hm, JobEnd.writeTop_of_depth rfl (show c.depth ≠ 0 from depth),
    show (JobEnd.start (c.flag .stack)).ctx = c.flag .stack from rfl, Context.topValue_of_depth depth,
    Context.topTag_of_depth depth, same]
  exact ⟨rfl, rfl⟩

theorem scale_of_empty (hd : c.depth = 0) (hm : c.masked .stack = true) :
    (scaleEnd c).Leaves { (c.flag .stack).onto 0 with c1 := false, c2 := false } := by
  rw [scale_underflow (by omega) hm, JobEnd.writeTop_of_empty rfl (show c.depth = 0 from hd),
    Context.topValue_of_empty hd, Context.topTag_of_empty hd]
  exact ⟨rfl, rfl⟩

end

end Sys2Proof.Machine

/-! SUPPORT. What a STORE leaves (O19). -/

namespace Sys2Proof.Machine

/-! ### STORE up to its words (R146) -/

section
variable {s : State} {p : Port} {nm : WindowName} {off stride : Nat} {width : StoreWidth} {k : Nat} {pop : Bool}

/-- The value a STORE fits to its width: the shifted top. -/
def storeValue (c : Context) (k : Nat) : Int := shiftRight c.rounding c.topValue.toInt k

/-- The value is out of the range of the width. -/
def outOfWidth (width : StoreWidth) (v : Int) : Prop := v < -(2 ^ (width.bits - 1)) ∨ 2 ^ (width.bits - 1) ≤ v

/-- A span word that the STORE would write is not there (R133). -/
def State.storeMisses (s : State) (id : WindowId) (off stride : Nat) (width : StoreWidth) : Prop :=
  ∃ o ∈ storeOffsets off stride width, ∀ a, s.resolve id o ≠ .address a

theorem State.readWord_isNone {id : WindowId} {o : Nat} :
    (s.readWord id o).isNone = true ↔ ∀ a, s.resolve id o ≠ .address a := by
  unfold State.readWord
  cases s.resolve id o <;> simp

theorem State.storeMisses_iff {id : WindowId} : s.storeMisses id off stride width
    ↔ ((storeOffsets off stride width).any fun o => (s.readWord id o).isNone) = true := by
  simp only [State.storeMisses, List.any_eq_true, State.readWord_isNone]

theorem outOfWidth_iff {v : Int} : outOfWidth width v
    ↔ (decide (v < -(2 ^ (width.bits - 1))) || decide (2 ^ (width.bits - 1) - 1 < v)) = true := by
  simp only [outOfWidth, Bool.or_eq_true, decide_eq_true_eq, Int.sub_one_lt_iff]

/-- A STORE after its underflow and its SAT, before it looks for its words. -/
def storeFitted (c : Context) (width : StoreWidth) (v : Int) : JobEnd :=
  let r := (JobEnd.start c).underflowIf (c.depth == 0)
  if !r.over && (decide (v < -(2 ^ (width.bits - 1))) || decide (2 ^ (width.bits - 1) - 1 < v)) then r.raise .sat else r

/-- The result of a STORE up to its write. -/
def storeResult (s : State) (p : Port) (nm : WindowName) (off stride : Nat) (width : StoreWidth) (k : Nat) (pop : Bool) :
    JobEnd := (storeEnd s p nm off stride width k pop).1

theorem storeResult_eq {c : Context} (hc : (s.port p).ctx = c) : storeResult s p nm off stride width k pop =
    let r := storeFitted c width (storeValue c k)
    let r := if !r.over && (storeOffsets off stride width).any (fun o => (s.readWord (nm.of p) o).isNone) then r.raiseAccess
      else r
    if pop then r.pop else r := by
  subst hc
  rfl

section
variable {c : Context} (hc : (s.port p).ctx = c) {r : JobEnd} (hr : storeFitted c width (storeValue c k) = r)
include hc hr

/-- A STORE that an unmasked exception has stopped. -/
theorem storeResult_over (hover : r.over = true) : storeResult s p nm off stride width k pop = r := by
  rw [storeResult_eq hc]
  simp only [hr, hover, Bool.not_true, Bool.false_and, Bool.false_eq_true, if_false, JobEnd.pop_over, ite_self]

/-- A STORE that finds its words. -/
theorem storeResult_finds (h : ¬ s.storeMisses (nm.of p) off stride width) :
    storeResult s p nm off stride width k pop = if pop then r.pop else r := by
  rw [storeResult_eq hc]
  simp only [hr, Bool.eq_false_iff.mpr fun e => h (State.storeMisses_iff.mpr e), Bool.and_false, Bool.false_eq_true,
    if_false]

variable (hover : r.over = false)
include hover

/-- A STORE that misses a word. -/
theorem storeResult_misses (h : s.storeMisses (nm.of p) off stride width) :
    storeResult s p nm off stride width k pop = r.raiseAccess := by
  rw [storeResult_eq hc]
  simp only [hr, hover, State.storeMisses_iff.mp h, Bool.not_false, Bool.and_true, if_true,
    JobEnd.pop_over (raiseAccess_over r), ite_self]

end

section
variable {c : Context} {v : Int}

/-- An unmasked underflow stops the STORE. -/
theorem storeFitted_underflow_stops (hd : c.depth = 0) (hm : c.masked .stack = false) :
    storeFitted c width v = { JobEnd.start (c.flag .stack) with stopped := true, underflow := true } := by
  rw [storeFitted, depth_beq_of_zero hd, JobEnd.underflow_unmasked hm]
  exact if_neg (by nofun)

/-- An unmasked SAT stops the STORE. -/
theorem storeFitted_sat_stops (hd : 0 < c.depth) (hv : outOfWidth width v) (hm : c.masked .sat = false) :
    storeFitted c width v = { JobEnd.start (c.flag .sat) with stopped := true } := by
  rw [storeFitted, depth_beq_of_pos hd, JobEnd.underflowIf_false, outOfWidth_iff.mp hv, Bool.and_true]
  exact (if_pos rfl).trans (JobEnd.raise_unmasked hm)

/-- Nothing has stopped the STORE: an underflow and a SAT have set their flags. A missing top, being 0, fits every width. -/
theorem storeFitted_goes (hstack : c.depth = 0 → c.masked .stack = true) (hzero : c.depth = 0 → ¬ outOfWidth width v)
    (hsat : outOfWidth width v → c.masked .sat = true) {d : Context} (hempty : c.depth = 0 → d = c.flag .stack)
    (hout : outOfWidth width v → d = c.flag .sat) (hfits : 0 < c.depth → ¬ outOfWidth width v → d = c) :
    ∃ u, storeFitted c width v = { JobEnd.start d with underflow := u } := by
  have fits (h : ¬ outOfWidth width v) := Bool.eq_false_iff.mpr fun e => h (outOfWidth_iff.mpr e)
  rcases Nat.eq_zero_or_pos c.depth with hd | hd
  · refine ⟨true, ?_⟩
    rw [storeFitted, depth_beq_of_zero hd, JobEnd.underflow_masked (hstack hd), fits (hzero hd), Bool.and_false, hempty hd]
    exact if_neg (by nofun)
  refine ⟨false, ?_⟩
  rw [storeFitted, depth_beq_of_pos hd, JobEnd.underflowIf_false]
  by_cases hv : outOfWidth width v
  · rw [outOfWidth_iff.mp hv, Bool.and_true, hout hv]
    exact (if_pos rfl).trans (JobEnd.raise_masked (hsat hv))
  · rw [fits hv, Bool.and_false, hfits hd hv]
    exact if_neg (by nofun)

/-- The flags that a STORE has set by then change neither the masks nor the tags. -/
theorem storeFitted_sound {d : Context} (hempty : c.depth = 0 → d = c.flag .stack)
    (hout : outOfWidth width v → d = c.flag .sat) (hfits : 0 < c.depth → ¬ outOfWidth width v → d = c) :
    d.masks = c.masks ∧ d.tags = c.tags := by
  by_cases hd : c.depth = 0
  · rw [hempty hd]; exact ⟨rfl, rfl⟩
  by_cases hv : outOfWidth width v
  · rw [hout hv]; exact ⟨rfl, rfl⟩
  · rw [hfits (Nat.pos_of_ne_zero hd) hv]; exact ⟨rfl, rfl⟩

/-- A missing top is stored as 0. -/
theorem not_outOfWidth_of_empty (hd : c.depth = 0) : ¬ outOfWidth width (storeValue c k) := by
  have zero : storeValue c k = 0 := by
    rw [storeValue, Context.topValue_of_empty hd]
    exact shiftRight_of_zero _ _
  rw [zero]
  have positive : (0 : Int) < 2 ^ (width.bits - 1) := by positivity
  rintro (h | h) <;> omega

end

/-! ### The results of a STORE -/

section
variable {c d : Context} (hc : (s.port p).ctx = c)
include hc

theorem store_underflow_stops (hd : c.depth = 0) (hm : c.masked .stack = false) :
    (storeResult s p nm off stride width k pop).Stops { c.flag .stack with c1 := false } := by
  rw [storeResult_over hc (storeFitted_underflow_stops hd hm) rfl]
  exact ⟨rfl, rfl⟩

theorem store_sat_stops (hv : outOfWidth width (storeValue c k)) (hm : c.masked .sat = false) :
    (storeResult s p nm off stride width k pop).Stops { c.flag .sat with c1 := false } := by
  have hd : 0 < c.depth := Nat.pos_of_ne_zero fun h => not_outOfWidth_of_empty h hv
  rw [storeResult_over hc (storeFitted_sat_stops hd hv hm) rfl]
  exact ⟨rfl, rfl⟩

variable {u : Bool} (hr : storeFitted c width (storeValue c k) = { JobEnd.start d with underflow := u })
include hr

section
variable (hmiss : s.storeMisses (nm.of p) off stride width)
include hmiss

theorem store_access (hm : d.masked .access = true) :
    (storeResult s p nm off stride width k pop).Leaves { d.flag .access with c1 := false } := by
  rw [storeResult_misses hc hr rfl hmiss, raiseAccess_masked (r := { JobEnd.start d with underflow := u }) rfl hm]
  exact ⟨rfl, rfl⟩

theorem store_access_stops (hm : d.masked .access = false) :
    (storeResult s p nm off stride width k pop).Stops { d.flag .access with c1 := false } := by
  rw [storeResult_misses hc hr rfl hmiss, raiseAccess_unmasked (r := { JobEnd.start d with underflow := u }) hm]
  exact ⟨rfl, rfl⟩

/-- A STORE that misses a word is over. -/
theorem storeResult_misses_over : (storeResult s p nm off stride width k pop).over = true := by
  rw [storeResult_misses hc hr rfl hmiss]
  exact raiseAccess_over _

end

variable (hfind : ¬ s.storeMisses (nm.of p) off stride width)
include hfind

theorem store_pops (hpop : pop = true) (hd : 0 < d.depth) : (storeResult s p nm off stride width k pop).Leaves
    { d with tags := vset d.tags d.top .empty, top := d.top + 1, c1 := false } := by
  have popped := JobEnd.pop_of_depth (r := { JobEnd.start d with underflow := u }) rfl (Nat.ne_of_gt hd)
  rw [storeResult_finds hc hr hfind, hpop, if_pos rfl, popped]
  exact ⟨rfl, rfl⟩

/-- A STORE that keeps the stack as it is. -/
theorem storeResult_keeps (hkeep : pop = false ∨ d.depth = 0) :
    storeResult s p nm off stride width k pop = { JobEnd.start d with underflow := u } := by
  rw [storeResult_finds hc hr hfind]
  rcases hkeep with rfl | hd
  · rfl
  · rw [JobEnd.pop_of_empty (r := { JobEnd.start d with underflow := u }) hd, ite_self]

theorem store_keeps (hkeep : pop = false ∨ d.depth = 0) :
    (storeResult s p nm off stride width k pop).Leaves { d with c1 := false } := by
  rw [storeResult_keeps hc hr hfind hkeep]
  exact ⟨rfl, rfl⟩

/-- A STORE that finds its words goes on to write them. -/
theorem storeResult_finds_over : (storeResult s p nm off stride width k pop).over = false := by
  by_cases hkeep : pop = false ∨ d.depth = 0
  · rw [storeResult_keeps hc hr hfind hkeep]
    rfl
  · push Not at hkeep
    obtain ⟨hpop, hd⟩ := hkeep
    have popped := JobEnd.pop_of_depth (r := { JobEnd.start d with underflow := u }) rfl hd
    rw [storeResult_finds hc hr hfind, Bool.eq_true_of_not_eq_false hpop, if_pos rfl, popped]
    rfl

end

end

/-! ### The words of a STORE (R146) -/

/-- The value of a STORE fitted to its width. -/
def storeFit (width : StoreWidth) (v : Int) : Int := max (-(2 ^ (width.bits - 1))) (min (2 ^ (width.bits - 1) - 1) v)

/-- The words of a STORE written at the places of its span. -/
def State.storeWrites (s : State) (id : WindowId) (off stride : Nat) (width : StoreWidth) (x : Int) : State :=
  (List.zip (storeOffsets off stride width) (storeWords x width)).foldl (fun s ow => s.writeWord id ow.1 ow.2) s

section
variable {s : State} {id : WindowId} {off stride a a1 a2 : Nat} {x : Int}

theorem State.mem_writeWord {w : Word} (h : s.resolve id off = .address a) :
    (s.writeWord id off w).mem = memWrite s.mem a w := by
  simp only [State.writeWord, h]

/-- A write moves no window. -/
theorem State.resolve_writeWord (s : State) (id id' : WindowId) (off off' : Nat) (w : Word) :
    (s.writeWord id off w).resolve id' off' = s.resolve id' off' := by
  rw [State.writeWord_eq]
  cases id' <;> rfl

/-- The low word of a fitted value is its low 16 bits. -/
theorem extractLsb'_ofInt (x : Int) : (BitVec.ofInt 32 x).extractLsb' 0 16 = BitVec.ofInt 16 x := by
  apply BitVec.eq_of_toNat_eq
  simp only [BitVec.extractLsb'_toNat, BitVec.toNat_ofInt, Nat.shiftRight_zero]
  omega

variable (hmem : s.MemoryCanonical) (h1 : s.resolve id off = .address a1)
include hmem h1

theorem memRead_store_w16 (b : Nat) : memRead (s.storeWrites id off stride .w16 x).mem b
    = if b = a1 then (BitVec.ofInt 32 x).extractLsb' 0 16 else memRead s.mem b := by
  show memRead (s.writeWord id off (BitVec.ofInt 16 x)).mem b = _
  rw [State.mem_writeWord h1, memRead_memWrite _ hmem, extractLsb'_ofInt]

theorem memRead_store_w32 (h2 : s.resolve id (off + stride) = .address a2) (b : Nat) :
    memRead (s.storeWrites id off stride .w32 x).mem b = if b = a2 then (BitVec.ofInt 32 x).extractLsb' 16 16
      else if b = a1 then (BitVec.ofInt 32 x).extractLsb' 0 16 else memRead s.mem b := by
  show memRead ((s.writeWord id off _).writeWord id (off + stride) _).mem b = _
  have canonical := State.memoryCanonical_writeWord hmem id off ((BitVec.ofInt 32 x).extractLsb' 0 16)
  rw [State.mem_writeWord ((s.resolve_writeWord id id off (off + stride) _).trans h2), memRead_memWrite _ canonical,
    State.mem_writeWord h1, memRead_memWrite _ hmem]

end

end Sys2Proof.Machine

/-! SUPPORT. The end of each job, by what its result does to its port and to the memory (O19). -/

namespace Sys2Proof.Machine

/-! ### The result of each job (R140 to R146) -/

section
variable {j : JobPass} {s : State} {c : Context} (hc : (s.port j.port).ctx = c) {a b : Span} {n l : Nat} {acc : Bool}
include hc

theorem jobResult_push {v : BitVec 32} (h : j.job = .push v) :
    (jobResult j s).1 = (JobEnd.start c).push (v.signExtend 48) .valid := by
  simp only [jobResult, h, hc]

theorem jobResult_sum (h : j.job = .dot a b n acc ∨ j.job = .energy a n acc) :
    (jobResult j s).1 = sumEnd c j.acc n acc := by
  rcases h with h | h <;> simp only [jobResult, h, hc]

theorem jobResult_peak (h : j.job = .peak a n) :
    (jobResult j s).1 = (JobEnd.start c).push2 (BitVec.ofNat 48 j.peak) (BitVec.ofNat 48 j.peakIndex) := by
  simp only [jobResult, h, hc]

theorem jobResult_sweep (h : j.job = .sweep a b n l) :
    (jobResult j s).1 = (JobEnd.start c).push2 j.best (BitVec.ofNat 48 j.bestLag) := by
  simp only [jobResult, h, hc]

theorem jobResult_drop (h : j.job = .drop) : (jobResult j s).1 = dropEnd c := by
  simp only [jobResult, h, hc, dropEnd]

theorem jobResult_scale (h : j.job = .scale) : (jobResult j s).1 = scaleEnd c := by
  simp only [jobResult, h, hc]

/-- A STORE writes its fitted value unless it is over. -/
theorem jobResult_store {nm : WindowName} {off stride k : Nat} {width : StoreWidth} {pop : Bool}
    (h : j.job = .store nm off stride width k pop) :
    let r := storeResult s j.port nm off stride width k pop
    jobResult j s = (r, if r.over then s
      else s.storeWrites (nm.of j.port) off stride width (storeFit width (storeValue c k))) := by
  subst hc
  simp only [jobResult, h]
  rfl

end

/-! ### A result in its port and in the memory -/

/-- From s to t the job of port p has ended with this result. -/
structure JobTaken (s t : State) (p : Port) (job : Job) (r : JobEnd) : Prop where
  leaves : ∀ d, r.Leaves d → (t.port p).ctx
    = { d with lastKind := job.code, lastWindow := job.place.1, lastOffset := job.place.2 }
  stops  : ∀ d, r.Stops d → (t.port p).ctx
      = { d with errorPending := true, lastKind := job.code, lastWindow := job.place.1, lastOffset := job.place.2 }
    ∧ (t.port p).notices.jobStopped = true ∧ t.mem = s.mem

/-- A job that has stopped, or that a masked ACCESS has ended early, stores nothing (R137, R138). -/
theorem jobResult_over {j : JobPass} {s : State} (h : (jobResult j s).1.over = true) : (jobResult j s).2 = s := by
  by_cases hstore : ∀ nm off stride width k pop, j.job ≠ .store nm off stride width k pop
  · exact jobResult_of_no_store hstore
  · push Not at hstore
    obtain ⟨nm, off, stride, width, k, pop, hj⟩ := hstore
    rw [jobResult_store rfl hj] at h ⊢
    exact if_pos h

/-- The end of a job takes its result to its port. -/
theorem jobTaken_jobResult (s : State) (j : JobPass) :
    JobTaken s ((jobResult j.endStep s.unitFreed).2.modPort j.port
      (PortState.ends (jobResult j.endStep s.unitFreed).1 j.job)) j.port j.job (jobResult j.endStep s.unitFreed).1 := by
  have hover : (jobResult j.endStep s.unitFreed).1.over = true → (jobResult j.endStep s.unitFreed).2 = s.unitFreed :=
    jobResult_over
  obtain ⟨m, hm⟩ := jobResult_mem j.endStep s.unitFreed
  generalize jobResult j.endStep s.unitFreed = res at hm hover ⊢
  obtain ⟨r, u⟩ := res
  obtain rfl : u = { s.unitFreed with mem := m } := hm
  have port : (({ s.unitFreed with mem := m } : State).modPort j.port (PortState.ends r j.job)).port j.port
      = (s.port j.port).ends r j.job := State.port_modPort_same _ _ _
  refine ⟨fun d ⟨hstop, hcodes⟩ => ?_, fun d ⟨hstop, hcodes⟩ => ?_⟩
  · subst hcodes
    rw [port]
    exact PortState.ends_ctx _ _ _ hstop
  · subst hcodes
    obtain ⟨ctx, told⟩ := PortState.ends_stopped r j.job (s.port j.port) hstop
    rw [port]
    have kept := hover (show (r.stopped || r.early) = true by rw [hstop, Bool.true_or])
    exact ⟨ctx, told, show m = s.mem from congrArg State.mem kept⟩

@[simp] theorem State.resolve_unitFreed (s : State) (id : WindowId) (off : Nat) :
    s.unitFreed.resolve id off = s.resolve id off := by
  cases id <;> rfl

/-- Settles O19: the result of each job by its own rules, and what the end of the pass makes of a result. -/
theorem jobResultsReachStack : Obligations.JobResultsReachStack := by
  unfold Obligations.JobResultsReachStack
  intro s j h rest hmac hj hlast hjobs hread c ended kept wrote onto atTop flagged out
  refine ⟨_, exec_jobPassEnd hmac hj hlast, ?_⟩
  rw [JobPass.result_of_read (by simpa using hread)]
  intro now stops pushes pushesTwo adds dot
  have hc : (s.unitFreed.port j.endStep.port).ctx = c := by rw [JobPass.endStep_port]; rfl
  have hjob {job : Job} (h : j.job = job) : j.endStep.job = job := j.endStep_job.trans h
  have fits {v : Int} (h : ¬ out v) : fits48 v = true :=
    (fits48_iff v).mpr ⟨not_lt.mp fun e => h (.inl e), not_le.mp fun e => h (.inr e)⟩
  have wraps {v : Int} (h : out v) : (!fits48 v) = true := (not_fits48_iff v).mpr h
  have goes {r : JobEnd} {d : Context} (hr : (jobResult j.endStep s.unitFreed).1 = r) (h : r.Leaves d) : now = ended d := by
    subst hr
    exact (jobTaken_jobResult s j).leaves d h
  have halts {r : JobEnd} {d : Context} (hr : (jobResult j.endStep s.unitFreed).1 = r) (h : r.Stops d) : stops d := by
    subst hr
    exact (jobTaken_jobResult s j).stops d h
  have pushed {v : Acc} (hr : (jobResult j.endStep s.unitFreed).1 = (JobEnd.start c).push v .valid) : pushes v :=
    ⟨fun hd => goes hr (push_leaves hd), fun hd hm => goes hr (push_overflows hd hm), fun hd hm => halts hr (push_stops hd hm)⟩
  have pushedTwo {v u : Acc} (hr : (jobResult j.endStep s.unitFreed).1 = (JobEnd.start c).push2 v u) : pushesTwo v u :=
    ⟨fun hd => goes hr (push2_leaves hd), fun hd hm hrun => goes hr (push2_overflows hd hm hrun),
      fun hd hm => halts hr (push2_stops hd hm)⟩
  have added {v : Acc} {n : Nat} (hr : (jobResult j.endStep s.unitFreed).1 = sumEnd c v n true) (hn : 0 < n)
      (htag : 0 < c.depth → c.tags.get c.top ≠ .empty) : adds v := by
    have hsum (hd : 0 < c.depth) : c.topValue.toInt + v.toInt = (c.stack.get c.top).toInt + v.toInt := by
      rw [Context.topValue_of_depth (Nat.ne_of_gt hd)]
    exact ⟨fun hd hf => goes hr (sumEnd_adds hn (hsum hd) hd (fits hf) (htag hd)),
      fun hd hf hm => goes hr (sumEnd_wraps hn (hsum hd) hd (wraps hf) hm),
      fun hd hf hm => halts hr (sumEnd_wrap_stops hn (hsum hd) hd (wraps hf) hm),
      fun hd hm => goes hr (sumEnd_underflows hn hd hm), fun hd hm => halts hr (sumEnd_underflow_stops hn hd hm)⟩
  have summed {a b : Span} {n : Nat} {acc : Bool} {x y : Sample} (h : j.job = .dot a b n acc ∨ j.job = .energy a n acc)
      (hxy : j.read = .words x y) : (jobResult j.endStep s.unitFreed).1 = sumEnd c (dot x y) n acc := by
    have result := jobResult_sum hc (h.imp hjob hjob)
    rw [JobPass.endStep_sum hxy (h.imp (fun h => ⟨_, _, _, _, h⟩) fun h => ⟨_, _, _, h⟩)] at result ⊢
    exact result
  refine ⟨fun v h => pushed (jobResult_push hc (hjob h)), fun a b n x y h hxy => pushed (summed (.inl h) hxy),
    fun a n x y h hxy => pushed (summed (b := a) (.inr h) hxy),
    fun a b n x y h hn hxy => added (summed (.inl h) hxy) hn, fun a n x y h hn hxy => added (summed (b := a) (.inr h) hxy) hn,
    fun a n x y h hxy => ?peak, fun a b n l x y h hxy hn => ?sweep, fun h => ?drop, fun h => ?scale,
    fun nm off stride width k pop h => ?store⟩
  case peak =>
    have result := jobResult_peak hc (hjob h)
    have step := JobPass.endStep_peak hxy h
    refine ⟨fun hle => pushedTwo (result.trans ?_), fun hlt => pushedTwo (result.trans ?_)⟩
    · rw [step, if_neg (Nat.not_lt.mpr hle)]
    · rw [step, if_pos hlt]
  case sweep =>
    let last : JobPass := { j with acc := dot x y, index := j.index + 1 }
    have step : j.endStep = last.endLag := (JobPass.endStep_sweep hxy h).trans (if_pos (Nat.le_of_eq hn.symm))
    have result {t : JobPass} (ht : j.endStep = t) :
        (jobResult j.endStep s.unitFreed).1 = (JobEnd.start c).push2 t.best (BitVec.ofNat 48 t.bestLag) :=
      ht ▸ jobResult_sweep hc (hjob h)
    have worse (hlag : 0 < j.lag) (hb : (dot x y).toInt ≤ j.best.toInt) :=
      result (step.trans (JobPass.endLag_not_better (j := last) hlag hb))
    refine ⟨fun hlag => pushedTwo ?_, fun hlag hb => pushedTwo (worse hlag hb),
      fun hlag hb => pushedTwo (result (step.trans (JobPass.endLag_better (j := last) (.inr hb))))⟩
    have first := result (step.trans (JobPass.endLag_better (j := last) (.inl hlag)))
    exact first.trans (congrArg (fun i => (JobEnd.start c).push2 (dot x y) (BitVec.ofNat 48 i)) hlag)
  case drop =>
    have result := jobResult_drop hc (hjob h)
    exact ⟨fun hd => goes result (dropEnd_leaves hd), fun hd hm => goes result (dropEnd_underflows hd hm),
      fun hd hm => halts result (dropEnd_stops hd hm)⟩
  case scale =>
    intro k v right left
    have result := jobResult_scale hc (hjob h)
    refine ⟨fun hd => ⟨fun hk => ⟨fun hm => ?_, fun hm => ?_⟩, fun hk hk0 => ?_,
      fun hk0 hk => ⟨fun hf => ?_, fun hf hm => ?_, fun hf hm => ?_⟩⟩, fun hd hm => halts result (scale_underflow_stops hd hm),
      fun hd hm => goes result (scale_of_one hd hm), fun hd hm => goes result (scale_of_empty hd hm)⟩
    · exact goes (result.trans (scale_range hd rfl hk hm)) ⟨rfl, rfl⟩
    · exact halts (result.trans (scale_range_stops hd rfl hk hm)) ⟨rfl, rfl⟩
    · exact goes (result.trans (scale_right hd rfl rfl hk hk0)) ⟨rfl, rfl⟩
    · exact goes (result.trans (scale_left hd rfl rfl hk0 hk (fits hf))) ⟨rfl, rfl⟩
    · exact goes (result.trans (scale_wraps hd rfl rfl hk0 hk (wraps hf) hm)) ⟨rfl, rfl⟩
    · exact halts (result.trans (scale_wrap_stops hd rfl rfl hk0 hk (wraps hf) hm)) ⟨rfl, rfl⟩
  case store =>
    intro bits places v sat fit missing
    have hc' : (s.unitFreed.port j.port).ctx = c := rfl
    have hbits : bits = width.bits := by cases width <;> rfl
    have hplaces : places = storeOffsets off stride width := by cases width <;> rfl
    have hv : v = storeValue c k := by
      show shiftRight c.rounding _ k = shiftRight c.rounding _ k
      rw [Context.topValue, apply_ite BitVec.toInt]
      rfl
    have hsat : sat ↔ outOfWidth width (storeValue c k) := by
      show v < -(2 ^ (bits - 1)) ∨ 2 ^ (bits - 1) ≤ v ↔ _
      rw [hbits, hv, outOfWidth]
    have hfit : fit = BitVec.ofInt 32 (storeFit width (storeValue c k)) := by
      show BitVec.ofInt 32 (max (-(2 ^ (bits - 1))) (min (2 ^ (bits - 1) - 1) v)) = _
      rw [hbits, hv, storeFit]
    have hmissing : missing ↔ s.unitFreed.storeMisses (nm.of j.port) off stride width := by
      show (∃ o ∈ places, ∀ a, s.resolve (nm.of j.port) o ≠ .address a) ↔ _
      simp only [State.storeMisses, State.resolve_unitFreed, hplaces]
    have both := jobResult_store hc (hjob h)
    rw [JobPass.endStep_port] at both
    have result := congrArg Prod.fst both
    refine ⟨fun hd hm => halts result (store_underflow_stops hc' hd hm),
      fun hs hm => halts result (store_sat_stops hc' (hsat.mp hs) hm), fun hstack hsatm d hempty hout hfits => ?_⟩
    obtain ⟨masks, tags⟩ := storeFitted_sound hempty (fun hs => hout (hsat.mpr hs)) fun hd hs =>
      hfits hd fun e => hs (hsat.mp e)
    have access : d.masked .access = c.masks.getLsbD 4 := congrArg (fun m : BitVec 5 => m.getLsbD 4) masks
    have depth : d.depth = c.depth := congrArg tagDepth tags
    obtain ⟨u, fitted⟩ := storeFitted_goes hstack (fun hd => not_outOfWidth_of_empty hd) (fun hs => hsatm (hsat.mpr hs))
      hempty (fun hs => hout (hsat.mpr hs)) fun hd hs => hfits hd fun e => hs (hsat.mp e)
    refine ⟨fun hmiss => ⟨fun hm => ⟨goes result (store_access hc' fitted (hmissing.mp hmiss) (access.trans hm)), ?unwritten⟩,
      fun hm => halts result (store_access_stops hc' fitted (hmissing.mp hmiss) (access.trans hm))⟩, fun hfind => ?found⟩
    case unwritten =>
      have halted := storeResult_misses_over hc' fitted (hmissing.mp hmiss) (pop := pop)
      show (jobResult j.endStep s.unitFreed).2.mem = s.unitFreed.mem
      exact congrArg State.mem (jobResult_over ((congrArg JobEnd.over result).trans halted))
    case found =>
      have finds := fun e => hfind (hmissing.mpr e)
      have goesOn := storeResult_finds_over hc' fitted finds (pop := pop)
      have written := (congrArg Prod.snd both).trans (if_neg (Bool.eq_false_iff.mp goesOn))
      refine ⟨fun hpop hd => goes result (store_pops hc' fitted finds hpop (depth ▸ hd)),
        fun hkeep => goes result (store_keeps hc' fitted finds (hkeep.imp_right depth.trans)), fun hmem a1 h1 => ⟨?_, ?_⟩⟩
      · rintro rfl b
        show memRead (jobResult j.endStep s.unitFreed).2.mem b = _
        rw [written, hfit]
        exact memRead_store_w16 (s := s.unitFreed) hmem ((s.resolve_unitFreed _ _).trans h1) b
      · rintro rfl a2 h2 b
        show memRead (jobResult j.endStep s.unitFreed).2.mem b = _
        rw [written, hfit]
        exact memRead_store_w32 (s := s.unitFreed) hmem ((s.resolve_unitFreed _ _).trans h1)
          ((s.resolve_unitFreed _ _).trans h2) b

end Sys2Proof.Machine

/-! SUPPORT. How a span is read, and the queuing of the eight job commands (O38). -/

namespace Sys2Proof.Machine

/-! ### Spans (R130, R132, R189) -/

@[simp] theorem windowName?_word (nm : WindowName) : windowName? nm.word = some nm := by
  cases nm with
  | priv k => revert k; decide
  | shared k => revert k; decide

/-- A RING reference names no window. -/
theorem windowName?_ring (c : Channel) : windowName? (natWord (3 * 8192 + c.val)) = none := by
  revert c
  decide

theorem ringChannel?_ring (c : Channel) : ringChannel? (natWord (3 * 8192 + c.val)) = some c := by
  revert c
  decide

section
variable {ref off stride lo hi : Word}

theorem span?_of_window {nm : WindowName} (h : windowName? ref = some nm) : span? ref off stride lo hi =
    if off.toNat ≤ 32767 ∧ 1 ≤ stride.toNat ∧ stride.toNat ≤ 16 then some (.window nm off.toNat stride.toNat)
    else none := by
  rw [span?, h]
  by_cases ho : off.toNat ≤ 32767
  · rw [if_neg (Nat.not_lt.mpr ho)]
    simp only [ho, true_and]
  · rw [if_pos (Nat.not_le.mp ho), if_neg fun h => ho h.1]

theorem span?_of_no_window (h : windowName? ref = none) : span? ref off stride lo hi =
    if off.toNat ≤ 32767 then (ringChannel? ref).map fun c => .ring c (hi ++ lo) off.toNat else none := by
  rw [span?, h]
  by_cases ho : off.toNat ≤ 32767
  · rw [if_neg (Nat.not_lt.mpr ho), if_pos ho]
    rfl
  · rw [if_pos (Nat.not_le.mp ho), if_neg ho]

/-- A reference of another kind is no span. -/
theorem span?_of_kind (h : (ref >>> 13).toNat ∉ [1, 2, 3]) : span? ref off stride lo hi = none := by
  simp only [List.mem_cons, List.not_mem_nil, or_false, not_or] at h
  obtain ⟨h1, h2, h3⟩ := h
  have window : windowName? ref = none := by rw [windowName?, refKind, if_neg h1, if_neg h2]
  rw [span?_of_no_window window, ringChannel?, refKind, if_neg h3, Option.map_none, ite_self]

/-- The unused bits of a reference word change neither of its fields. -/
theorem refKind_unused (ref : Word) : refKind (ref ||| 0x1F00) = refKind ref := by
  rw [refKind, BitVec.ushiftRight_or_distrib, show (0x1F00 : Word) >>> 13 = 0#16 from by decide, BitVec.or_zero, refKind]

theorem refNumber_unused (ref : Word) : refNumber (ref ||| 0x1F00) = refNumber ref := by
  have h : (ref ||| 0x1F00) &&& 0xFF = ref &&& 0xFF := by
    ext i hi
    have low : i < 16 := hi
    interval_cases i <;> simp
  rw [refNumber, h, refNumber]

theorem span?_unused : span? (ref ||| 0x1F00) off stride lo hi = span? ref off stride lo hi := by
  simp only [span?, windowName?, ringChannel?, refKind_unused, refNumber_unused]

end

/-! ### The checks of R130 in their order -/

section
variable {s : State} {p : Port} {job : Job}

theorem queueJob_of_count (h : Config.countLimit < job.count) : queueJob p (some job) s = (s, .tooLong, []) := if_pos h

theorem windows_any_isNone : (job.windows.any fun nm => (s.windowOf (nm.of p)).isNone) = true
    ↔ ¬ ∀ nm ∈ job.windows, (s.windowOf (nm.of p)).isSome = true := by
  simp only [List.any_eq_true, not_forall, Option.isNone_iff_eq_none, Option.isSome_iff_ne_none, ne_eq, not_not, exists_prop]

variable (hn : job.count ≤ Config.countLimit)
include hn

theorem queueJob_of_closed (h : ¬ ∀ nm ∈ job.windows, (s.windowOf (nm.of p)).isSome = true) :
    queueJob p (some job) s = (s, .noSuch, []) :=
  (if_neg (Nat.not_lt.mpr hn)).trans (if_pos (windows_any_isNone.mpr h))

variable (hopen : ∀ nm ∈ job.windows, (s.windowOf (nm.of p)).isSome = true)
include hopen

theorem queueJob_of_open : queueJob p (some job) s =
    if Config.jobLimit ≤ (s.port p).jobs.length then (s, .full, []) else appendJob p (.job job) s :=
  (if_neg (Nat.not_lt.mpr hn)).trans (if_neg fun e => windows_any_isNone.mp e hopen)

end

/-- The answer of a job command whose operands give this job. -/
theorem queuesJob_of {s : State} {f : Frame} {pl : List Word} {code : Byte} {rule : List Word → PayloadVerdict} {job : Job}
    (h : s.Takes f pl) (hr : payloadRule code = some rule) (hf : rule pl = .fits) {job? : List Word → Option Job}
    (hj : job? pl = some job) :
    s.QueuesJob f code job (finish (command code (fun p pl => queueJob p (job? pl)) f s)) := by
  have jobs : ((receive f s).port f.port).jobs = (s.port f.port).jobs := by rw [receive_port]
  have answer {t : State} {a : Answer} (e : queueJob f.port (some job) (receive f s) = (t, a)) :
      finish (command code (fun p pl => queueJob p (job? pl)) f s) = .next (t.reply f.port code f.tag a) :=
    finish_command h hr hf (by rw [hj]; exact e)
  have opened (h : ∀ nm ∈ job.windows, (s.windowOf (nm.of f.port)).isSome = true) :
      ∀ nm ∈ job.windows, ((receive f s).windowOf (nm.of f.port)).isSome = true := by
    simpa only [receive_windowOf] using h
  refine ⟨fun hn ho hlt => answer ?_, fun hn => answer (queueJob_of_count hn),
    fun hn ho => answer (queueJob_of_closed hn ?_), fun hn ho hle => answer ?_⟩
  · rw [queueJob_of_open hn (opened ho), jobs, if_neg (Nat.not_le.mpr hlt), appendJob, jobs]
  · simpa only [receive_windowOf] using ho
  · rw [queueJob_of_open hn (opened ho), jobs, if_pos hle]

/-- A job command whose operands give no job is refused BAD_VALUE. -/
theorem refused_of_no_job {s : State} {f : Frame} {pl : List Word} {code : Byte} {rule : List Word → PayloadVerdict}
    (h : s.Takes f pl) (hr : payloadRule code = some rule) (hf : rule pl = .fits) {job? : List Word → Option Job}
    (hj : job? pl = none) : finish (command code (fun p pl => queueJob p (job? pl)) f s)
      = .next ((receive f s).reply f.port code f.tag (.badValue, [])) :=
  finish_command h hr hf (by rw [hj]; rfl)

/-! ### The operands of each job (R140 to R146, R189) -/

theorem lengthIs_fits {n : Nat} {pl : List Word} (h : pl.length = n) : lengthIs n pl = .fits := if_pos h

section
variable {pl : List Word} {a b : Span} {acc : Bool}

theorem fin?_of_lt {n : Nat} {w : Word} (h : w.toNat < n) : fin? n w = some ⟨w.toNat, h⟩ := dif_pos h

theorem dotJob?_of (ha : spanAt? pl 0 = some a) (hb : spanAt? pl 5 = some b) (hacc : arg pl 11 = boolWord acc) :
    dotJob? pl = some (.dot a b (arg pl 10).toNat acc) := by
  rw [dotJob?, ha, hb, hacc, flag?_boolWord]
  rfl

theorem dotJob?_none (h : spanAt? pl 0 = none ∨ spanAt? pl 5 = none ∨ 1 < (arg pl 11).toNat) : dotJob? pl = none := by
  rw [dotJob?]
  rcases h with h | h | h
  · rw [h]; rfl
  · rw [h]; cases spanAt? pl 0 <;> rfl
  · rw [flag?_none h]; cases spanAt? pl 0 <;> cases spanAt? pl 5 <;> rfl

theorem energyJob?_of (ha : spanAt? pl 0 = some a) (hacc : arg pl 6 = boolWord acc) :
    energyJob? pl = some (.energy a (arg pl 5).toNat acc) := by
  rw [energyJob?, ha, hacc, flag?_boolWord]
  rfl

theorem energyJob?_none (h : spanAt? pl 0 = none ∨ 1 < (arg pl 6).toNat) : energyJob? pl = none := by
  rw [energyJob?]
  rcases h with h | h
  · rw [h]; rfl
  · rw [flag?_none h]; cases spanAt? pl 0 <;> rfl

theorem peakJob?_of (ha : spanAt? pl 0 = some a) : peakJob? pl = some (.peak a (arg pl 5).toNat) := by
  rw [peakJob?, ha]
  rfl

theorem peakJob?_none (h : spanAt? pl 0 = none) : peakJob? pl = none := by
  rw [peakJob?, h]
  rfl

theorem sweepJob?_of (ha : spanAt? pl 0 = some a) (hb : spanAt? pl 5 = some b) (hl : (arg pl 11).toNat ≤ 255) :
    sweepJob? pl = some (.sweep a b (arg pl 10).toNat (arg pl 11).toNat) := by
  rw [sweepJob?, ha, hb, fin?_of_lt (Nat.lt_succ_of_le hl)]
  rfl

theorem sweepJob?_none (h : spanAt? pl 0 = none ∨ spanAt? pl 5 = none ∨ 255 < (arg pl 11).toNat) :
    sweepJob? pl = none := by
  rw [sweepJob?]
  rcases h with h | h | h
  · rw [h]; rfl
  · rw [h]; cases spanAt? pl 0 <;> rfl
  · rw [fin?_none h]; cases spanAt? pl 0 <;> cases spanAt? pl 5 <;> rfl

theorem storeJob?_of {nm : WindowName} {off stride : Nat} {width : StoreWidth} {pop : Bool}
    (ha : spanAt? pl 0 = some (.window nm off stride)) (hw : storeWidth? (arg pl 5) = some width)
    (hk : (arg pl 6).toNat ≤ 47) (hpop : arg pl 7 = boolWord pop) :
    storeJob? pl = some (.store nm off stride width (arg pl 6).toNat pop) := by
  rw [storeJob?, ha, hw, fin?_of_lt (Nat.lt_succ_of_le hk), hpop, flag?_boolWord]
  rfl

/-- A STORE has its four operands in range and a WINDOW span, or it is no job. -/
theorem storeJob?_none (h : spanAt? pl 0 = none ∨ (∃ c blk o, spanAt? pl 0 = some (.ring c blk o))
    ∨ (arg pl 5 ≠ 16 ∧ arg pl 5 ≠ 32) ∨ 47 < (arg pl 6).toNat ∨ 1 < (arg pl 7).toNat) : storeJob? pl = none := by
  rw [storeJob?]
  rcases h with h | ⟨c, blk, o, h⟩ | ⟨h16, h32⟩ | h | h
  · rw [h]; rfl
  · rw [h]
    cases storeWidth? (arg pl 5) <;> cases fin? 48 (arg pl 6) <;> cases flag? (arg pl 7) <;> rfl
  · rw [storeWidth?, if_neg h16, if_neg h32]
    cases spanAt? pl 0 <;> rfl
  · rw [fin?_none h]
    cases spanAt? pl 0 <;> cases storeWidth? (arg pl 5) <;> rfl
  · rw [flag?_none h]
    cases spanAt? pl 0 <;> cases storeWidth? (arg pl 5) <;> cases fin? 48 (arg pl 6) <;> rfl

end

/-- Settles O38, by the reading of a span, the operands of each job and the checks of R130 in their order. -/
theorem jobCommandsQueue : Obligations.JobCommandsQueue := by
  unfold Obligations.JobCommandsQueue
  refine ⟨fun nm off stride lo hi => span?_of_window (windowName?_word nm), fun c off stride lo hi => ?ring,
    fun ref off stride lo hi h => span?_of_kind h, fun ref off stride lo hi x h => span?_unused.trans h,
    fun s f pl a b acc h ha => ?queued, fun s f pl h => ?refused, fun s f lo hi h => ?push, fun s f h => ?plain,
    fun s f pl h hl => ?store⟩
  case ring => rw [span?_of_no_window (windowName?_ring c), ringChannel?_ring c, Option.map_some]
  case queued =>
    exact ⟨fun hl hb hacc => queuesJob_of h rfl (lengthIs_fits hl) (dotJob?_of ha hb hacc),
      fun hl hacc => queuesJob_of h rfl (lengthIs_fits hl) (energyJob?_of ha hacc),
      fun hl => queuesJob_of h rfl (lengthIs_fits hl) (peakJob?_of ha),
      fun hl hb hlags => queuesJob_of h rfl (lengthIs_fits hl) (sweepJob?_of ha hb hlags)⟩
  case refused =>
    exact ⟨fun hl hn => refused_of_no_job h rfl (lengthIs_fits hl) (dotJob?_none hn),
      fun hl hn => refused_of_no_job h rfl (lengthIs_fits hl) (energyJob?_none hn),
      fun hl hn => refused_of_no_job h rfl (lengthIs_fits hl) (peakJob?_none hn),
      fun hl hn => refused_of_no_job h rfl (lengthIs_fits hl) (sweepJob?_none hn)⟩
  case push => exact queuesJob_of (job? := fun pl => some (.push (word32 (arg pl 0) (arg pl 1)))) h rfl rfl rfl
  case plain =>
    exact ⟨queuesJob_of (job? := fun _ => some .drop) h rfl rfl rfl,
      queuesJob_of (job? := fun _ => some .scale) h rfl rfl rfl⟩
  case store =>
    have queued {nm : WindowName} {off stride : Nat} {width : StoreWidth} {pop : Bool}
        (ha : spanAt? pl 0 = some (.window nm off stride)) (hk : (arg pl 6).toNat ≤ 47) (hpop : arg pl 7 = boolWord pop)
        (hw : storeWidth? (arg pl 5) = some width) :
        s.QueuesJob f 0x47 (.store nm off stride width (arg pl 6).toNat pop) (exec (.store f) s) :=
      queuesJob_of h rfl (lengthIs_fits hl) (storeJob?_of ha hw hk hpop)
    exact ⟨fun nm off stride pop ha hk hpop =>
        ⟨fun hw => queued ha hk hpop (by rw [hw]; rfl), fun hw => queued ha hk hpop (by rw [hw]; rfl)⟩,
      fun hn => refused_of_no_job h rfl (lengthIs_fits hl) (storeJob?_none hn)⟩

end Sys2Proof.Machine

/-! SUPPORT. The immediate context commands CLEAR EXCEPTIONS, SET CONTROL and READ CONTEXT STATUS (O43, O44). -/

namespace Sys2Proof.Machine

/-! ### The port's context and queue when a frame arrives -/

@[simp] theorem receive_port_ctx (f : Frame) (s : State) (p : Port) : ((receive f s).port p).ctx = (s.port p).ctx := by
  by_cases h : p = f.port
  · rw [h, receive_port]
  · rw [receive_port_ne f s h]

@[simp] theorem receive_port_jobs (f : Frame) (s : State) (p : Port) : ((receive f s).port p).jobs = (s.port p).jobs := by
  by_cases h : p = f.port
  · rw [h, receive_port]
  · rw [receive_port_ne f s h]

/-- Settles O43: the row is its command, which is taken and does what R159 says. -/
theorem clearExceptionsEndsHold : Obligations.ClearExceptionsEndsHold := by
  unfold Obligations.ClearExceptionsEndsHold
  exact fun s f h => finish_command h rfl rfl rfl

/-! ### The control word (R187) -/

/-- A field of a word, by its lowest bit and its width. -/
def wordField (w : Word) (low width : Nat) : Nat := w.toNat / 2 ^ low % 2 ^ width

theorem toNat_two_bits (w : Word) (low : Nat) : ((w >>> low) &&& 3).toNat = wordField w low 2 := by
  rw [BitVec.toNat_and, BitVec.toNat_ushiftRight, Nat.shiftRight_eq_div_pow]
  exact Nat.and_two_pow_sub_one_eq_mod _ 2

theorem Rounding.ofCode_eq_some {n : Nat} {r : Rounding} : Rounding.ofCode n = some r ↔ r.code = n := by
  constructor
  · intro h
    unfold Rounding.ofCode at h
    split at h <;> cases h <;> rfl
  · rintro rfl
    cases r <;> rfl

theorem Context.withControl_of_code {c : Context} {w : Word} {m : Rounding} (h : m.code = ((w >>> 5) &&& 3).toNat) :
    c.withControl w = some { c with masks := w.setWidth 5, rounding := m } := by
  rw [Context.withControl, Rounding.ofCode_eq_some.mpr h]
  rfl

/-- A rounding code of 3 is invalid. -/
theorem Context.withControl_of_three {c : Context} {w : Word} (h : ((w >>> 5) &&& 3).toNat = 3) : c.withControl w = none := by
  rw [Context.withControl, h]
  rfl

/-- The control word of a context that took its control from a word is that word without its unused bits. -/
theorem Context.controlWord_of_word {c : Context} {w : Word} {m : Rounding} (h : m.code = ((w >>> 5) &&& 3).toNat) :
    ({ c with masks := w.setWidth 5, rounding := m } : Context).controlWord = w &&& 0x7F := by
  have low : (w &&& 0x7F).toNat = w.toNat % 128 := by
    rw [BitVec.toNat_and]
    exact Nat.and_two_pow_sub_one_eq_mod _ 7
  rw [toNat_two_bits, wordField] at h
  apply BitVec.eq_of_toNat_eq
  rw [low, Context.controlWord, BitVec.toNat_ofNat, BitVec.toNat_setWidth]
  show (w.toNat % 2 ^ 5 + 32 * m.code) % 2 ^ 16 = w.toNat % 128
  omega

/-! ### SET CONTROL and READ CONTEXT STATUS (R160, R161) -/

/-- The control word with each bit from the value where the mask selects it. -/
def Context.selectedWord (c : Context) (value mask : Word) : Word := (c.controlWord &&& ~~~mask) ||| (value &&& mask)

section
variable {s : State} {p : Port} {value mask : Word} {c : Context} (hc : (s.port p).ctx = c)
include hc

theorem setControl_of_three (h : ((c.selectedWord value mask >>> 5) &&& 3).toNat = 3) :
    setControl p [value, mask] s = (s, .badValue, []) := by
  have invalid : c.withControl ((c.controlWord &&& ~~~mask) ||| (value &&& mask)) = none := Context.withControl_of_three h
  subst hc
  simp only [setControl, arg, List.getD_cons_zero, List.getD_cons_succ, invalid]
  rfl

theorem setControl_of_code {m : Rounding} (h : m.code = ((c.selectedWord value mask >>> 5) &&& 3).toNat) :
    setControl p [value, mask] s = (s.modPort p fun q => { q with
        ctx := { q.ctx with masks := (c.selectedWord value mask).setWidth 5, rounding := m } },
      .ok, [c.selectedWord value mask &&& 0x7F]) := by
  have valid : c.withControl ((c.controlWord &&& ~~~mask) ||| (value &&& mask)) = some _ := Context.withControl_of_code h
  subst hc
  rw [← Context.controlWord_of_word (c := (s.port p).ctx) h]
  simp only [setControl, arg, List.getD_cons_zero, List.getD_cons_succ, valid]
  exact congrArg (·, _) (State.modPort_congr rfl)

end

theorem PortState.headWord_of_empty {q : PortState} (h : q.jobs = []) : q.headWord = 0xFFFF := by
  rw [PortState.headWord, h]

theorem PortState.headWord_of_head {q : PortState} {e : QueueEntry} {rest : List QueueEntry} (h : q.jobs = e :: rest) :
    q.headWord = match e.condition with | .waiting => 0 | .inPass => 1 | .inContext => 2 := by
  cases he : e.condition <;> simp [PortState.headWord, h, he]

/-- Settles O44, by the two cases of the rounding code and the words of the context and its queue. -/
theorem controlSetAndRead : Obligations.ControlSetAndRead := by
  unfold Obligations.ControlSetAndRead
  refine ⟨fun s f value mask h => ?set, fun s f h => ⟨(s.port f.port).headWord, PortState.headWord_of_empty,
    fun e rest hjobs => PortState.headWord_of_head hjobs, ?read⟩⟩
  case set =>
    have ctx := receive_port_ctx f s f.port
    exact ⟨fun hmode => finish_command h rfl rfl (setControl_of_three ctx hmode),
      fun m hm => finish_command h rfl rfl (setControl_of_code ctx hm)⟩
  case read =>
    refine finish_command h rfl rfl ?_
    simp only [readContextStatus, PortState.headWord, receive_port_ctx, receive_port_jobs]

end Sys2Proof.Machine

/-! SUPPORT. The four queued context commands (O39). -/

namespace Sys2Proof.Machine

/-! ### The place of an image (R152) -/

theorem place?_word {nm : WindowName} {off : Word} (h : off.toNat ≤ 32767) : place? nm.word off = some ⟨nm, off.toNat⟩ := by
  rw [place?, windowName?_word]
  exact if_pos h

section
variable {s : State} {p : Port} {nm : WindowName} {off : Word} {n : Nat} (h : off.toNat ≤ 32767)
include h

theorem checkPlace_of_closed (hw : s.windowOf (nm.of p) = none) : checkPlace p [nm.word, off] n s = .inr .noSuch := by
  simp only [checkPlace, arg, List.getD_cons_zero, List.getD_cons_succ, place?_word h, hw]

theorem checkPlace_of_open {w : Window} (hw : s.windowOf (nm.of p) = some w) : checkPlace p [nm.word, off] n s
    = if w.length < off.toNat + n then .inr .access else .inl ⟨nm, off.toNat⟩ := by
  simp only [checkPlace, arg, List.getD_cons_zero, List.getD_cons_succ, place?_word h, hw, gt_iff_lt]

end

/-! ### The checks of R152 in their order -/

/-- What a queued context command does once its place is found (R152, R130). -/
theorem queueContext_of_place {s : State} {p : Port} {pl : List Word} {op : ContextOp} {plc : Place}
    (h : checkPlace p pl op.words s = .inl plc) : queueContext op p pl s =
      if op = .save ∧ (s.port p).ctx.errorPending = true ∧ (s.port p).jobs = [] then (s, .pending, [])
      else if Config.jobLimit ≤ (s.port p).jobs.length then (s, .full, []) else appendJob p (.context op plc) s := by
  simp only [queueContext, h, List.isEmpty_iff]
  rfl

theorem queueContext_of_refused {s : State} {p : Port} {pl : List Word} {op : ContextOp} {st : Status}
    (h : checkPlace p pl op.words s = .inr st) : queueContext op p pl s = (s, st, []) := by
  rw [queueContext, h]
  rfl

/-- The answer of a queued context command. -/
theorem queuesContext_of {s : State} {f : Frame} {nm : WindowName} {off : Word} {code : Byte} {op : ContextOp}
    (h : s.Takes f [nm.word, off]) (hoff : off.toNat ≤ 32767) (hr : payloadRule code = some (lengthIs 2)) :
    s.QueuesContext f code op ⟨nm, off.toNat⟩ (finish (command code (queueContext op) f s)) := by
  have answer {t : State} {a : Answer} (e : queueContext op f.port [nm.word, off] (receive f s) = (t, a)) :
      finish (command code (queueContext op) f s) = .next (t.reply f.port code f.tag a) := finish_command h hr rfl e
  refine ⟨fun hw => answer (queueContext_of_refused (checkPlace_of_closed hoff ?_)),
    fun w hw => ⟨fun hlen => answer (queueContext_of_refused ?_), fun hlen => ?_⟩⟩
  · rwa [receive_windowOf]
  · rw [checkPlace_of_open hoff ((receive_windowOf f s _).trans hw), if_pos hlen]
  · have place : checkPlace f.port [nm.word, off] op.words (receive f s) = .inl ⟨nm, off.toNat⟩ := by
      rw [checkPlace_of_open hoff ((receive_windowOf f s _).trans hw), if_neg (Nat.not_lt.mpr hlen)]
    have queued := queueContext_of_place place
    simp only [receive_port_ctx, receive_port_jobs] at queued
    refine ⟨fun hheld => answer (queued.trans (if_pos hheld)),
      fun hfree hfull => answer (queued.trans ((if_neg hfree).trans (if_pos hfull))), fun hfree hroom => answer ?_⟩
    rw [queued, if_neg hfree, if_neg (Nat.not_le.mpr hroom), appendJob, receive_port_jobs]

/-- Settles O39: each row queues its operation by the checks of R152. -/
theorem contextCommandsQueue : Obligations.ContextCommandsQueue := by
  unfold Obligations.ContextCommandsQueue
  exact fun s f nm off h hoff =>
    ⟨queuesContext_of h hoff rfl, queuesContext_of h hoff rfl, queuesContext_of h hoff rfl, queuesContext_of h hoff rfl⟩

end Sys2Proof.Machine

/-! SUPPORT. The context logic: how an operation begins, transfers its words and ends (O40). -/

namespace Sys2Proof.Machine

/-! ### The beginning of an operation (R153 to R155) -/

theorem PortState.contextHead_of {ps : PortState} {op : ContextOp} {plc : Place} {rest : List QueueEntry}
    (he : ps.ctx.errorPending = false) (hr : ps.ctxRun = none) (hj : ps.jobs = ⟨.context op plc, .waiting⟩ :: rest) :
    ps.contextHead = some (op, plc) := by
  simp [PortState.contextHead, he, hr, hj]

/-- CONTEXT_OP_START with an operation at the head. -/
theorem exec_contextOpStart {s : State} {p : Port} {op : ContextOp} {plc : Place}
    (h : (s.port p).contextHead = some (op, plc)) : exec (.contextOpStart p) s = .next (s.modPort p fun q => { q with
      jobs := setHead .inContext q.jobs, ctxRun := some ⟨op, plc, op.copy q.ctx, 0⟩ }) := by
  show execContextOpStart p s = _
  rw [execContextOpStart, h]
  rfl

/-! ### The transfer of a word (R153) -/

/-- CONTEXT_WORD_TRANSFER while the context logic is BUSY. -/
theorem exec_contextWordTransfer {s : State} {p : Port} {r : ContextRun} (h : (s.port p).ctxRun = some r) :
    exec (.contextWordTransfer p) s = .next (
      if r.op.words ≤ (r.transfer p s).1.done then contextEnded p (r.transfer p s).1 (r.transfer p s).2
      else (r.transfer p s).2.modPort p fun ps => { ps with ctxRun := some (r.transfer p s).1 }) := by
  show execContextWordTransfer p s = _
  rw [execContextWordTransfer, h]
  rfl

@[simp] theorem State.port_writeWord (s : State) (id : WindowId) (off : Nat) (v : Word) (p : Port) :
    (s.writeWord id off v).port p = s.port p := by
  rw [State.writeWord_eq]
  rfl

section
variable {s : State} {p : Port} {r : ContextRun} {a : Nat}
  (ha : s.resolve (r.place.name.of p) (r.place.offset + r.done) = .address a)

/-- A save writes the next word of its copy. -/
theorem ContextRun.transfer_save (h : r.op = .save ∨ r.op = .saveEnv) : r.transfer p s = ({ r with done := r.done + 1 },
    s.writeWord (r.place.name.of p) (r.place.offset + r.done) (r.image.getD r.done 0)) := by
  rcases h with h | h <;> simp only [ContextRun.transfer, h]

include ha

/-- A restore reads the next word of its image. -/
theorem ContextRun.transfer_restore (h : r.op = .restore ∨ r.op = .restoreEnv) :
    r.transfer p s = ({ r with done := r.done + 1, image := r.image ++ [memRead s.mem a] }, s) := by
  rcases h with h | h <;> simp only [ContextRun.transfer, h, State.readWord, ha, Option.getD_some]

/-- The one word that a save writes. -/
theorem memRead_transfer_save (h : r.op = .save ∨ r.op = .saveEnv) (hmem : s.MemoryCanonical) (b : Nat) :
    memRead (r.transfer p s).2.mem b = if b = a then r.image.getD r.done 0 else memRead s.mem b := by
  rw [ContextRun.transfer_save h, State.mem_writeWord ha, memRead_memWrite _ hmem]

end

/-- A transfer counts one word, and changes no port. -/
theorem ContextRun.transfer_run (r : ContextRun) (p : Port) (s : State) : (r.transfer p s).1.op = r.op
    ∧ (r.transfer p s).1.done = r.done + 1 ∧ ∀ q, (r.transfer p s).2.port q = s.port q := by
  cases h : r.op <;> simp [ContextRun.transfer, h]

/-! ### The end of an operation (R153 to R157) -/

/-- A port at the end of an operation: its end effect, its entry gone, and CONTEXT_DONE. -/
def PortState.operationEnds (r : ContextRun) (ps : PortState) : PortState :=
  ({ ps with ctx := (r.op.endEffect ps.ctx r.image).1, ctxRun := none } : PortState).leaves.noticed
    (.contextDone (r.op.endEffect ps.ctx r.image).2)

theorem contextEnded_eq (p : Port) (r : ContextRun) (s : State) :
    contextEnded p r s = s.modPort p (PortState.operationEnds r) := by
  simp only [contextEnded, leaveQueue_eq, State.notify_eq, State.modPort_modPort]
  exact State.modPort_congr rfl

section
variable (r : ContextRun) (ps : PortState)

/-- What an operation's end leaves in its port. -/
theorem PortState.operationEnds_fields : (ps.operationEnds r).ctxRun = none ∧ (ps.operationEnds r).jobs = ps.jobs.drop 1
    ∧ (ps.operationEnds r).ctx = (r.op.endEffect ps.ctx r.image).1
    ∧ (ps.operationEnds r).notices.contextDone = some (r.op.endEffect ps.ctx r.image).2 := by
  rw [PortState.operationEnds, PortState.leaves_eq]
  exact ⟨rfl, rfl, rfl, rfl⟩

theorem PortState.operationEnds_idle (h : ps.jobs.drop 1 = []) : (ps.operationEnds r).notices.jobsIdle = true :=
  PortState.leaves_idle (ps := { ps with ctx := (r.op.endEffect ps.ctx r.image).1, ctxRun := none }) h

end

/-! ### The end effects (R154 to R156) -/

section
variable {op : ContextOp} {c d : Context} {ws : List Word}

theorem endEffect_save (h : op = .save) : op.endEffect c ws = (.initial, true) := by rw [h]; rfl

theorem endEffect_saveEnv (h : op = .saveEnv) : op.endEffect c ws = ({ c with masks := 0b11111 }, true) := by rw [h]; rfl

theorem endEffect_restore (h : op = .restore) (hd : c.loadFull ws = some d) : op.endEffect c ws = (d, true) := by
  simp only [h, ContextOp.endEffect, hd]

theorem endEffect_restore_invalid (h : op = .restore) (hd : c.loadFull ws = none) : op.endEffect c ws = (c, false) := by
  simp only [h, ContextOp.endEffect, hd]

theorem endEffect_restoreEnv (h : op = .restoreEnv) (hd : c.loadEnvironment ws = some d) :
    op.endEffect c ws = (d, true) := by
  simp only [h, ContextOp.endEffect, hd]

theorem endEffect_restoreEnv_invalid (h : op = .restoreEnv) (hd : c.loadEnvironment ws = none) :
    op.endEffect c ws = (c, false) := by
  simp only [h, ContextOp.endEffect, hd]

end

/-- Settles O40: the beginning, the transfer of a word that is not the last, and the transfer of the last with the end of
the operation. -/
theorem contextLogicTransfers : Obligations.ContextLogicTransfers := by
  unfold Obligations.ContextLogicTransfers
  refine ⟨fun s p op plc rest he hr hj => ?begins, fun s p r a hr hmem ha hlt => ?transfers,
    fun s p r h rest a hr hj hlast ha => ?ends⟩
  case begins =>
    rw [exec_contextOpStart (PortState.contextHead_of he hr hj)]
    refine congrArg Host.Outcome.next (State.modPort_congr ?_)
    rw [hj]
    cases op <;> rfl
  case transfers =>
    obtain ⟨-, done, ports⟩ := r.transfer_run p s
    have goes : ¬ r.op.words ≤ (r.transfer p s).1.done := by omega
    rw [exec_contextWordTransfer hr, if_neg goes]
    refine ⟨fun hop => ⟨_, rfl, memRead_transfer_save ha hop hmem, ?_, ?_⟩, fun hop => ?_⟩
    · rw [State.port_modPort_same, ContextRun.transfer_save hop]
    · rw [State.port_modPort_same, ports]
    · rw [ContextRun.transfer_restore ha hop]
  case ends =>
    obtain ⟨op, done, ports⟩ := r.transfer_run p s
    have last : r.op.words ≤ (r.transfer p s).1.done := by omega
    rw [exec_contextWordTransfer hr, if_pos last, contextEnded_eq]
    refine ⟨_, rfl, ?_⟩
    rw [State.port_modPort_same, ports, State.mem_modPort]
    obtain ⟨run, jobs, ctx, told⟩ := (s.port p).operationEnds_fields (r.transfer p s).1
    rw [hj] at jobs
    have read (hop : r.op = .restore ∨ r.op = .restoreEnv) :
        (r.transfer p s).1.image = r.image ++ [memRead s.mem a] := by rw [ContextRun.transfer_restore ha hop]
    have effect {d : Context} {ok : Bool}
        (e : r.op.endEffect (s.port p).ctx (r.transfer p s).1.image = (d, ok)) :
        ((s.port p).operationEnds (r.transfer p s).1).ctx = d
          ∧ ((s.port p).operationEnds (r.transfer p s).1).notices.contextDone = some ok := by
      rw [ctx, told, op, e]
      exact ⟨rfl, rfl⟩
    exact ⟨run, jobs, fun hrest => PortState.operationEnds_idle _ _ (by rw [hj]; exact hrest),
      fun hop hmem => memRead_transfer_save ha hop hmem,
      fun hop => by rw [ContextRun.transfer_restore ha hop],
      fun hop => effect (endEffect_save hop), fun hop => effect (endEffect_saveEnv hop),
      fun hop d hd => effect (endEffect_restore hop (by rw [read (.inl hop)]; exact hd)),
      fun hop hd => effect (endEffect_restore_invalid hop (by rw [read (.inl hop)]; exact hd)),
      fun hop d hd => effect (endEffect_restoreEnv hop (by rw [read (.inr hop)]; exact hd)),
      fun hop hd => effect (endEffect_restoreEnv_invalid hop (by rw [read (.inr hop)]; exact hd))⟩

end Sys2Proof.Machine

/-! SUPPORT. SAVE NOW: the head dropped, the image written and the context reinitialised (O42). -/

namespace Sys2Proof.Machine

/-! ### Words written at ascending offsets (R113) -/

@[simp] theorem State.windowOf_writeWord (s : State) (id id' : WindowId) (off : Nat) (v : Word) :
    (s.writeWord id off v).windowOf id' = s.windowOf id' := by
  rw [State.writeWord_eq]
  cases id' <;> rfl

@[simp] theorem State.port_writeWords (s : State) (id : WindowId) (off : Nat) (vs : List Word) (p : Port) :
    (s.writeWords id off vs).port p = s.port p := by
  rw [State.writeWords_eq]
  rfl

/-- The windows do not depend on the engine. -/
theorem State.windowOf_engine (s : State) (e : Engine) (id : WindowId) : { s with engine := e }.windowOf id = s.windowOf id := by
  cases id <;> rfl

section
variable {s : State} {id : WindowId} {w : Window} (hw : s.windowOf id = some w) (hin : w.Inside)
include hw hin

/-- An offset of an open window inside the memory resolves to its base plus the offset. -/
theorem State.resolve_of_inside {off : Nat} (h : off < w.length) : s.resolve id off = .address (w.base + off) := by
  obtain ⟨-, hbound⟩ := hin
  have haddr : addressAt w.base off = some (w.base + off) := if_pos (by omega)
  simp only [State.resolve, hw, if_pos h, haddr]

/-- The words of a list written inside a window, and no other word. -/
theorem memRead_writeWords {vs : List Word} {off : Nat} (hmem : s.MemoryCanonical) (hlen : off + vs.length ≤ w.length)
    (a : Nat) : memRead (s.writeWords id off vs).mem a =
      if w.base + off ≤ a ∧ a < w.base + off + vs.length then vs.getD (a - (w.base + off)) 0 else memRead s.mem a := by
  induction vs generalizing s off with
  | nil => exact (if_neg fun h => absurd h.2 (Nat.not_lt.mpr h.1)).symm
  | cons v vs ih =>
    rw [List.length_cons] at hlen
    have first := State.mem_writeWord (w := v) (State.resolve_of_inside hw hin (off := off) (by omega))
    show memRead ((s.writeWord id off v).writeWords id (off + 1) vs).mem a = _
    rw [ih ((s.windowOf_writeWord id id off v).trans hw) (State.memoryCanonical_writeWord hmem id off v) (by omega), first,
      memRead_memWrite _ hmem, List.length_cons]
    by_cases hfirst : a = w.base + off
    · rw [if_neg (by omega), if_pos hfirst, if_pos (by omega), hfirst, Nat.sub_self, List.getD_cons_zero]
    · rw [if_neg hfirst]
      by_cases hrest : w.base + (off + 1) ≤ a ∧ a < w.base + (off + 1) + vs.length
      · have place : a - (w.base + off) = a - (w.base + (off + 1)) + 1 := by omega
        rw [if_pos hrest, if_pos (by omega), place, List.getD_cons_succ]
      · rw [if_neg hrest, if_neg (by omega)]

end

/-! ### The image (R151) -/

theorem Context.environment_length (c : Context) : c.environment.length = 8 := rfl

theorem length_flatMap_accWords (l : List Acc) : (l.flatMap accWords).length = 3 * l.length := by
  induction l with
  | nil => rfl
  | cons a l ih =>
    rw [List.flatMap_cons, List.length_append, ih, List.length_cons]
    show 3 + 3 * l.length = _
    omega

theorem Context.fullImage_length (c : Context) : c.fullImage.length = 32 := by
  rw [Context.fullImage, List.length_append, c.environment_length, length_flatMap_accWords, Vector.length_toList]

/-! ### The work at the head is dropped (R158, first step) -/

/-- The head leaves the queue when it has begun, a context operation stopped with it. -/
def PortState.headStopped (ps : PortState) : PortState :=
  if ps.headBegun then ({ ps with ctxRun := none } : PortState).leaves else ps

/-- The engine once a head that has begun is dropped: no job pass of the port. -/
def State.engineStopped (s : State) (p : Port) : Engine :=
  if (s.port p).headBegun then discardPass p s.engine else s.engine

theorem stopHead_eq (p : Port) (s : State) :
    stopHead p s = { s with engine := s.engineStopped p }.modPort p PortState.headStopped := by
  unfold stopHead State.engineStopped
  split
  · next h =>
    rw [leaveQueue_eq, State.modPort_modPort]
    exact State.modPort_congr ((if_pos h).symm)
  · next h =>
    have kept : (s.port p).headStopped = s.port p := if_neg h
    show s = s.modPort p PortState.headStopped
    rw [State.modPort, kept, State.port, vset_get_self]

section
variable {ps : PortState}

@[simp] theorem PortState.headStopped_ctx (ps : PortState) : ps.headStopped.ctx = ps.ctx := by
  unfold PortState.headStopped
  split
  · exact PortState.leaves_ctx _
  · rfl

@[simp] theorem PortState.headStopped_replies (ps : PortState) : ps.headStopped.replies = ps.replies := by
  unfold PortState.headStopped
  split
  · rw [PortState.leaves_eq]
  · rfl

@[simp] theorem PortState.headStopped_windows (ps : PortState) : ps.headStopped.windows = ps.windows := by
  unfold PortState.headStopped
  split
  · rw [PortState.leaves_eq]
  · rfl

theorem PortState.headBegun_of_head {e : QueueEntry} {rest : List QueueEntry} (hj : ps.jobs = e :: rest)
    (he : e.condition ≠ .waiting) : ps.headBegun = true := by
  simp only [PortState.headBegun, hj, bne_iff_ne, ne_eq, he, not_false_eq_true]

theorem PortState.headBegun_of_waiting (h : ∀ e rest, ps.jobs = e :: rest → e.condition = .waiting) :
    ps.headBegun = false := by
  unfold PortState.headBegun
  split
  · next e rest hj => simp [h e rest hj]
  · rfl

/-- A head that has begun leaves the queue, and JOBS_IDLE tells an empty one (R131). -/
theorem PortState.headStopped_begun (h : ps.headBegun = true) : ps.headStopped.jobs = ps.jobs.drop 1
    ∧ ps.headStopped.ctxRun = none ∧ (ps.jobs.drop 1 = [] → ps.headStopped.notices.jobsIdle = true) := by
  rw [PortState.headStopped, if_pos h]
  refine ⟨PortState.leaves_jobs _, ?_, fun hrest => PortState.leaves_idle hrest⟩
  rw [PortState.leaves_eq]

theorem PortState.headStopped_not_begun (h : ps.headBegun = false) : ps.headStopped = ps := by
  rw [PortState.headStopped, h]
  rfl

end

/-! ### SAVE NOW (R158) -/

section
variable {s : State} {p : Port} {pl : List Word}

theorem saveNow_of_refused {st : Status} (h : checkPlace p pl 32 s = .inr st) : saveNow p pl s = (s, st, []) := by
  rw [saveNow, h]
  rfl

/-- The state after a SAVE NOW at this place: the head dropped, the image written, the context reinitialised. -/
def State.savedNow (s : State) (p : Port) (plc : Place) : State :=
  ((stopHead p s).writeWords (plc.name.of p) plc.offset (s.port p).ctx.fullImage).modPort p
    fun ps => { ps with ctx := .initial }

theorem saveNow_of_place {plc : Place} (h : checkPlace p pl 32 s = .inl plc) :
    saveNow p pl s = (s.savedNow p plc, .ok, []) := by
  have ctx : ((stopHead p s).port p).ctx = (s.port p).ctx := by
    rw [stopHead_eq, State.port_modPort_same, PortState.headStopped_ctx]
    rfl
  simp only [saveNow, h, ctx, State.savedNow]

theorem State.savedNow_engine (s : State) (p : Port) (plc : Place) : (s.savedNow p plc).engine = s.engineStopped p := by
  rw [State.savedNow, State.engine_modPort, State.writeWords_eq, stopHead_eq]
  rfl

theorem State.savedNow_port_same (s : State) (p : Port) (plc : Place) :
    (s.savedNow p plc).port p = { (s.port p).headStopped with ctx := .initial } := by
  rw [State.savedNow, State.port_modPort_same, State.port_writeWords, stopHead_eq, State.port_modPort_same]
  rfl

theorem State.savedNow_port_ne {q : Port} (plc : Place) (h : q ≠ p) : (s.savedNow p plc).port q = s.port q := by
  rw [State.savedNow, State.port_modPort_ne _ _ _ _ h, State.port_writeWords, stopHead_eq, State.port_modPort_ne _ _ _ _ h]
  rfl

/-- The 32 words of the image stand at the place, and no other word has changed. -/
theorem State.memRead_savedNow {plc : Place} {w : Window} (hw : s.windowOf (plc.name.of p) = some w) (hin : w.Inside)
    (hlen : plc.offset + 32 ≤ w.length) (hmem : s.MemoryCanonical) (a : Nat) : memRead (s.savedNow p plc).mem a =
      if w.base + plc.offset ≤ a ∧ a < w.base + plc.offset + 32
      then (s.port p).ctx.fullImage.getD (a - (w.base + plc.offset)) 0 else memRead s.mem a := by
  have length := (s.port p).ctx.fullImage_length
  have window : (stopHead p s).windowOf (plc.name.of p) = some w := by
    rw [stopHead_eq, State.windowOf_modPort _ _ PortState.headStopped_windows]
    exact (State.windowOf_engine s _ _).trans hw
  have mem : (stopHead p s).mem = s.mem := by
    rw [stopHead_eq]
    rfl
  have canonical : (stopHead p s).MemoryCanonical := by rwa [State.MemoryCanonical, mem]
  rw [State.savedNow, State.mem_modPort, memRead_writeWords window hin canonical (by rw [length]; exact hlen), length, mem]

end

/-- Settles O42: the two refusals, and what a SAVE NOW leaves of the memory, the context, the queue and the engine. -/
theorem saveNowWritesImage : Obligations.SaveNowWritesImage := by
  unfold Obligations.SaveNowWritesImage
  refine ⟨fun s f nm off h hoff => ?refused, fun s f nm off w h hoff hw hin hlen hmem => ?saved⟩
  case refused =>
    refine ⟨fun hw => finish_command h rfl rfl (saveNow_of_refused (checkPlace_of_closed hoff ?_)),
      fun w hw hlen => finish_command h rfl rfl (saveNow_of_refused ?_)⟩
    · rwa [receive_windowOf]
    · rw [checkPlace_of_open hoff ((receive_windowOf f s _).trans hw), if_pos hlen]
  case saved =>
    have window := (receive_windowOf f s (nm.of f.port)).trans hw
    have place : checkPlace f.port [nm.word, off] 32 (receive f s) = .inl ⟨nm, off.toNat⟩ := by
      rw [checkPlace_of_open hoff window, if_neg (Nat.not_lt.mpr hlen)]
    have jobs := receive_port_jobs f s f.port
    have canonical : (receive f s).MemoryCanonical := by rwa [State.MemoryCanonical, receive_mem]
    have row := finish_command (code := 0x51) h rfl rfl (saveNow_of_place place)
    have mem := State.memRead_savedNow (plc := ⟨nm, off.toNat⟩) window hin hlen canonical
    have engine := (receive f s).savedNow_engine f.port ⟨nm, off.toNat⟩
    have own := (receive f s).savedNow_port_same f.port ⟨nm, off.toNat⟩
    have others (p : Port) (hp : p ≠ f.port) := (State.savedNow_port_ne ⟨nm, off.toNat⟩ hp).trans (receive_port_ne f s hp)
    generalize (receive f s).savedNow f.port ⟨nm, off.toNat⟩ = t at row mem engine own others
    rw [receive_port_ctx, receive_mem] at mem
    rw [State.engineStopped, receive_engine] at engine
    refine ⟨_, row, mem, ?_⟩
    rw [State.port_reply, if_pos rfl, own]
    refine ⟨rfl, congrArg (· ++ _) (PortState.headStopped_replies _), fun e rest hjobs he => ?begun, fun hwait => ?waits,
      fun p hp => ?others⟩
    case begun =>
      have begun : ((receive f s).port f.port).headBegun = true := PortState.headBegun_of_head (jobs.trans hjobs) he
      obtain ⟨left, run, idle⟩ := PortState.headStopped_begun begun
      rw [jobs, hjobs] at left idle
      rw [if_pos begun] at engine
      exact ⟨left, run, idle, fun j hj => discardPass_port ((congrArg Engine.jobPass engine).symm.trans hj)⟩
    case waits =>
      have waits : ((receive f s).port f.port).headBegun = false := PortState.headBegun_of_waiting (by rwa [jobs])
      rw [waits] at engine
      rw [PortState.headStopped_not_begun waits]
      exact ⟨jobs, engine⟩
    case others => rw [State.port_reply, if_neg hp, others p hp]

end Sys2Proof.Machine

/-! SUPPORT. The image of a context: what its words carry, and which words are an image (O41). -/

namespace Sys2Proof.Machine

/-! ### Fields of words -/

/-- A bit of a word, as a number. -/
theorem boolNat_getLsbD (w : Word) (i : Nat) : boolNat (w.getLsbD i) = wordField w i 1 := by
  rw [wordField, ← BitVec.testBit_toNat, Nat.testBit_eq_decide_div_mod_eq]
  rcases Nat.mod_two_eq_zero_or_one (w.toNat / 2 ^ i) with h | h <;> simp [boolNat, h]

theorem boolNat_le (b : Bool) : boolNat b ≤ 1 := by cases b <;> decide

theorem boolNat_inj {a b : Bool} : boolNat a = boolNat b ↔ a = b := by cases a <;> cases b <;> decide

theorem Rounding.code_lt (r : Rounding) : r.code < 3 := by cases r <;> decide

theorem Tag.code_lt (t : Tag) : t.code < 3 := by cases t <;> decide

theorem Tag.code_eq_zero {t : Tag} : t.code = 0 ↔ t = .empty := by cases t <;> decide

theorem Rounding.code_inj {a b : Rounding} : a.code = b.code ↔ a = b := by cases a <;> cases b <;> decide

theorem Tag.code_inj {a b : Tag} : a.code = b.code ↔ a = b := by cases a <;> cases b <;> decide

theorem Tag.ofCode_eq_some {n : Nat} {t : Tag} : Tag.ofCode n = some t ↔ t.code = n := by
  constructor
  · intro h
    unfold Tag.ofCode at h
    split at h <;> cases h <;> rfl
  · rintro rfl
    cases t <;> rfl

/-- A code below 3 is the code of a tag. -/
theorem Tag.exists_code {n : Nat} (h : n < 3) : ∃ t : Tag, t.code = n := by
  interval_cases n
  · exact ⟨.empty, rfl⟩
  · exact ⟨.valid, rfl⟩
  · exact ⟨.wrapped, rfl⟩

theorem Rounding.exists_code {n : Nat} (h : n < 3) : ∃ r : Rounding, r.code = n := by
  interval_cases n
  · exact ⟨.nearest, rfl⟩
  · exact ⟨.towardZero, rfl⟩
  · exact ⟨.down, rfl⟩

/-! ### The tags of a word (R187) -/

/-- A word gives eight tags just when each has its code in its two bits. -/
theorem tagsOfWord_eq_some {w : Word} {tags : Vector Tag 8} :
    tagsOfWord w = some tags ↔ ∀ j : Fin 8, (tags.get j).code = wordField w (2 * j.val) 2 := by
  have code (j : Nat) (t : Tag) : Tag.ofCode ((w >>> (2 * j)) &&& 3).toNat = some t ↔ t.code = wordField w (2 * j) 2 := by
    rw [toNat_two_bits, Tag.ofCode_eq_some]
  simp only [tagsOfWord, Option.bind_eq_bind, Option.bind_eq_some_iff, code, Option.pure_def, Option.some.injEq]
  constructor
  · rintro ⟨t0, h0, t1, h1, t2, h2, t3, h3, t4, h4, t5, h5, t6, h6, t7, h7, rfl⟩ j
    fin_cases j
    exacts [h0, h1, h2, h3, h4, h5, h6, h7]
  · intro h
    refine ⟨_, h 0, _, h 1, _, h 2, _, h 3, _, h 4, _, h 5, _, h 6, _, h 7, vector_ext_get fun j => ?_⟩
    fin_cases j <;> rfl

/-! ### The fields that an image's words carry (R151, R187) -/

/-- The fields of the context are those that the words carry, the unused bits aside; all but the stack values. -/
structure Context.Carried (d : Context) (ws : List Word) : Prop where
  masks        : d.masks.toNat = wordField (ws.getD 0 0) 0 5
  rounding     : d.rounding.code = wordField (ws.getD 0 0) 5 2
  flags        : d.flags.toNat = wordField (ws.getD 1 0) 0 5
  errorPending : boolNat d.errorPending = wordField (ws.getD 1 0) 5 1
  c0           : boolNat d.c0 = wordField (ws.getD 1 0) 6 1
  c1           : boolNat d.c1 = wordField (ws.getD 1 0) 7 1
  c2           : boolNat d.c2 = wordField (ws.getD 1 0) 8 1
  c3           : boolNat d.c3 = wordField (ws.getD 1 0) 9 1
  top          : d.top.val = wordField (ws.getD 1 0) 10 3
  tags         : ∀ j : Fin 8, (d.tags.get j).code = wordField (ws.getD 2 0) (2 * j.val) 2
  lastKind     : d.lastKind.toNat = wordField (ws.getD 3 0) 0 8
  lastWindow   : d.lastWindow = referenceBits (ws.getD 4 0)
  lastOffset   : d.lastOffset = ws.getD 5 0

/-- Words carry the fields of at most one context with a given stack. -/
theorem Context.Carried.unique {d e : Context} {ws : List Word} (hd : d.Carried ws) (he : e.Carried ws)
    (hs : d.stack = e.stack) : d = e := by
  have tags : d.tags = e.tags := vector_ext_get fun j => Tag.code_inj.mp ((hd.tags j).trans (he.tags j).symm)
  have top : d.top = e.top := Fin.ext (hd.top.trans he.top.symm)
  have masks : d.masks = e.masks := BitVec.eq_of_toNat_eq (hd.masks.trans he.masks.symm)
  have flags : d.flags = e.flags := BitVec.eq_of_toNat_eq (hd.flags.trans he.flags.symm)
  have kind : d.lastKind = e.lastKind := BitVec.eq_of_toNat_eq (hd.lastKind.trans he.lastKind.symm)
  cases d
  cases e
  simp only [Context.mk.injEq]
  exact ⟨masks, Rounding.code_inj.mp (hd.rounding.trans he.rounding.symm), flags,
    boolNat_inj.mp (hd.errorPending.trans he.errorPending.symm), boolNat_inj.mp (hd.c0.trans he.c0.symm),
    boolNat_inj.mp (hd.c1.trans he.c1.symm), boolNat_inj.mp (hd.c2.trans he.c2.symm),
    boolNat_inj.mp (hd.c3.trans he.c3.symm), top, tags, hs, kind, hd.lastWindow.trans he.lastWindow.symm,
    hd.lastOffset.trans he.lastOffset.symm⟩

/-- The context with the fields of these words, its rounding mode and tags as read from them. -/
def Context.taken (c : Context) (ws : List Word) (m : Rounding) (tags : Vector Tag 8) : Context :=
  { ({ c with masks := (ws.getD 0 0).setWidth 5, rounding := m } : Context).withStatus (ws.getD 1 0) with
    tags := tags, lastKind := (ws.getD 3 0).setWidth 8, lastWindow := referenceBits (ws.getD 4 0), lastOffset := ws.getD 5 0 }

section
variable {c d : Context} {ws : List Word} {m : Rounding} {tags : Vector Tag 8}
  (hm : m.code = wordField (ws.getD 0 0) 5 2) (ht : ∀ j : Fin 8, (tags.get j).code = wordField (ws.getD 2 0) (2 * j.val) 2)
include hm ht

theorem Context.taken_carried (c : Context) : (c.taken ws m tags).Carried ws where
  masks := by
    show ((ws.getD 0 0).setWidth 5).toNat = _
    rw [BitVec.toNat_setWidth, wordField, pow_zero, Nat.div_one]
  rounding := hm
  flags := by
    show ((ws.getD 1 0).setWidth 5).toNat = _
    rw [BitVec.toNat_setWidth, wordField, pow_zero, Nat.div_one]
  errorPending := boolNat_getLsbD _ 5
  c0 := boolNat_getLsbD _ 6
  c1 := boolNat_getLsbD _ 7
  c2 := boolNat_getLsbD _ 8
  c3 := boolNat_getLsbD _ 9
  top := by
    show ((ws.getD 1 0) >>> 10).toNat % 8 = _
    rw [BitVec.toNat_ushiftRight, Nat.shiftRight_eq_div_pow]
    rfl
  tags := ht
  lastKind := by
    show ((ws.getD 3 0).setWidth 8).toNat = _
    rw [BitVec.toNat_setWidth, wordField, pow_zero, Nat.div_one]
  lastWindow := rfl
  lastOffset := rfl

/-- Words with valid codes load their fields when the tags form one run from TOP (R156). -/
theorem Context.loadEnvironment_of_codes (c : Context) : c.loadEnvironment ws =
    if tagsContiguous tags (c.taken ws m tags).top = true then some (c.taken ws m tags) else none := by
  have control := Context.withControl_of_code (c := c) (hm.trans (toNat_two_bits _ 5).symm)
  have read := tagsOfWord_eq_some.mpr ht
  simp only [Context.loadEnvironment, control, read, Option.bind_eq_bind, Option.bind_some]
  rfl

end

/-- What words load: a context whose fields they carry, with the stack as it stood, and its tags one run from TOP. -/
theorem Context.loadEnvironment_eq_some {c d : Context} {ws : List Word} : c.loadEnvironment ws = some d ↔
    d.Carried ws ∧ d.stack = c.stack ∧ tagsContiguous d.tags d.top = true := by
  constructor
  · intro h
    obtain ⟨e, hcontrol, tags, htags, -⟩ : ∃ e, c.withControl (ws.getD 0 0) = some e ∧
        ∃ tags, tagsOfWord (ws.getD 2 0) = some tags ∧ _ := by
      simpa only [Context.loadEnvironment, Option.bind_eq_bind, Option.bind_eq_some_iff] using h
    obtain ⟨m, hm, -⟩ := Option.map_eq_some_iff.mp hcontrol
    have code := (Rounding.ofCode_eq_some.mp hm).trans (toNat_two_bits _ 5)
    have codes := tagsOfWord_eq_some.mp htags
    rw [Context.loadEnvironment_of_codes code codes] at h
    split at h
    · next hrun =>
      cases h
      exact ⟨Context.taken_carried code codes c, rfl, hrun⟩
    · cases h
  · rintro ⟨hd, hs, hrun⟩
    have same : c.taken ws d.rounding d.tags = d := (Context.taken_carried hd.rounding hd.tags c).unique hd hs.symm
    rw [Context.loadEnvironment_of_codes hd.rounding hd.tags, same, if_pos hrun]

theorem Context.Carried.withStack {d : Context} {ws : List Word} (h : d.Carried ws) (v : Vector Acc 8) :
    ({ d with stack := v } : Context).Carried ws := { h with }

/-- The eight stack values of a full image. -/
def imageStack (ws : List Word) : Vector Acc 8 :=
  #v[imageEntry ws 0, imageEntry ws 1, imageEntry ws 2, imageEntry ws 3, imageEntry ws 4, imageEntry ws 5, imageEntry ws 6,
    imageEntry ws 7]

theorem imageStack_get (ws : List Word) (j : Fin 8) : (imageStack ws).get j = imageEntry ws j.val := by
  fin_cases j <;> rfl

/-- What the words of a full image load: the stack values too. -/
theorem Context.loadFull_eq_some {c d : Context} {ws : List Word} : c.loadFull ws = some d ↔
    d.Carried ws ∧ d.stack = imageStack ws ∧ tagsContiguous d.tags d.top = true := by
  have full : c.loadFull ws = (c.loadEnvironment ws).map fun e => { e with stack := imageStack ws } := rfl
  rw [full, Option.map_eq_some_iff]
  constructor
  · rintro ⟨e, he, rfl⟩
    obtain ⟨hcarried, -, hrun⟩ := Context.loadEnvironment_eq_some.mp he
    exact ⟨hcarried.withStack _, rfl, hrun⟩
  · rintro ⟨hd, hs, hrun⟩
    refine ⟨{ d with stack := c.stack }, Context.loadEnvironment_eq_some.mpr ⟨hd.withStack _, rfl, hrun⟩, ?_⟩
    rw [← hs]

theorem Context.loadFull_eq_none {c : Context} {ws : List Word} : c.loadFull ws = none ↔ c.loadEnvironment ws = none :=
  Option.map_eq_none_iff

/-! ### Which images are invalid (R156) -/

/-- The tag code, TOP and depth that an image's words give. -/
def imageTag (ws : List Word) (j : Nat) : Nat := wordField (ws.getD 2 0) (2 * j) 2
def imageTop (ws : List Word) : Nat := wordField (ws.getD 1 0) 10 3
def imageDepth (ws : List Word) : Nat := ((List.range 8).filter fun j => imageTag ws j ≠ 0).length

/-- The tags that are not EMPTY form one run from TOP. -/
def imageRun (ws : List Word) : Prop := ∀ i < 8, (imageTag ws ((imageTop ws + i) % 8) ≠ 0 ↔ i < imageDepth ws)

section
variable {c d : Context} {ws : List Word}

theorem Context.Carried.tag_ne_empty (h : d.Carried ws) (j : Fin 8) : d.tags.get j ≠ .empty ↔ imageTag ws j.val ≠ 0 := by
  rw [imageTag, ← h.tags j, ne_eq, ne_eq, Tag.code_eq_zero]

theorem Context.Carried.depth (h : d.Carried ws) : tagDepth d.tags = imageDepth ws := by
  rw [tagDepth, imageDepth, Vector.toList_eq_map_get, ← List.map_coe_finRange_eq_range, List.filter_map, List.filter_map,
    List.length_map, List.length_map]
  refine congrArg List.length (List.filter_congr fun j _ => ?_)
  show (d.tags.get j != .empty) = decide (imageTag ws j.val ≠ 0)
  rw [Bool.eq_iff_iff, bne_iff_ne, decide_eq_true_eq]
  exact h.tag_ne_empty j

theorem Context.Carried.contiguous (h : d.Carried ws) : tagsContiguous d.tags d.top = true ↔ imageRun ws := by
  rw [tagsContiguous, List.all_eq_true]
  refine forall_congr' fun i => imp_congr List.mem_range ?_
  have tag := h.tag_ne_empty (d.top + Fin.ofNat 8 i)
  have place : (d.top + Fin.ofNat 8 i).val = (imageTop ws + i) % 8 := by
    rw [Fin.val_add, Fin.val_ofNat, h.top, Nat.add_mod_mod]
    rfl
  rw [place] at tag
  rw [h.depth, beq_iff_eq, Bool.eq_iff_iff, bne_iff_ne, decide_eq_true_eq, tag]

/-- An image is invalid exactly for its rounding code, a tag code of 3, or tags that are not one run from TOP. -/
theorem Context.loadEnvironment_eq_none : c.loadEnvironment ws = none ↔
    wordField (ws.getD 0 0) 5 2 = 3 ∨ (∃ j < 8, imageTag ws j = 3) ∨ ¬ imageRun ws := by
  rw [← not_iff_not, ← ne_eq, Option.ne_none_iff_exists']
  push Not
  constructor
  · rintro ⟨d, h⟩
    obtain ⟨hd, -, hrun⟩ := Context.loadEnvironment_eq_some.mp h
    refine ⟨?_, fun j hj => ?_, hd.contiguous.mp hrun⟩
    · rw [← hd.rounding]
      exact Nat.ne_of_lt d.rounding.code_lt
    · rw [imageTag, ← hd.tags ⟨j, hj⟩]
      exact Nat.ne_of_lt (Tag.code_lt _)
  · rintro ⟨hround, htag, hrun⟩
    have below {w : Word} {low : Nat} (h : wordField w low 2 ≠ 3) : wordField w low 2 < 3 :=
      Nat.lt_of_le_of_ne (Nat.le_of_lt_succ (Nat.mod_lt _ (by decide))) h
    obtain ⟨m, hm⟩ := Rounding.exists_code (below hround)
    choose tag ht using fun j : Fin 8 => Tag.exists_code (below (htag j.val j.isLt))
    have codes (j : Fin 8) : ((Vector.ofFn tag).get j).code = wordField (ws.getD 2 0) (2 * j.val) 2 := by
      rw [Vector.get_ofFn, ht j]
    have carried := Context.taken_carried hm codes c
    exact ⟨_, Context.loadEnvironment_eq_some.mpr ⟨carried, rfl, carried.contiguous.mpr hrun⟩⟩

end

/-! ### The image of a context carries it (R151) -/

theorem tagCodes_lt (l : List Tag) : l.foldr (fun t n => t.code + 4 * n) 0 < 4 ^ l.length := by
  induction l with
  | nil => decide
  | cons t l ih =>
    have := t.code_lt
    rw [List.foldr_cons, List.length_cons, pow_succ]
    omega

/-- Two bits of the tag codes put together are the code of one tag. -/
theorem tagCodes_field (l : List Tag) (j : Nat) (h : j < l.length) :
    l.foldr (fun t n => t.code + 4 * n) 0 / 4 ^ j % 4 = l[j].code := by
  induction l generalizing j with
  | nil => exact absurd h (Nat.not_lt_zero j)
  | cons t l ih =>
    have := t.code_lt
    rw [List.foldr_cons]
    cases j with
    | zero =>
      rw [List.getElem_cons_zero, pow_zero]
      omega
    | succ j =>
      have drop (n : Nat) : (t.code + 4 * n) / 4 = n := by omega
      rw [pow_succ', ← Nat.div_div_eq_div_mul, drop, List.getElem_cons_succ]
      exact ih j (Nat.lt_of_succ_lt_succ h)

section
variable (c : Context)

theorem Context.toNat_controlWord : c.controlWord.toNat = c.masks.toNat + 32 * c.rounding.code := by
  have := c.rounding.code_lt
  rw [Context.controlWord, BitVec.toNat_ofNat, Nat.mod_eq_of_lt (by omega)]

theorem Context.toNat_statusWord : c.statusWord.toNat = c.flags.toNat + 32 * boolNat c.errorPending + 64 * boolNat c.c0
    + 128 * boolNat c.c1 + 256 * boolNat c.c2 + 512 * boolNat c.c3 + 1024 * c.top.val := by
  have := boolNat_le c.errorPending
  have := boolNat_le c.c0
  have := boolNat_le c.c1
  have := boolNat_le c.c2
  have := boolNat_le c.c3
  rw [Context.statusWord, BitVec.toNat_ofNat, Nat.mod_eq_of_lt (by omega)]

theorem Context.tagsWord_field (j : Fin 8) : (c.tags.get j).code = wordField c.tagsWord (2 * j.val) 2 := by
  have codes := tagCodes_field c.tags.toList j.val (by simp)
  have bound := tagCodes_lt c.tags.toList
  rw [Vector.length_toList, show 4 ^ 8 = 2 ^ 16 from rfl] at bound
  rw [wordField, Context.tagsWord, BitVec.toNat_ofNat, Nat.mod_eq_of_lt bound, pow_mul]
  exact (codes.trans (congrArg Tag.code (by simp [Vector.get]))).symm

/-- Words that begin with the environment image carry the context, if its last-job window has no unused bit set. -/
theorem Context.environment_carried (h : c.lastWindow &&& 0x1F00 = 0) (rest : List Word) :
    c.Carried (c.environment ++ rest) := by
  have control : (c.environment ++ rest).getD 0 0 = c.controlWord := rfl
  have status : (c.environment ++ rest).getD 1 0 = c.statusWord := rfl
  have code := c.rounding.code_lt
  have pending := boolNat_le c.errorPending
  have bit0 := boolNat_le c.c0
  have bit1 := boolNat_le c.c1
  have bit2 := boolNat_le c.c2
  have bit3 := boolNat_le c.c3
  constructor
  case masks | rounding =>
    rw [control, wordField, c.toNat_controlWord]
    omega
  case flags | errorPending | c0 | c1 | c2 | c3 | top =>
    rw [status, wordField, c.toNat_statusWord]
    omega
  case tags => exact c.tagsWord_field
  case lastKind =>
    show c.lastKind.toNat = wordField (c.lastKind.setWidth 16) 0 8
    rw [wordField, BitVec.toNat_setWidth]
    omega
  case lastWindow =>
    show c.lastWindow = c.lastWindow &&& 0xE0FF
    have all : c.lastWindow &&& (0xE0FF ||| 0x1F00) = c.lastWindow := BitVec.and_allOnes
    rw [BitVec.and_or_distrib_left, h] at all
    exact all.symm.trans BitVec.or_zero
  case lastOffset => rfl

end

theorem getD_flatMap_accWords (l : List Acc) {j i : Nat} (hj : j < l.length) (hi : i < 3) :
    (l.flatMap accWords).getD (3 * j + i) 0 = (accWords l[j]).getD i 0 := by
  induction l generalizing j with
  | nil => exact absurd hj (Nat.not_lt_zero j)
  | cons a l ih =>
    have three : (accWords a).length = 3 := rfl
    rw [List.flatMap_cons]
    cases j with
    | zero =>
      rw [Nat.mul_zero, Nat.zero_add, List.getD_append _ _ _ _ (three ▸ hi)]
      rfl
    | succ j =>
      have place : 3 * (j + 1) + i - 3 = 3 * j + i := by omega
      rw [List.getD_append_right _ _ _ _ (by rw [three]; omega), three, place]
      exact ih (Nat.lt_of_succ_lt_succ hj)

/-- The three words of a value give the value. -/
theorem accOfWords_accWords (a : Acc) :
    accOfWords ((accWords a).getD 0 0) ((accWords a).getD 1 0) ((accWords a).getD 2 0) = a := by
  show a.extractLsb' 32 16 ++ a.extractLsb' 16 16 ++ a.extractLsb' 0 16 = a
  rw [BitVec.extractLsb'_append_extractLsb'_eq_extractLsb' (start₂ := 32) (start₁ := 16) rfl,
    BitVec.extractLsb'_append_extractLsb'_eq_extractLsb' (start₂ := 16) (start₁ := 0) rfl]
  exact BitVec.extractLsb'_eq_self

/-- A full image gives the stack it was taken of. -/
theorem imageStack_fullImage (c : Context) : imageStack c.fullImage = c.stack := by
  refine vector_ext_get fun j => ?_
  have word (i : Nat) (hi : i < 3) : c.fullImage.getD (8 + i + 3 * j.val) 0 = (accWords (c.stack.get j)).getD i 0 := by
    have place : 8 + i + 3 * j.val - 8 = 3 * j.val + i := by omega
    rw [Context.fullImage, List.getD_append_right _ _ _ _ (by rw [c.environment_length]; omega), c.environment_length, place,
      getD_flatMap_accWords _ (by simp) hi]
    simp [Vector.get]
  rw [imageStack_get, imageEntry]
  exact (congr (congr (congrArg accOfWords (word 0 (by decide))) (word 1 (by decide))) (word 2 (by decide))).trans
    (accOfWords_accWords _)

/-- Settles O41: an image carries its context and words carry one context only; what words load, and when they load nothing,
is read from the fields they carry. -/
theorem savedImageRestoresContext : Obligations.SavedImageRestoresContext := by
  unfold Obligations.SavedImageRestoresContext
  refine ⟨fun c d hrun hwindow => ?saved, fun c ws => ?words⟩
  case saved =>
    have environment := c.environment_carried hwindow []
    rw [List.append_nil] at environment
    exact ⟨c.fullImage_length, c.environment_length,
      Context.loadFull_eq_some.mpr ⟨c.environment_carried hwindow _, (imageStack_fullImage c).symm, hrun⟩,
      Context.loadEnvironment_eq_some.mpr ⟨environment.withStack _, rfl, hrun⟩⟩
  case words =>
    refine ⟨Context.loadEnvironment_eq_none, Context.loadFull_eq_none.trans Context.loadEnvironment_eq_none,
      fun d h => ?environment, fun d h => ?full⟩
    case environment =>
      obtain ⟨hd, hs, -⟩ := Context.loadEnvironment_eq_some.mp h
      exact ⟨⟨hd.masks, hd.rounding, hd.flags, hd.errorPending, hd.c0, hd.c1, hd.c2, hd.c3, hd.top, hd.tags, hd.lastKind,
        hd.lastWindow, hd.lastOffset⟩, hs⟩
    case full =>
      obtain ⟨hd, hs, -⟩ := Context.loadFull_eq_some.mp h
      refine ⟨⟨hd.masks, hd.rounding, hd.flags, hd.errorPending, hd.c0, hd.c1, hd.c2, hd.c3, hd.top, hd.tags, hd.lastKind,
        hd.lastWindow, hd.lastOffset⟩, fun j => ?_⟩
      rw [hs, imageStack_get]
      rfl

end Sys2Proof.Machine
